-- ==== Sys2Proof/Config.lean ====
section
/-! DEFINITION. What the manual leaves free. Constants with no body: no proof can see their values. -/

namespace Sys2Proof

/-- FREE VALUE (log entry 2). Of several events that can be taken at one moment, the place in the list of the one taken
next; read at the model's own counter `State.tieBreak`. The manual says only "whichever is taken first". -/
opaque Config.tieBreak : Nat → Nat

/-- FREE VALUE (log entry 27). The four bytes in which a latency goes upstream that its field cannot hold. R49 and R98
give the latency as a signed count of µs and 10 gives it four bytes; neither says what they carry for a latency beyond
them. -/
opaque Config.wideLatency : Int → BitVec 32

end Sys2Proof
end

