-- ==== Sys2Proof/Word.lean ====
section
/-! DEFINITION. The words the LT-880 handles as bits, and the two index types of its banks of contexts. -/

namespace Sys2Proof

/-- One byte on a link. -/
abbrev Byte := BitVec 8

/-- A 16-bit microsecond stamp of the key sensor rail (R48, R119). -/
abbrev Stamp := BitVec 16

/-- Performance time, a 32-bit count of 10 µs units (R1). -/
abbrev PT := BitVec 32

/-- An instrument key: the key numbered `k.val + 1` of the piano, 1..88 (R19, R25). -/
abbrev Key := Fin 88

/-- A pedal: the pedal numbered `p.val + 1`, 1..3 (R30). -/
abbrev Pedal := Fin 3

/-- The number of an instrument key on the links, 1..88. -/
abbrev keyNo (k : Key) : Nat := k.val + 1

/-- The number of a pedal on the links, 1..3. -/
abbrev pedalNo (p : Pedal) : Nat := p.val + 1

end Sys2Proof
end

