-- ==== Sys2Proof/Syntax.lean ====
section
/-! DEFINITION. The commands of the LT-880: one constructor for each row of spec/opcode_table.json, with the row's operands. -/

namespace Sys2Proof

/-- The level of a four-level strap (00_scope, Pins and electrical summary). -/
inductive StrapLevel where
  | level0
  | lowResistor
  | float
  | level1
  deriving DecidableEq, Repr

/-- The two key trip points of a KeyTrip frame (R119, R123). -/
inductive KeyPoint where
  | k1
  | k2
  deriving DecidableEq, Repr

/-- The direction byte of a KeyTrip frame (R119). -/
inductive Direction where
  | down
  | up
  deriving DecidableEq, Repr

/-- The two hammer gates of a HammerTrip frame (R119, R123). -/
inductive Gate where
  | g1
  | g2
  deriving DecidableEq, Repr

/-- The commands the block takes. A good frame carries its Tag and what its Kind leaves open; bytes that are no good frame
stand as they are; a timer of a key or pedal carries the key or pedal. Operands of the Sensor Link and the Rail Link that
only say which bytes the frame has stand last, 0 or empty where a command names none. -/
inductive Instr where
  /-- POWER_ON_RESET (R4): the straps are sampled. -/
  | powerOnReset (rateSel roleSel : StrapLevel)
  /-- PT_TICK (R1). -/
  | ptTick
  /-- NOTE_ON (R59). -/
  | noteOn (tag : Byte) (payload : List Byte)
  /-- NOTE_OFF (R67). -/
  | noteOff (tag : Byte) (payload : List Byte)
  /-- PEDAL_TARGET (R71). -/
  | pedalTarget (tag : Byte) (payload : List Byte)
  /-- CONFIGURE (R6). -/
  | configure (tag : Byte) (payload : List Byte)
  /-- START (R7). -/
  | start (tag : Byte) (payload : List Byte)
  /-- HOLD (R8). -/
  | hold (tag : Byte) (payload : List Byte)
  /-- RESUME (R18). -/
  | resume (tag : Byte) (payload : List Byte)
  /-- STOP (R9). -/
  | stop (tag : Byte) (payload : List Byte)
  /-- RESTART (R14). -/
  | restart (tag : Byte) (payload : List Byte)
  /-- CLEAR_ERRORS (R15). -/
  | clearErrors (tag : Byte) (payload : List Byte)
  /-- CLOCK_SET (R16). -/
  | clockSet (tag : Byte) (payload : List Byte)
  /-- CLOCK_LATCH (R17). -/
  | clockLatch (tag : Byte) (payload : List Byte)
  /-- TABLE_WRITE (R34). -/
  | tableWrite (tag : Byte) (payload : List Byte)
  /-- TABLE_READ (R36). -/
  | tableRead (tag : Byte) (payload : List Byte)
  /-- CALIBRATE_QUICK (R158). -/
  | calibrateQuick (tag : Byte) (payload : List Byte)
  /-- CALIBRATE_SWEEP (R158). -/
  | calibrateSweep (tag : Byte) (payload : List Byte)
  /-- RAIL_PASS_THROUGH (R153). -/
  | railPassThrough (tag : Byte) (payload : List Byte)
  /-- UNKNOWN (R178): a good frame of a Kind the part does not take. -/
  | unknown (kind tag : Byte) (payload : List Byte)
  /-- HUNT (R173): bytes taken by a receiver in Hunt. -/
  | hunt (bytes : List Byte)
  /-- VERIFY (R174): bytes taken by a receiver in Verify. -/
  | verify (bytes : List Byte)
  /-- CRC_ERROR (R175): the bytes of a frame with a wrong Check. -/
  | crcError (bytes : List Byte)
  /-- FRAMING_ERROR (R176): the bytes taken of a frame with no Sync or a Length over 124. -/
  | framingError (bytes : List Byte)
  /-- LINK_LOSS_STOP (R11). -/
  | linkLossStop
  /-- FRAME_BOUNDARY (R181). -/
  | frameBoundary
  /-- STATUS_SPACING (R183). -/
  | statusSpacing
  /-- IDLE (R121): a Sensor Link Idle frame. -/
  | idle (tag : Byte := 0)
  /-- KEYTRIP (R124): a K1 or K2 crossing. -/
  | keyTrip (note : Byte) (point : KeyPoint) (direction : Direction) (stamp : Stamp) (tag : Byte := 0)
  /-- HAMMERTRIP (R124): a G1 or G2 crossing. -/
  | hammerTrip (note : Byte) (gate : Gate) (stamp : Stamp) (tag : Byte := 0)
  /-- PEDALSAMPLE (R114): the raw values of pedals 1, 2 and 3. -/
  | pedalSample (raw1 raw2 raw3 : BitVec 16) (tag : Byte := 0)
  /-- SENSOR_BAD_FRAME (R120): the bytes taken on SNIN of a frame that is not good. -/
  | sensorBadFrame (bytes : List Byte := [])
  /-- LOSS_WINDOW_EXPIRY (R120). -/
  | lossWindowExpiry
  /-- PUSH_TIMER_EXPIRY (R89) of one key's drive context. -/
  | pushTimerExpiry (key : Key)
  /-- GATE_TIMER_EXPIRY (R95) of one key's drive context. -/
  | gateTimerExpiry (key : Key)
  /-- REST_TIMER_EXPIRY (R92) of one key's drive context. -/
  | restTimerExpiry (key : Key)
  /-- SENSORLESS_RELEASE_TIMER (R93) of one key's drive context. -/
  | sensorlessReleaseTimer (key : Key)
  /-- CAPTURE_GATE_TIMEOUT (R129) of one key's capture context. -/
  | captureGateTimeout (key : Key)
  /-- REST_WAIT_EXPIRY (R163). -/
  | restWaitExpiry
  /-- SETTLE_EXPIRY (R163). -/
  | settleExpiry
  /-- RATE_GAP_END (R108) of one pedal's replay context. -/
  | rateGapEnd (pedal : Pedal)
  /-- ACK (R145): the Tag carries the sequence number; a Payload makes it malformed (R147). -/
  | ack (tag : Byte) (payload : List Byte)
  /-- RAIL_REPLY (R155). -/
  | railReply (payload : List Byte) (tag : Byte := 0)
  /-- RAIL_UNEXPECTED_FRAME (R147): a good rail frame of another Kind. -/
  | railUnexpectedFrame (kind : Byte) (tag : Byte := 0) (payload : List Byte := [])
  /-- RAIL_BAD_FRAME (R141): the bytes taken on RLIN of a frame that is not good. -/
  | railBadFrame (bytes : List Byte := [])
  /-- ACKNOWLEDGEMENT_WINDOW (R146). -/
  | acknowledgementWindow
  /-- RAIL_TRANSMIT_END (R143). -/
  | railTransmitEnd
  /-- PARK_TIMER (R149). -/
  | parkTimer
  /-- DISCARDED_SENSOR_FRAME (R121): a good Sensor Link frame of invalid content. -/
  | discardedSensorFrame (kind tag : Byte := 0) (payload : List Byte := [])
  deriving DecidableEq, Repr

end Sys2Proof
end

