-- ==== Sys2Proof/Decode.lean ====
section
/-! DEFINITION. The frame envelope of the three links (R172), its Check, the judgement of a byte stream against it
(R173 to R176, R120, R141), and the command each good frame stands for (R119, R121, R140, R141, R178). No row of
spec/opcode_table.json gives bits, so `decodeTableWord` spells no command. -/

namespace Sys2Proof

/-- A frame less its Sync, Length and Check (R172). -/
structure Frame where
  kind : Byte
  tag : Byte
  payload : List Byte
  deriving DecidableEq, Repr

/-- The first and second Sync bytes (R172). -/
def syncFirst : Byte := 0xA7

/-- The second Sync byte (R172). -/
def syncSecond : Byte := 0x3C

/-- The greatest Length of a frame (R172). -/
def maxLength : Nat := 124

/-- One bit of the division by x^16 + x^12 + x^5 + 1 (R172). -/
def crcBit (x : BitVec 16) : BitVec 16 :=
  if x.msb then (x <<< 1) ^^^ 0x1021#16 else x <<< 1

/-- `n` bits of the division. -/
def crcBits : Nat → BitVec 16 → BitVec 16
  | 0, x => x
  | n + 1, x => crcBits n (crcBit x)

/-- A byte enters the remainder most significant bit first (R172). -/
def crcByte (crc : BitVec 16) (b : Byte) : BitVec 16 :=
  crcBits 8 (crc ^^^ (b.setWidth 16 <<< 8))

/-- The CRC-16 of R172: starts at 0xFFFF, no reflection, no final inversion. -/
def crc16 (bs : List Byte) : BitVec 16 :=
  bs.foldl crcByte 0xFFFF#16

/-- The two bytes of a 16-bit field, most significant first. -/
def bytes16 (v : BitVec 16) : List Byte :=
  [(v >>> 8).setWidth 8, v.setWidth 8]

/-- The four bytes of a 32-bit field, most significant first. -/
def bytes32 (v : BitVec 32) : List Byte :=
  [(v >>> 24).setWidth 8, (v >>> 16).setWidth 8, (v >>> 8).setWidth 8, v.setWidth 8]

/-- The bytes the Check is formed over: Kind, Length, Tag and Payload (R172). -/
def checkedBytes (f : Frame) : List Byte :=
  f.kind :: BitVec.ofNat 8 f.payload.length :: f.tag :: f.payload

/-- A frame as it stands on a link (R172). -/
def encodeFrame (f : Frame) : List Byte :=
  syncFirst :: syncSecond :: checkedBytes f ++ bytes16 (crc16 (checkedBytes f))

/-- The number of bytes of a frame on a link (R172). -/
def frameBytes (f : Frame) : Nat := 7 + f.payload.length

/-- What a receiver finds at the byte where a frame must begin. -/
inductive Verdict where
  /-- The bytes taken so far decide nothing. -/
  | needMore
  /-- The first two bytes are not the Sync. -/
  | noSync
  /-- The Length exceeds 124. -/
  | overLength
  /-- The Check is wrong; the bytes after the Check. -/
  | badCheck (rest : List Byte)
  /-- A good frame; the bytes after it. -/
  | good (f : Frame) (rest : List Byte)
  deriving DecidableEq, Repr

/-- The judgement of the bytes from the one at which a frame must begin (R173 to R176, R120). A Length over 124 is judged
once the Tag behind it has been taken: R173 says so of Hunt; for Verify, Locked, SNIN and RLIN the manual names no byte,
and the same is the model's choice. So is that a missing Sync is judged once two bytes have been taken, even where the
first is not 0xA7 (log entry 31). -/
def judge : List Byte → Verdict
  | b0 :: b1 :: rest =>
    if b0 = syncFirst ∧ b1 = syncSecond then
      match rest with
      | kind :: len :: tag :: body =>
        if maxLength < len.toNat then .overLength
        else if body.length < len.toNat + 2 then .needMore
        else
          let f : Frame := ⟨kind, tag, body.take len.toNat⟩
          let after := body.drop len.toNat
          if after.take 2 = bytes16 (crc16 (kind :: len :: tag :: f.payload)) then .good f (after.drop 2)
          else .badCheck (after.drop 2)
      | _ => .needMore
    else .noSync
  | _ => .needMore

/-- What scanning for a candidate in Hunt comes to: nothing yet, with the bytes still to be examined, or a good
frame, with the bytes after it. -/
inductive HuntResult where
  | waiting (kept : List Byte)
  | found (rest : List Byte)
  deriving DecidableEq, Repr

/-- Scanning in Hunt (R173): a candidate begins at a Sync pair; after a rejection scanning resumes at the byte after
the 0xA7 that began it. -/
def huntScan : List Byte → HuntResult
  | [] => .waiting []
  | b :: bs =>
    match judge (b :: bs) with
    | .good _ rest => .found rest
    | .needMore => if b = syncFirst then .waiting (b :: bs) else huntScan bs
    | _ => huntScan bs

/-- The Kind codes of the frames the part takes on the Performance Link (R178). -/
def knownKinds : List Byte :=
  [0x01, 0x02, 0x03, 0x10, 0x11, 0x12, 0x13, 0x14, 0x15, 0x16, 0x17, 0x18, 0x20, 0x21, 0x22, 0x23, 0x30]

/-- The command a good frame taken in Locked is delivered as (R178). -/
def performanceCommand (f : Frame) : Instr :=
  match f.kind.toNat with
  | 0x01 => .noteOn f.tag f.payload
  | 0x02 => .noteOff f.tag f.payload
  | 0x03 => .pedalTarget f.tag f.payload
  | 0x10 => .configure f.tag f.payload
  | 0x11 => .start f.tag f.payload
  | 0x12 => .hold f.tag f.payload
  | 0x13 => .resume f.tag f.payload
  | 0x14 => .stop f.tag f.payload
  | 0x15 => .restart f.tag f.payload
  | 0x16 => .clearErrors f.tag f.payload
  | 0x17 => .clockSet f.tag f.payload
  | 0x18 => .clockLatch f.tag f.payload
  | 0x20 => .tableWrite f.tag f.payload
  | 0x21 => .tableRead f.tag f.payload
  | 0x22 => .calibrateQuick f.tag f.payload
  | 0x23 => .calibrateSweep f.tag f.payload
  | 0x30 => .railPassThrough f.tag f.payload
  | _ => .unknown f.kind f.tag f.payload

/-- The command a frame found at the receiver's place in Locked stands for, with the bytes after it: a good frame is
delivered (R178), a wrong Check is a CRC_ERROR (R175), a missing Sync or a Length over 124 a FRAMING_ERROR (R176). -/
def lockedCommand (bs : List Byte) : Option (Instr × List Byte) :=
  match judge bs with
  | .needMore => none
  | .good f rest => some (performanceCommand f, rest)
  | .badCheck rest => some (.crcError (bs.take (bs.length - rest.length)), rest)
  | .noSync => some (.framingError bs, [])
  | .overLength => some (.framingError bs, [])

/-! ## The byte receivers of SNIN and RLIN (R120, R141) -/

/-- The place of a receiver in the byte stream of SNIN or RLIN. -/
structure ByteIn where
  /-- The bytes taken and not yet judged, the one at which the next frame must begin first. -/
  buffer : List Byte
  /-- Whether the receiver scans for the next Sync, after a Length over 124 or a missing Sync. -/
  scanning : Bool
  deriving DecidableEq, Repr

/-- A receiver at the byte where the next frame must begin, with nothing taken. -/
def ByteIn.start : ByteIn := ⟨[], false⟩

/-- Scanning for the next Sync: the bytes from the first 0xA7 that 0x3C follows, or from an 0xA7 that stands last. -/
def scanSync : List Byte → List Byte
  | [] => []
  | [b] => if b = syncFirst then [b] else []
  | b :: c :: rest => if b = syncFirst ∧ c = syncSecond then b :: c :: rest else scanSync (c :: rest)

/-- Bytes are taken: a receiver that scans keeps those from the next Sync on, and has found its place when it has the
Sync whole. -/
def takeBytes (r : ByteIn) (bytes : List Byte) : ByteIn :=
  if r.scanning then ⟨scanSync (r.buffer ++ bytes), decide ((scanSync (r.buffer ++ bytes)).length < 2)⟩
  else ⟨r.buffer ++ bytes, false⟩

/-- The receiver after a bad frame of these bytes (R120): a wrong Check leaves it at the byte after the frame, a missing
Sync or a Length over 124 scanning from the byte after the frame's first (log entry 20). -/
def afterBadFrame (bytes : List Byte) : ByteIn :=
  match judge bytes with
  | .badCheck rest => ⟨rest, false⟩
  | _ => takeBytes ⟨[], true⟩ (bytes.drop 1)

/-- The frame found at the receiver's place, as the command it stands for, with the bytes after it; none while the bytes
taken decide nothing. -/
def lineFrame (good : Frame → Instr) (bad : List Byte → Instr) (r : ByteIn) : Option (Instr × List Byte) :=
  if r.scanning then none
  else
    match judge r.buffer with
    | .needMore => none
    | .good f rest => some (good f, rest)
    | .badCheck rest => some (bad (r.buffer.take (r.buffer.length - rest.length)), rest)
    | .noSync => some (bad r.buffer, [])
    | .overLength => some (bad r.buffer, [])

/-- The point byte of a KeyTrip (R119). -/
def keyPointOf? (b : Byte) : Option KeyPoint :=
  if b = 1 then some .k1 else if b = 2 then some .k2 else none

/-- The direction byte of a KeyTrip (R119). -/
def directionOf? (b : Byte) : Option Direction :=
  if b = 0 then some .down else if b = 1 then some .up else none

/-- The gate byte of a HammerTrip (R119). -/
def gateOf? (b : Byte) : Option Gate :=
  if b = 1 then some .g1 else if b = 2 then some .g2 else none

/-- The point byte as sent (R119). -/
def keyPointByte (p : KeyPoint) : Byte :=
  match p with
  | .k1 => 1
  | .k2 => 2

/-- The direction byte as sent (R119). -/
def directionByte (d : Direction) : Byte :=
  match d with
  | .down => 0
  | .up => 1

/-- The gate byte as sent (R119). -/
def gateByte (g : Gate) : Byte :=
  match g with
  | .g1 => 1
  | .g2 => 2

/-- A note byte names a key of the piano when it lies in 1..88. -/
def validNote (b : Byte) : Bool := decide (1 ≤ b.toNat ∧ b.toNat ≤ 88)

/-- The command a good Sensor Link frame stands for (R119, R121); invalid content is DISCARDED_SENSOR_FRAME. -/
def sensorCommand (f : Frame) : Instr :=
  match f.kind.toNat, f.payload with
  | 0x50, [] => .idle f.tag
  | 0x51, [note, point, dir, s1, s0] =>
    match validNote note, keyPointOf? point, directionOf? dir with
    | true, some p, some d => .keyTrip note p d (s1 ++ s0) f.tag
    | _, _, _ => .discardedSensorFrame f.kind f.tag f.payload
  | 0x52, [note, gate, s1, s0] =>
    match validNote note, gateOf? gate with
    | true, some g => .hammerTrip note g (s1 ++ s0) f.tag
    | _, _ => .discardedSensorFrame f.kind f.tag f.payload
  | 0x53, [a1, a0, b1, b0, c1, c0] => .pedalSample (a1 ++ a0) (b1 ++ b0) (c1 ++ c0) f.tag
  | _, _ => .discardedSensorFrame f.kind f.tag f.payload

/-- The frame of a KeyTrip on SNIN (R119). -/
def keyTripFrame (tag note : Byte) (p : KeyPoint) (d : Direction) (stamp : Stamp) : Frame :=
  ⟨0x51, tag, note :: keyPointByte p :: directionByte d :: bytes16 stamp⟩

/-- The frame of a HammerTrip on SNIN (R119). -/
def hammerTripFrame (tag note : Byte) (g : Gate) (stamp : Stamp) : Frame :=
  ⟨0x52, tag, note :: gateByte g :: bytes16 stamp⟩

/-- The frame of a PedalSample on SNIN (R119). -/
def pedalSampleFrame (tag : Byte) (raw1 raw2 raw3 : BitVec 16) : Frame :=
  ⟨0x53, tag, bytes16 raw1 ++ bytes16 raw2 ++ bytes16 raw3⟩

/-- The command a good frame on RLIN stands for (R140, R141). -/
def railCommand (f : Frame) : Instr :=
  match f.kind.toNat with
  | 0x70 => .ack f.tag f.payload
  | 0x71 => .railReply f.payload f.tag
  | _ => .railUnexpectedFrame f.kind f.tag f.payload

/-- The command a word of the table spells. No row of spec/opcode_table.json gives bits, so none does. -/
def decodeTableWord (_nbits _w : Nat) : Option Instr := none

end Sys2Proof
end

