-- ==== Sys2Proof/Machine/Types.lean ====
section
/-! DEFINITION. The records the blocks of the LT-880 hold, as plain data. -/

namespace Sys2Proof.Machine

/-! ## Performance Clock (01) -/

/-- The part state (R4); its Status codes are 0..4 in this order. -/
inductive PartState where
  | unconfigured
  | stopped
  | running
  | held
  | faulted
  deriving DecidableEq, Repr

/-- The stop cause (R4); its Status codes are 0..3 in this order. -/
inductive StopCause where
  | none
  | request
  | linkLoss
  | railFault
  deriving DecidableEq, Repr

/-- What the Performance Clock holds beside local time (R1, R4, R11). -/
structure Clock where
  /-- Performance time (R1). -/
  pt : PT
  /-- The part state (R4). -/
  part : PartState
  /-- The stop cause (R4). -/
  cause : StopCause
  /-- The local time at which the link-loss timer expires; none while it is stopped (R11). -/
  linkLoss : Option Nat
  /-- The local time at which the present PT unit began: entry to Running, or the last increment (R1). -/
  unitStart : Nat
  deriving DecidableEq, Repr

/-! ## Table Store (02) -/

/-- A point of a curve: its x value and its y value (R41). -/
structure CurvePoint where
  x : Nat
  y : Nat
  deriving DecidableEq, Repr

/-- A curve of eight points (R19, R30, R41). -/
structure Curve where
  p1 : CurvePoint
  p2 : CurvePoint
  p3 : CurvePoint
  p4 : CurvePoint
  p5 : CurvePoint
  p6 : CurvePoint
  p7 : CurvePoint
  p8 : CurvePoint
  deriving DecidableEq, Repr

/-- The selected curve of a key (R19). -/
inductive CurveSelect where
  | a
  | b
  deriving DecidableEq, Repr

/-- A calibration record (R19). -/
structure CalRecord where
  curveA : Curve
  curveB : Curve
  leadCurve : Curve
  selected : CurveSelect
  /-- Level offset, −255..+255. -/
  levelOffset : Int
  /-- Level ceiling, 0..1023. -/
  ceiling : Nat
  /-- Hold level, 0..1023. -/
  holdLevel : Nat
  /-- Push limit in ms, 5..80. -/
  pushLimit : Nat
  /-- Gate spacing in µm, 1000..6000. -/
  gateSpacing : Nat
  /-- Reference level, 0..1023. -/
  refLevel : Nat
  /-- Firm limit in mm/s, 50..6000. -/
  firmLimit : Nat
  /-- Lead trim in µs, −2000..+2000. -/
  leadTrim : Int
  /-- Repetition gap in µs, 2000..30000. -/
  repGap : Nat
  deriving DecidableEq, Repr

/-- The role of a key (R25); its codes are 0..3 in this order (R28). -/
inductive Role where
  | replay
  | capture
  | both
  | muted
  deriving DecidableEq, Repr

/-- A Key Map entry: channel 0 (none) or 1..88, and role (R25). -/
structure MapEntry where
  channel : Nat
  role : Role
  deriving DecidableEq, Repr

/-- A Pedal Table record (R30). -/
structure PedalRecord where
  curve : Curve
  /-- Lead in µs, 0..60000. -/
  lead : Nat
  /-- Deadband, 1..64. -/
  deadband : Nat
  /-- Rate gap in ms, 1..20. -/
  rateGap : Nat
  deriving DecidableEq, Repr

/-- The Configuration Record (R32). -/
structure ConfigRecord where
  captureEnable : Bool
  replayEnable : Bool
  /-- Late limit in PT units, 0..5000. -/
  lateLimit : Nat
  /-- Sensor delay in PT units, 0..255. -/
  sensorDelay : Nat
  /-- Park parameter, 0..255. -/
  park : Nat
  autoTrim : Bool
  /-- Transpose, −12..+12. -/
  transpose : Int
  deriving DecidableEq, Repr

/-- The four tables of the Table Store. -/
structure Tables where
  cal : Vector CalRecord 88
  keyMap : Vector MapEntry 88
  pedal : Vector PedalRecord 3
  config : ConfigRecord
  deriving DecidableEq, Repr

/-! ## Action Queue (04) -/

/-- A strike: the values computed at intake that it keeps (R22, R73). -/
structure Strike where
  key : Key
  channel : Nat
  /-- Planned action time (R43). -/
  planned : PT
  /-- Target speed in mm/s (R42). -/
  speed : Nat
  /-- Drive level (R42). -/
  level : Nat
  /-- Planned lead T1 in µs (R43). -/
  lead : Nat
  event : BitVec 16
  /-- Deferral count, 0..16 (R78). -/
  deferrals : Nat
  late : Bool
  clamped : Bool
  ceiling : Bool
  deriving DecidableEq, Repr

/-- The three kinds of action (R73). A strike in the queue also carries the action time of its own Release, the
first Release for its key queued after it, once that is queued (R80). -/
inductive ActionBody where
  | strike (s : Strike) (ownRelease : Option PT)
  | release (key : Key) (channel : Nat) (implicit : Bool)
  | pedal (pedal : Pedal) (position : Nat)
  deriving DecidableEq, Repr

/-- A queued action: its current action time, its intake order number, its body (R73). -/
structure Action where
  time : PT
  order : Nat
  body : ActionBody
  deriving DecidableEq, Repr

/-- An intake record (R63). -/
structure IntakeRecord where
  isOpen : Bool
  last : Option PT
  deriving DecidableEq, Repr

/-- What the Action Queue holds (R63, R73, R84). -/
structure ActionQueue where
  /-- The queued actions, head first (R74). -/
  actions : List Action
  intake : Vector IntakeRecord 88
  /-- The intake order number of the next action queued (R73). -/
  nextOrder : Nat
  lastFlush : Nat
  deriving DecidableEq, Repr

/-! ## Key Drive Controller (05) -/

/-- The state of a drive context (R85). -/
inductive DriveState where
  | idle
  | pushing
  | holding
  | releasing
  deriving DecidableEq, Repr

/-- The push stage of a Pushing context (R85). -/
inductive PushStage where
  | waiting
  | sent
  deriving DecidableEq, Repr

/-- What a drive context is driving its key for: a strike, or a calibration probe at a level on a channel (R85). -/
inductive DriveJob where
  | strike (s : Strike)
  | probe (channel level : Nat)
  deriving DecidableEq, Repr

/-- A drive context (R85). -/
structure DriveContext where
  state : DriveState
  job : Option DriveJob
  stage : PushStage
  /-- The current action time the strike was handed over with, its planned one moved by its deferrals (R22, R73); absent for
  a probe. -/
  actionTime : Option PT
  /-- PT at the sending of the Push. -/
  issue : Option PT
  /-- Local time of the sending of the Push (R53). -/
  sentAt : Option Nat
  /-- Local time at which the push timer expires; none while it is stopped. -/
  pushTimer : Option Nat
  /-- Local time at which the gate timer expires; none while it is stopped. -/
  gateTimer : Option Nat
  /-- Whether the measurement is open. -/
  measuring : Bool
  /-- The stamp of the last G1 of this push. -/
  g1 : Option Stamp
  /-- The NotMeasured mark (R96). -/
  notMeasured : Bool
  trimEligible : Bool
  rearmed : Bool
  /-- Local time of the sending of the Release, or of a Release All. -/
  releaseSent : Option Nat
  /-- Local time at which the rest timer expires. -/
  restTimer : Option Nat
  /-- Local time at which the sensorless release timer expires. -/
  sensorlessTimer : Option Nat
  /-- Set from a Restart until its Release All is sent or removed (R103). -/
  restarting : Bool
  deriving DecidableEq, Repr

/-- The fourteen flags of a Strike Report (10, Frame layouts). -/
structure StrikeFlags where
  late : Bool := false
  deferred : Bool := false
  redeferred : Bool := false
  clamped : Bool := false
  ceiling : Bool := false
  missed : Bool := false
  abandoned : Bool := false
  channelOff : Bool := false
  masked : Bool := false
  outOfRange : Bool := false
  outOfOrder : Bool := false
  queueFull : Bool := false
  noArrival : Bool := false
  notMeasured : Bool := false
  deriving DecidableEq, Repr

/-- A Strike Report (R81, R98). -/
structure StrikeReport where
  event : BitVec 16
  /-- The instrument key, or the note as sent for OutOfRange. -/
  note : Nat
  channel : Nat
  planned : PT
  issue : PT
  targetSpeed : Nat
  levelSent : Nat
  measuredSpeed : Nat
  /-- Measured latency in µs, signed. -/
  latency : Int
  deferrals : Nat
  flags : StrikeFlags
  deriving DecidableEq, Repr

/-- A Probe Report (R162). -/
structure ProbeReport where
  note : Nat
  index : Nat
  level : Nat
  arrived : Bool
  speed : Nat
  latency : Nat
  deriving DecidableEq, Repr

/-- The kind of a calibration run (R159); its codes are 0 and 1 in this order (R166). -/
inductive RunKind where
  | quick
  | sweep
  deriving DecidableEq, Repr

/-- A Calibration Result (R166). -/
structure CalResult where
  note : Nat
  kind : RunKind
  noOnset : Bool := false
  noArrival : Bool := false
  noChannel : Bool := false
  aborted : Bool := false
  onset : Nat := 0
  adjusted : Nat := 0
  offset : Int := 0
  curve : CurveSelect := .a
  speed : Nat := 0
  deriving DecidableEq, Repr

/-- An entry of the Report FIFO (R100). -/
inductive Report where
  | strike (r : StrikeReport)
  | probe (r : ProbeReport)
  | calibration (r : CalResult)
  deriving DecidableEq, Repr

/-! ## Pedal Controller (06) -/

/-- The state of a pedal replay context (R105). -/
inductive ReplayState where
  | ready
  | requested
  | spacing
  | waiting
  deriving DecidableEq, Repr

/-- A pedal replay context (R105). -/
structure PedalReplay where
  state : ReplayState
  commanded : Nat
  waiting : Option Nat
  lastSent : Option Nat
  deriving DecidableEq, Repr

/-- A pedal capture context (R113). -/
structure PedalCapture where
  current : Nat
  reported : Nat
  gap : Bool
  deriving DecidableEq, Repr

/-! ## Sensor Receiver and Capture Engine (07) -/

/-- The Sensor Link (R120, R122). -/
structure SensorLink where
  up : Bool
  /-- Consecutive good frames while lost. -/
  goodCount : Nat
  /-- Consecutive bad frames while up. -/
  badCount : Nat
  /-- Local time at which the loss window expires; none while the link is lost. -/
  window : Option Nat
  deriving DecidableEq, Repr

/-- The state of a capture context (R126). -/
inductive CaptureState where
  | rest
  | descending
  | gated
  | down
  | quiet
  | rearmed
  deriving DecidableEq, Repr

/-- A capture context (R126). -/
structure CaptureContext where
  state : CaptureState
  /-- Down or Quiet, remembered while Rearmed and while Gated with restrike set. -/
  remembered : Option CaptureState
  announced : Bool
  restrike : Bool
  /-- Stamp and time of the G1 that began the present gate wait. -/
  g1 : Option (Stamp × PT)
  /-- Local time at which the gate timer expires; none while it is stopped. -/
  gateTimer : Option Nat
  deriving DecidableEq, Repr

/-- The closing cause of a captured Note-Off (R135); its codes are 0..4 in this order. -/
inductive ClosingCause where
  | keyUp
  | stop
  | fault
  | sensorLoss
  | drive
  deriving DecidableEq, Repr

/-- A captured event (R117, R135). -/
inductive CaptureEvent where
  | noteOn (key : Key) (time : PT) (speed : Nat) (restrike clamped gap held : Bool)
  | silent (key : Key) (time : PT) (gap held : Bool)
  | noteOff (key : Key) (time : PT) (cause : ClosingCause)
  | pedal (pedal : Pedal) (time : PT) (position : Nat) (gap held : Bool)
  deriving DecidableEq, Repr

/-- A crossing of a key's trip points; K1 and K2 with a direction (R123). -/
inductive Crossing where
  | k1Down
  | k1Up
  | k2Down
  | k2Up
  | g1 (stamp : Stamp)
  | g2 (stamp : Stamp)
  deriving DecidableEq, Repr

/-! ## Rail Controller (08) -/

/-- The rail state; its Status codes are 0..4 in this order. -/
inductive RailState where
  | active
  | parked
  | waking
  | off
  | faulted
  deriving DecidableEq, Repr

/-- A rail command as requested and as held in flight (R140, R142). A PedalSet names its pedal alone (R107); a
Release All says whether it is the recovery of R157, and whether a Restart requested it, alone or merged with others
(R142, R156). -/
inductive RailCmd where
  | push (key : Key) (channel level : Nat)
  | hold (key : Key) (channel level : Nat)
  | release (key : Key) (channel : Nat)
  | releaseAll (recovery restart : Bool)
  | pedalSet (pedal : Pedal)
  | park
  | unpark
  | passThrough (payload : List Byte)
  deriving DecidableEq, Repr

/-- An entry of the waiting list, with the local time of its request (R142). -/
structure Request where
  cmd : RailCmd
  time : Nat
  deriving DecidableEq, Repr

/-- An entry of the in-flight list (R145). -/
structure InFlight where
  seq : BitVec 4
  cmd : RailCmd
  /-- Whether its frame has been transmitted in full. -/
  transmitted : Bool
  deriving DecidableEq, Repr

/-- The frame in transmission on RLOUT (R144). -/
structure RailTx where
  frame : Frame
  /-- The moment at which it began, in twelfths of a µs of local time (log entry 5). -/
  start : Nat
  /-- Whether its command is still in the in-flight list (R148). -/
  live : Bool
  deriving DecidableEq, Repr

/-- What the Rail Controller holds. -/
structure Rail where
  state : RailState
  waiting : List Request
  inFlight : List InFlight
  /-- Local time at which the window of the oldest in-flight entry started (R146). -/
  window : Option Nat
  tx : Option RailTx
  seq : BitVec 4
  /-- Local time at which the park timer expires; none while it stands still (R149). -/
  parkTimer : Option Nat
  /-- Channel k at bit k − 1, pedal channel Pn at bit 87 + n (R154). -/
  mask : BitVec 91
  powerOff : Bool
  passQueue : List (List Byte)
  replies : List (List Byte)
  deriving DecidableEq, Repr

/-! ## Calibration Unit (09) -/

/-- The phase of a probe (R159). -/
inductive ProbePhase where
  | probing
  | awaitingRest
  | settling
  deriving DecidableEq, Repr

/-- What the context records of one probe (R159). -/
structure ProbeRecord where
  level : Nat
  arrived : Bool
  speed : Nat
  latency : Nat
  deriving DecidableEq, Repr

/-- The calibration context (R159). -/
structure CalContext where
  kind : RunKind
  first : Key
  last : Key
  base : Nat
  step : Nat
  upper : Nat
  adjust : Int
  current : Key
  channel : Nat
  index : Nat
  phase : ProbePhase
  /-- The probe record of the current note, by index. -/
  probes : List ProbeRecord
  /-- Request taken. -/
  taken : Bool
  /-- Local time at which the rest wait (AwaitingRest) or the settle (Settling) expires. -/
  timer : Option Nat
  deriving DecidableEq, Repr

/-! ## Link Controller and Request Decoder (10) -/

/-- The receiver state (10, The receiver). -/
inductive RxState where
  | hunt
  | verify
  | locked
  deriving DecidableEq, Repr

/-- A response code (R180); its values are 0..6 in this order. -/
inductive RespCode where
  | done
  | busy
  | invalid
  | outOfRange
  | notConfigured
  | railFault
  | unknown
  deriving DecidableEq, Repr

/-- The fields after the code of a Response (R180). -/
inductive RespFields where
  | plain
  | flush (count : Nat)
  | clock (pt : PT)
  | write (failing notApplied : Nat)
  | read (lastSent notSent : Nat)
  deriving DecidableEq, Repr

/-- A pending Response (R179, R180). -/
structure Response where
  kind : Byte
  tag : Byte
  code : RespCode
  fields : RespFields
  deriving DecidableEq, Repr

/-- The Table Read context (R36). -/
structure TableRead where
  tag : Byte
  table : Nat
  next : Nat
  lastAsked : Nat
  deriving DecidableEq, Repr

/-- The nine sticky flags (R15). -/
structure Sticky where
  crcError : Bool := false
  framingError : Bool := false
  eventsDiscarded : Bool := false
  queueFull : Bool := false
  captureOverrun : Bool := false
  reportsLost : Bool := false
  sensorLoss : Bool := false
  railFault : Bool := false
  passThroughLost : Bool := false
  deriving DecidableEq, Repr

/-- The content of a Status frame (R184). -/
structure Status where
  part : PartState
  cause : StopCause
  captureEnable : Bool
  replayEnable : Bool
  pt : PT
  free : Nat
  captureHeld : Nat
  reportsHeld : Nat
  rail : RailState
  sensorUp : Bool
  sticky : Sticky
  /-- 0 idle, or the current note 1..88. -/
  calibrating : Nat
  lastFlush : Nat
  deriving DecidableEq, Repr

/-- An upstream frame, with the content fixed at its choice (R182, R185). -/
inductive UpFrame where
  | response (r : Response)
  | tableData (table index : Nat) (record : List Byte)
  | capture (e : CaptureEvent)
  | report (r : Report)
  | railReply (payload : List Byte)
  | status (s : Status)
  deriving DecidableEq, Repr

/-- The frame in transmission on PLOUT (R181). -/
structure UpTx where
  frame : UpFrame
  /-- The moment at which it began, in twelfths of a µs of local time (log entry 5). -/
  start : Nat
  /-- Whether its end moves the Table Read in flight on (R37); cleared by a Restart (R39). -/
  advances : Bool
  deriving DecidableEq, Repr

/-- What the Link Controller holds. -/
structure Link where
  rx : RxState
  /-- The bytes taken on PLIN that the receiver has still to examine. -/
  buffer : List Byte
  /-- Consecutive bad frames in Locked (R175). -/
  badCount : Nat
  /-- The pending Responses, oldest first (R179). -/
  responses : List Response
  tx : Option UpTx
  /-- Local time at which the last Status frame was chosen; none after power-on reset (R183). -/
  lastStatus : Option Nat
  deriving DecidableEq, Repr

end Sys2Proof.Machine
end

