-- ==== Sys2Proof/Machine/Arith.lean ====
section
/-! DEFINITION. The Strike Calculator (03): comparison of PT values, rounding, curves, drive level, lead, placement in
time, lateness, measurement and calibration arithmetic. It holds no state. -/

namespace Sys2Proof.Machine

/-! ## Performance time (R2) -/

/-- `a` is earlier than `b`: (b − a) mod 2^32 lies in 1..2,147,483,647 (R2). -/
def earlier (a b : PT) : Bool := decide (1 ≤ (b - a).toNat ∧ (b - a).toNat ≤ 2147483647)

/-- The lateness of a time against a later now (R2). -/
def latenessOf (time now : PT) : Nat := (now - time).toNat

/-- The place of a time read forward from PT: its distance ahead, or minus its lateness (R74). -/
def place (pt time : PT) : Int :=
  if earlier time pt then -(latenessOf time pt : Int) else ((time - pt).toNat : Int)

/-- An action is due when its current action time is not later than PT (R2, R75). -/
def isDue (pt time : PT) : Bool := earlier time pt || time == pt

/-! ## Rounding and clamping (R40) -/

/-- n / d brought to the nearest integer, an exact half toward +∞ (R40). -/
def roundDiv (n : Int) (d : Nat) : Int := (2 * n + d) / (2 * d)

/-- Clamping of a natural number to lo..hi (00_scope, Conventions). -/
def clampNat (lo hi v : Nat) : Nat := if v < lo then lo else if hi < v then hi else v

/-- Clamping of an integer to lo..hi (00_scope, Conventions). -/
def clampInt (lo hi v : Int) : Int := if v < lo then lo else if hi < v then hi else v

/-! ## Curves (R41) -/

/-- The eight points of a curve in order. -/
def curvePoints (c : Curve) : List CurvePoint := [c.p1, c.p2, c.p3, c.p4, c.p5, c.p6, c.p7, c.p8]

/-- The value at v on the segment from p to q, computed exactly and rounded (R41). -/
def lerp (p q : CurvePoint) (v : Nat) : Nat :=
  (roundDiv ((p.y : Int) * ((q.x : Int) - p.x) + ((q.y : Int) - p.y) * ((v : Int) - p.x)) (q.x - p.x)).toNat

/-- The value at v on the segment that holds it, going up the points (R41). -/
def segment : List CurvePoint → Nat → Nat
  | p :: q :: rest, v => if v < q.x then lerp p q v else segment (q :: rest) v
  | [p], _ => p.y
  | [], _ => 0

/-- Curve interpolation (R41). -/
def interpolate (c : Curve) (v : Nat) : Nat :=
  if v ≤ c.p1.x then c.p1.y else if c.p8.x ≤ v then c.p8.y else segment (curvePoints c) v

/-- An input off the curve: below x1 or above x8 (R41). -/
def offCurve (c : Curve) (v : Nat) : Bool := decide (v < c.p1.x ∨ c.p8.x < v)

/-- The selected curve of a record (R19). -/
def selectedCurve (r : CalRecord) : Curve :=
  match r.selected with
  | .a => r.curveA
  | .b => r.curveB

/-! ## Drive level and lead (R42, R43) -/

/-- The target speed of a strike (R42, step 1). -/
def targetSpeed (carried : Nat) : Nat := clampNat 50 6000 carried

/-- L1 of R42, step 3. -/
def levelOne (r : CalRecord) (carried : Nat) : Nat :=
  (clampInt 0 1023 ((interpolate (selectedCurve r) (targetSpeed carried) : Int) + r.levelOffset)).toNat

/-- The drive level (R42, step 4). -/
def driveLevel (r : CalRecord) (carried : Nat) : Nat :=
  if r.ceiling < levelOne r carried then r.ceiling else levelOne r carried

/-- Whether the strike is marked Clamped (R42, steps 1 and 2). -/
def strikeClamped (r : CalRecord) (carried : Nat) : Bool :=
  decide (targetSpeed carried ≠ carried) || offCurve (selectedCurve r) (targetSpeed carried)

/-- Whether the strike is marked Ceiling (R42, step 4). -/
def strikeCeiling (r : CalRecord) (carried : Nat) : Bool := decide (r.ceiling < levelOne r carried)

/-- The planned lead T1 in µs (R43, steps 1 and 2). -/
def plannedLead (r : CalRecord) (carried : Nat) : Nat :=
  (clampInt 0 65535 ((interpolate r.leadCurve (targetSpeed carried) : Int) + r.leadTrim)).toNat

/-- A count of µs in PT units, rounded (R40: U = T1 / 10, P = lead / 10, G = gap / 10). -/
def ptUnits (us : Nat) : Nat := (roundDiv us 10).toNat

/-- A target less a distance in PT units, modulo 2^32 (R43, R45). -/
def before (target : PT) (u : Nat) : PT := target - BitVec.ofNat 32 u

/-! ## Placement in time (R44, R45) -/

/-- The lateness of an action placed u before its target, taken at now; none when it is not late (R44, cases 1 and
2). -/
def placementLateness (now target : PT) (u : Nat) : Option Nat :=
  if earlier target now then some (latenessOf target now + u)
  else if u ≤ (target - now).toNat then none
  else some (u - (target - now).toNat)

/-- The judgement of a Note-On at intake (R44). -/
inductive Judgement where
  | normal
  | late
  | missed
  deriving DecidableEq, Repr

/-- Normal, Late or Missed (R44). -/
def judgeIntake (now target : PT) (u lateLimit : Nat) : Judgement :=
  match placementLateness now target u with
  | none => .normal
  | some l => if l ≤ lateLimit then .late else .missed

/-- The current action time of a Release or pedal action (R45). -/
def placed (now target : PT) (u : Nat) : PT :=
  match placementLateness now target u with
  | none => before target u
  | some _ => now

/-- The strike a Note-On asks for, with the values computed at intake (R42, R43, R44), before its judgement is
applied. -/
def computeStrike (r : CalRecord) (k : Key) (channel carried : Nat) (target : PT) (event : BitVec 16) : Strike where
  key := k
  channel := channel
  planned := before target (ptUnits (plannedLead r carried))
  speed := targetSpeed carried
  level := driveLevel r carried
  lead := plannedLead r carried
  event := event
  deferrals := 0
  late := false
  clamped := strikeClamped r carried
  ceiling := strikeCeiling r carried

/-- The lateness at issue: 0 when the planned action time is not earlier than the issue PT (R46). -/
def latenessAtIssue (planned issue : PT) : Nat :=
  if earlier planned issue then latenessOf planned issue else 0

/-! ## Measurement (R47 to R50) -/

/-- The time given to a crossing or sample taken at PT (R47). -/
def crossingTime (pt : PT) (sensorDelay : Nat) : PT := pt - BitVec.ofNat 32 sensorDelay

/-- The interval between two gate stamps in µs; 0 is taken as 1 (R48, step 1). -/
def gateInterval (g1 g2 : Stamp) : Nat := if (g2 - g1).toNat = 0 then 1 else (g2 - g1).toNat

/-- The hammer speed before its clamp (R48, step 2). -/
def rawSpeed (spacing : Nat) (g1 g2 : Stamp) : Nat := (roundDiv (spacing * 1000 : Nat) (gateInterval g1 g2)).toNat

/-- The hammer speed (R48). -/
def hammerSpeed (spacing : Nat) (g1 g2 : Stamp) : Nat := clampNat 50 6000 (rawSpeed spacing g1 g2)

/-- Whether the clamp of R48 changed the speed. -/
def speedClamped (spacing : Nat) (g1 g2 : Stamp) : Bool :=
  decide (hammerSpeed spacing g1 g2 ≠ rawSpeed spacing g1 g2)

/-- The measured latency in µs, signed (R49). -/
def measuredLatency (arrival issue : PT) : Int :=
  if earlier arrival issue then -10 * ((issue - arrival).toNat : Int) else 10 * ((arrival - issue).toNat : Int)

/-- The step of an auto-trim update: error / 8, truncated (R40, R50). -/
def trimStep (error : Int) : Int := error.tdiv 8

/-- A lead trim corrected by an error (R50). -/
def trimmed (trim error : Int) : Int := clampInt (-2000) 2000 (trim + trimStep error)

/-- Whether an error lies within −20,000..+20,000 µs (R50). -/
def trimErrorOk (error : Int) : Bool := decide (-20000 ≤ error ∧ error ≤ 20000)

/-! ## Calibration arithmetic (R52 to R55) -/

/-- The level of probe j (R52). -/
def probeLevel (c : CalContext) (r : CalRecord) (j : Nat) : Nat :=
  match c.kind with
  | .sweep => min (min (c.base + j * c.step) 1023) r.ceiling
  | .quick => min r.refLevel r.ceiling

/-- The latency of a probe in µs of local time, clamped to 0 below (R53). -/
def probeLatency (sentAt now sensorDelay : Nat) : Nat := now - sentAt - 10 * sensorDelay

/-- The onset index: the lowest probe index that arrived (R54, step 1). -/
def onsetIndex (probes : List ProbeRecord) : Option Nat := probes.findIdx? (·.arrived)

/-- The adjusted index (R54, step 2). -/
def adjustedIndex (onset : Nat) (adjust : Int) (upper : Nat) : Nat :=
  min (clampInt 0 15 (onset + adjust)).toNat upper

/-- The new level offset (R54, steps 3 and 4). -/
def onsetOffset (r : CalRecord) (probes : List ProbeRecord) (adjusted : Nat) : Int :=
  clampInt (-255) 255 (((probes.map (·.level)).getD adjusted 0 : Int) - (selectedCurve r).p1.y)

/-- The curve a Quick key selects (R55). -/
def quickCurve (probe : ProbeRecord) (firmLimit : Nat) : CurveSelect :=
  if probe.arrived ∧ firmLimit ≤ probe.speed then .a else .b

end Sys2Proof.Machine
end

