-- ==== Sys2Proof/Machine/Defaults.lean ====
section
/-! DEFINITION. The values the tables and contexts hold after power-on reset (R19, R25, R30, R32, R85, R105, R113,
R126, R157, R187). -/

namespace Sys2Proof.Machine

/-- Default Curve A (R19). -/
def defaultCurveA : Curve :=
  ⟨⟨200, 180⟩, ⟨500, 260⟩, ⟨900, 340⟩, ⟨1400, 420⟩, ⟨2000, 520⟩, ⟨3000, 680⟩, ⟨4200, 860⟩, ⟨5600, 1000⟩⟩

/-- Default Curve B (R19). -/
def defaultCurveB : Curve :=
  ⟨⟨200, 240⟩, ⟨500, 320⟩, ⟨900, 400⟩, ⟨1400, 480⟩, ⟨2000, 580⟩, ⟨3000, 740⟩, ⟨4200, 920⟩, ⟨5600, 1023⟩⟩

/-- Default lead curve (R19). -/
def defaultLeadCurve : Curve :=
  ⟨⟨200, 42000⟩, ⟨500, 31000⟩, ⟨900, 24000⟩, ⟨1400, 19500⟩, ⟨2000, 16800⟩, ⟨3000, 14000⟩, ⟨4200, 12500⟩,
    ⟨5600, 11600⟩⟩

/-- The default calibration record (R19). -/
def defaultCal : CalRecord where
  curveA := defaultCurveA
  curveB := defaultCurveB
  leadCurve := defaultLeadCurve
  selected := .a
  levelOffset := 0
  ceiling := 900
  holdLevel := 300
  pushLimit := 40
  gateSpacing := 3000
  refLevel := 500
  firmLimit := 1500
  leadTrim := 0
  repGap := 8000

/-- The default role of a key under the latched level of ROLESEL (R25). -/
def defaultRole (roleSel : StrapLevel) (k : Key) : Role :=
  match roleSel with
  | .level0 => .both
  | .lowResistor => .replay
  | .float => .capture
  | .level1 => if keyNo k ≤ 39 then .capture else .replay

/-- The default Key Map entry of a key: its own channel (R25). -/
def defaultEntry (roleSel : StrapLevel) (k : Key) : MapEntry := ⟨keyNo k, defaultRole roleSel k⟩

/-- The default Key Map (R25). -/
def defaultKeyMap (roleSel : StrapLevel) : Vector MapEntry 88 := Vector.ofFn (defaultEntry roleSel)

/-- The default pedal sensor curve (R30). -/
def defaultPedalCurve : Curve :=
  ⟨⟨0, 0⟩, ⟨585, 146⟩, ⟨1170, 292⟩, ⟨1755, 438⟩, ⟨2340, 584⟩, ⟨2925, 730⟩, ⟨3510, 876⟩, ⟨4095, 1023⟩⟩

/-- The default Pedal Table record (R30). -/
def defaultPedal : PedalRecord := ⟨defaultPedalCurve, 25000, 8, 4⟩

/-- The default Configuration Record (R32). -/
def defaultConfig : ConfigRecord where
  captureEnable := false
  replayEnable := false
  lateLimit := 2000
  sensorDelay := 30
  park := 24
  autoTrim := false
  transpose := 0

/-- The tables after power-on reset. -/
def defaultTables (roleSel : StrapLevel) : Tables where
  cal := Vector.replicate 88 defaultCal
  keyMap := defaultKeyMap roleSel
  pedal := Vector.replicate 3 defaultPedal
  config := defaultConfig

/-- An intake record after power-on reset and Restart: closed, no last taken target (R63). -/
def IntakeRecord.clear : IntakeRecord := ⟨false, none⟩

/-- An Idle drive context: every record absent, cleared or stopped (R85). -/
def DriveContext.clear : DriveContext where
  state := .idle
  job := none
  actionTime := none
  stage := .waiting
  issue := none
  sentAt := none
  pushTimer := none
  gateTimer := none
  measuring := false
  g1 := none
  notMeasured := false
  trimEligible := false
  rearmed := false
  releaseSent := none
  restTimer := none
  sensorlessTimer := none
  restarting := false

/-- A pedal replay context after power-on reset (R105). -/
def PedalReplay.clear : PedalReplay := ⟨.ready, 0, none, none⟩

/-- A pedal capture context after power-on reset (R113). -/
def PedalCapture.clear : PedalCapture := ⟨0, 0, false⟩

/-- A capture context at Rest: announced and restrike clear, G1 absent, gate timer stopped (R126). -/
def CaptureContext.clear : CaptureContext := ⟨.rest, none, false, false, none, none⟩

/-- The length of the park timer in µs for a park parameter: p × 5 s, and 1200 s for p = 0 (R149). -/
def parkLength (p : Nat) : Nat := if p = 0 then 1200000000 else p * 5000000

/-- The Performance Clock after power-on reset (R1, R4). -/
def defaultClock : Clock := ⟨0, .unconfigured, .none, none, 0⟩

/-- The Action Queue after power-on reset (R63, R83). That the intake order starts at number 0 is the model's choice (log
entry 25). -/
def defaultQueue : ActionQueue := ⟨[], Vector.replicate 88 IntakeRecord.clear, 0, 0⟩

/-- The Sensor Link after power-on reset: lost, with no notice (R122). -/
def defaultSensor : SensorLink := ⟨false, 0, 0, none⟩

/-- The Rail Controller after power-on reset (R157). That RLOUT is idle, a frame in transmission dropped, is the model's
choice: R157 does not name the transmitter (log entry 32). -/
def defaultRail : Rail where
  state := .active
  waiting := []
  inFlight := []
  window := none
  tx := none
  seq := 0
  parkTimer := some (parkLength 24)
  mask := BitVec.allOnes 91
  powerOff := false
  passQueue := []
  replies := []

/-- The Link Controller after power-on reset (R187). -/
def defaultLink : Link := ⟨.hunt, [], 0, [], none, none⟩

end Sys2Proof.Machine
end

