-- ==== Sys2Proof/Machine/State.lean ====
section
/-! DEFINITION. The state of the LT-880, the reasons a step can stop, and the state after power-on reset. -/

namespace Sys2Proof.Machine

/-- Why a step faults. The manual gives every command an effect in every state, so the type is empty: no command of
the model raises a fault. -/
inductive Fault
  deriving DecidableEq, Repr

/-- Why a step is refused. -/
inductive Refusal where
  /-- Raised by an arm of exec for a command that has no meaning yet; safe. No arm raises it: every command has
  its meaning. -/
  | notModelled (mnemonic : String)
  deriving DecidableEq, Repr

/-- Everything the manual gives the part, and the queue of the commands that wait. -/
structure State where
  /-- The commands that are waiting, first in, first out. -/
  pending : List Instr
  /-- The model's own counter, read by the free choice `Config.tieBreak` (log entry 2). -/
  tieBreak : Nat
  /-- Local time in µs (R3). -/
  localTime : Nat
  /-- RATESEL as latched at the last power-on reset (R171). -/
  rateSel : StrapLevel
  /-- ROLESEL as latched at the last power-on reset (R25). -/
  roleSel : StrapLevel
  /-- The Performance Clock. -/
  clock : Clock
  /-- The Table Store. -/
  tables : Tables
  /-- The Table Read context (R36). -/
  tableRead : Option TableRead
  /-- The Action Queue. -/
  queue : ActionQueue
  /-- The 88 drive contexts (R85). -/
  drive : Vector DriveContext 88
  /-- The Report FIFO, oldest first (R100). -/
  reports : List Report
  /-- The three pedal replay contexts (R105). -/
  replay : Vector PedalReplay 3
  /-- The three pedal capture contexts (R113). -/
  pedals : Vector PedalCapture 3
  /-- The Sensor Link (R120). -/
  sensor : SensorLink
  /-- The place of the Sensor Receiver in the bytes of SNIN (R120). -/
  snin : ByteIn
  /-- The 88 capture contexts (R126). -/
  capture : Vector CaptureContext 88
  /-- The Capture FIFO, oldest first (R132). -/
  captureFifo : List CaptureEvent
  /-- The key gap mark (R133). -/
  keyGap : Bool
  /-- The Rail Controller. -/
  rail : Rail
  /-- The place of the Rail Controller's receiver in the bytes of RLIN (R141). -/
  rlin : ByteIn
  /-- The calibration context; none when no run is in flight (R159). -/
  run : Option CalContext
  /-- The Link Controller. -/
  link : Link
  /-- The nine sticky flags (R15). -/
  sticky : Sticky
  deriving DecidableEq, Repr

/-- The state power-on reset brings every block to, with the straps sampled at the given levels (R4, R187). -/
def State.powerOn (rateSel roleSel : StrapLevel) : State where
  pending := []
  tieBreak := 0
  localTime := 0
  rateSel := rateSel
  roleSel := roleSel
  clock := defaultClock
  tables := defaultTables roleSel
  tableRead := none
  queue := defaultQueue
  drive := Vector.replicate 88 DriveContext.clear
  reports := []
  replay := Vector.replicate 3 PedalReplay.clear
  pedals := Vector.replicate 3 PedalCapture.clear
  sensor := defaultSensor
  snin := ByteIn.start
  capture := Vector.replicate 88 CaptureContext.clear
  captureFifo := []
  keyGap := false
  rail := defaultRail
  rlin := ByteIn.start
  run := none
  link := defaultLink
  sticky := {}

/-- The machine right after power-on reset. The straps' levels are the board's; level 0 on both is a DESIGN CHOICE
(log entry 3). -/
def State.reset : State := State.powerOn .level0 .level0

end Sys2Proof.Machine
end

