-- ==== Sys2Proof/Machine/Operands.lean ====
section
/-! DEFINITION. The operand forms: the fields of the payloads of the Performance Link (R56, the table of control
requests, R158), the record layouts of the tables (02, Record layouts) with their validity (R20, R28, R30), and the
banks of contexts indexed by key and pedal. -/

namespace Sys2Proof.Machine

/-! ## Bytes and fields -/

/-- The byte at an offset of a payload. -/
def byteAt (bs : List Byte) (i : Nat) : Nat := (bs.getD i 0).toNat

/-- The unsigned 16-bit field at an offset, most significant byte first. -/
def word16 (bs : List Byte) (i : Nat) : Nat := byteAt bs i * 256 + byteAt bs (i + 1)

/-- The 16-bit field at an offset, as bits. -/
def bits16 (bs : List Byte) (i : Nat) : BitVec 16 := BitVec.ofNat 16 (word16 bs i)

/-- The 32-bit field at an offset, most significant byte first. -/
def bits32 (bs : List Byte) (i : Nat) : BitVec 32 :=
  BitVec.ofNat 32 (word16 bs i * 65536 + word16 bs (i + 2))

/-- The two's complement 8-bit field at an offset. -/
def signed8 (bs : List Byte) (i : Nat) : Int := (BitVec.ofNat 8 (byteAt bs i)).toInt

/-- The two's complement 16-bit field at an offset. -/
def signed16 (bs : List Byte) (i : Nat) : Int := (bits16 bs i).toInt

/-- A one-byte field as sent. -/
def put8 (v : Nat) : List Byte := [BitVec.ofNat 8 v]

/-- A two-byte unsigned field as sent. -/
def put16 (v : Nat) : List Byte := bytes16 (BitVec.ofNat 16 v)

/-- A two-byte two's complement field as sent. -/
def putSigned16 (v : Int) : List Byte := bytes16 (BitVec.ofInt 16 v)

/-- A four-byte unsigned field as sent. -/
def put32 (v : Nat) : List Byte := bytes32 (BitVec.ofNat 32 v)

/-- A four-byte two's complement field as sent. -/
def putSigned32 (v : Int) : List Byte := bytes32 (BitVec.ofInt 32 v)

/-! ## Keys and pedals -/

/-- The instrument key of a number, when it lies in 1..88. -/
def keyOf? (n : Int) : Option Key :=
  if h : 1 ≤ n ∧ n ≤ 88 then some ⟨(n - 1).toNat, by omega⟩ else none

/-- The pedal of a number, when it lies in 1..3. -/
def pedalOf? (n : Nat) : Option Pedal :=
  if h : 1 ≤ n ∧ n ≤ 3 then some ⟨n - 1, by omega⟩ else none

/-- All instrument keys in ascending order. -/
def allKeys : List Key := List.finRange 88

/-- All pedals in ascending order. -/
def allPedals : List Pedal := List.finRange 3

/-! ## Payloads of performance events (R56) -/

/-- The fields of a Note-On. -/
structure NoteOnFields where
  note : Nat
  speed : Nat
  target : PT
  event : BitVec 16
  deriving DecidableEq, Repr

/-- A Note-On payload, when it is 9 bytes long (R56). -/
def noteOnFields? (p : List Byte) : Option NoteOnFields :=
  if p.length = 9 then some ⟨byteAt p 0, word16 p 1, bits32 p 3, bits16 p 7⟩ else none

/-- A Note-Off payload, when it is 5 bytes long: the note as sent and the target (R56). -/
def noteOffFields? (p : List Byte) : Option (Nat × PT) :=
  if p.length = 5 then some (byteAt p 0, bits32 p 1) else none

/-- The fields of a Pedal Target. -/
structure PedalTargetFields where
  pedal : Pedal
  target : PT
  position : Nat
  deriving DecidableEq, Repr

/-- A Pedal Target payload, when it is 7 bytes long and names a pedal of 1..3 (R56). -/
def pedalTargetFields? (p : List Byte) : Option PedalTargetFields :=
  if p.length = 7 then
    match pedalOf? (byteAt p 0) with
    | some q => some ⟨q, bits32 p 1, word16 p 5⟩
    | none => none
  else none

/-! ## Payloads of control requests -/

/-- A Configure payload brought into range (R6). -/
def configFields (p : List Byte) : ConfigRecord where
  captureEnable := decide (byteAt p 0 ≠ 0)
  replayEnable := decide (byteAt p 1 ≠ 0)
  lateLimit := clampNat 0 5000 (word16 p 2)
  sensorDelay := byteAt p 4
  park := byteAt p 5
  autoTrim := decide (byteAt p 6 ≠ 0)
  transpose := clampInt (-12) 12 (signed8 p 7)

/-- The Configuration Record in the order of the Configure payload (R32). -/
def configBytes (c : ConfigRecord) : List Byte :=
  put8 c.captureEnable.toNat ++ put8 c.replayEnable.toNat ++ put16 c.lateLimit ++ put8 c.sensorDelay ++ put8 c.park ++
    put8 c.autoTrim.toNat ++ [BitVec.ofInt 8 c.transpose]

/-- The fields of a calibration request (09, Requests and acceptance), before they are checked. -/
structure CalFields where
  kind : RunKind
  first : Nat
  last : Nat
  base : Nat
  step : Nat
  upper : Nat
  adjust : Int
  deriving DecidableEq, Repr

/-- A Calibrate Quick payload; a Quick run has upper index 0 (R159). -/
def quickFields (p : List Byte) : CalFields := ⟨.quick, byteAt p 0, byteAt p 1, 0, 0, 0, 0⟩

/-- A Calibrate Sweep payload. -/
def sweepFields (p : List Byte) : CalFields :=
  ⟨.sweep, byteAt p 0, byteAt p 1, word16 p 2, byteAt p 4, byteAt p 5, signed8 p 6⟩

/-- The range check of R158, step 7. -/
def calFieldsOk (f : CalFields) : Bool :=
  decide (1 ≤ f.first ∧ f.first ≤ 88 ∧ 1 ≤ f.last ∧ f.last ≤ 88 ∧ f.first ≤ f.last) &&
    match f.kind with
    | .quick => true
    | .sweep => decide (f.base ≤ 1023 ∧ 1 ≤ f.step ∧ f.step ≤ 64 ∧ f.upper ≤ 15 ∧ -15 ≤ f.adjust ∧ f.adjust ≤ 15)

/-! ## Table records (02, Record layouts) -/

/-- The point of a curve at an offset: x then y, two bytes each. -/
def pointAt (bs : List Byte) (i : Nat) : CurvePoint := ⟨word16 bs i, word16 bs (i + 2)⟩

/-- The curve of eight points at an offset. -/
def curveAt (bs : List Byte) (i : Nat) : Curve :=
  ⟨pointAt bs i, pointAt bs (i + 4), pointAt bs (i + 8), pointAt bs (i + 12), pointAt bs (i + 16), pointAt bs (i + 20),
    pointAt bs (i + 24), pointAt bs (i + 28)⟩

/-- A curve as sent, point 1 first. -/
def curveBytes (c : Curve) : List Byte := (curvePoints c).flatMap fun p => put16 p.x ++ put16 p.y

/-- The x values of a curve strictly increase and lie within lo..hi (R20, R30). -/
def xsOk (lo hi : Nat) (c : Curve) : Bool :=
  decide (((curvePoints c).map (·.x)).Pairwise (· < ·)) && (curvePoints c).all fun p => decide (lo ≤ p.x ∧ p.x ≤ hi)

/-- The y values of a curve do not decrease and lie within 0..hi (R20, R30). -/
def ysRise (hi : Nat) (c : Curve) : Bool :=
  decide (((curvePoints c).map (·.y)).Pairwise (· ≤ ·)) && (curvePoints c).all fun p => decide (p.y ≤ hi)

/-- The validity of a calibration record: every field in the range of R19, every curve in its order (R20). -/
def calValid (r : CalRecord) : Bool :=
  xsOk 50 6000 r.curveA && ysRise 1023 r.curveA && xsOk 50 6000 r.curveB && ysRise 1023 r.curveB &&
    xsOk 50 6000 r.leadCurve && ((curvePoints r.leadCurve).all fun p => decide (p.y ≤ 65535)) &&
    decide (-255 ≤ r.levelOffset ∧ r.levelOffset ≤ 255 ∧ r.ceiling ≤ 1023 ∧ r.holdLevel ≤ 1023 ∧
      5 ≤ r.pushLimit ∧ r.pushLimit ≤ 80 ∧ 1000 ≤ r.gateSpacing ∧ r.gateSpacing ≤ 6000 ∧ r.refLevel ≤ 1023 ∧
      50 ≤ r.firmLimit ∧ r.firmLimit ≤ 6000 ∧ -2000 ≤ r.leadTrim ∧ r.leadTrim ≤ 2000 ∧
      2000 ≤ r.repGap ∧ r.repGap ≤ 30000)

/-- The selected-curve byte (R20). -/
def selectOf? (n : Nat) : Option CurveSelect :=
  match n with
  | 0 => some .a
  | 1 => some .b
  | _ => none

/-- The fields of a 114-byte calibration record, under a selected curve. -/
def calFieldsOf (bs : List Byte) (sel : CurveSelect) : CalRecord where
  curveA := curveAt bs 0
  curveB := curveAt bs 32
  leadCurve := curveAt bs 64
  selected := sel
  levelOffset := signed16 bs 97
  ceiling := word16 bs 99
  holdLevel := word16 bs 101
  pushLimit := byteAt bs 103
  gateSpacing := word16 bs 104
  refLevel := word16 bs 106
  firmLimit := word16 bs 108
  leadTrim := signed16 bs 110
  repGap := word16 bs 112

/-- A calibration record offered by Table Write, when it is valid (R20). -/
def calOf? (bs : List Byte) : Option CalRecord :=
  match selectOf? (byteAt bs 96) with
  | none => none
  | some sel => if calValid (calFieldsOf bs sel) then some (calFieldsOf bs sel) else none

/-- The code of a selected curve (R20, R166). -/
def selectCode (s : CurveSelect) : Nat :=
  match s with
  | .a => 0
  | .b => 1

/-- A calibration record as sent. -/
def calBytes (r : CalRecord) : List Byte :=
  curveBytes r.curveA ++ curveBytes r.curveB ++ curveBytes r.leadCurve ++ put8 (selectCode r.selected) ++
    putSigned16 r.levelOffset ++ put16 r.ceiling ++ put16 r.holdLevel ++ put8 r.pushLimit ++ put16 r.gateSpacing ++
    put16 r.refLevel ++ put16 r.firmLimit ++ putSigned16 r.leadTrim ++ put16 r.repGap

/-- The role of a role byte (R28). -/
def roleOf? (n : Nat) : Option Role :=
  match n with
  | 0 => some .replay
  | 1 => some .capture
  | 2 => some .both
  | 3 => some .muted
  | _ => none

/-- The code of a role (R28). -/
def roleCode (r : Role) : Nat :=
  match r with
  | .replay => 0
  | .capture => 1
  | .both => 2
  | .muted => 3

/-- Whether a channel is held by a Key Map entry other than the key's own (R28). -/
def channelHeld (m : Vector MapEntry 88) (k : Key) (channel : Nat) : Bool :=
  allKeys.any fun j => decide (j ≠ k ∧ (m[j]).channel = channel)

/-- A Key Map entry offered by Table Write for a key, when it is valid against the map as it stands (R28). -/
def entryOf? (m : Vector MapEntry 88) (k : Key) (bs : List Byte) : Option MapEntry :=
  match roleOf? (byteAt bs 1) with
  | none => none
  | some role =>
    if byteAt bs 0 ≤ 88 ∧ (byteAt bs 0 = 0 ∨ channelHeld m k (byteAt bs 0) = false) then some ⟨byteAt bs 0, role⟩
    else none

/-- A Key Map entry as sent. -/
def entryBytes (e : MapEntry) : List Byte := put8 e.channel ++ put8 (roleCode e.role)

/-- The validity of a Pedal Table record (R30). -/
def pedalValid (r : PedalRecord) : Bool :=
  xsOk 0 4095 r.curve && ysRise 1023 r.curve &&
    decide (r.lead ≤ 60000 ∧ 1 ≤ r.deadband ∧ r.deadband ≤ 64 ∧ 1 ≤ r.rateGap ∧ r.rateGap ≤ 20)

/-- The fields of a 36-byte Pedal Table record. -/
def pedalFieldsOf (bs : List Byte) : PedalRecord := ⟨curveAt bs 0, word16 bs 32, byteAt bs 34, byteAt bs 35⟩

/-- A Pedal Table record offered by Table Write, when it is valid (R30). -/
def pedalRecordOf? (bs : List Byte) : Option PedalRecord :=
  if pedalValid (pedalFieldsOf bs) then some (pedalFieldsOf bs) else none

/-- A Pedal Table record as sent. -/
def pedalBytes (r : PedalRecord) : List Byte :=
  curveBytes r.curve ++ put16 r.lead ++ put8 r.deadband ++ put8 r.rateGap

/-! ## Table Write header (R33) -/

/-- The size of one record of a table in a Table Write; none for an id that Table Write does not take (R33). -/
def recordSize? (table : Nat) : Option Nat :=
  match table with
  | 1 => some 114
  | 2 => some 2
  | 3 => some 36
  | _ => none

/-- The greatest count of a Table Write to a table (R33). -/
def countLimit (table : Nat) : Nat :=
  match table with
  | 1 => 1
  | 2 => 30
  | 3 => 3
  | _ => 0

/-- The last index of a table (R34, R36). -/
def lastIndex (table : Nat) : Nat :=
  match table with
  | 1 => 88
  | 2 => 88
  | 3 => 3
  | 4 => 1
  | _ => 0

end Sys2Proof.Machine
end

