-- ==== Sys2Proof/Machine/Flags.lean ====
section
/-! DEFINITION. The flags of reports and events, and the upstream frames as they are sent (R117, R135, R162, R166, R180,
R184, R185 and 10, Frame layouts). -/

namespace Sys2Proof.Machine

/-! ## Strike Report flags (R81, R99) -/

/-- The flags every report of a strike carries besides its outcome: Clamped and Ceiling as computed at intake, Late as
marked, Deferred for a deferral count of 1, Redeferred for 2 or more (R99). -/
def strikeFlags (s : Strike) : StrikeFlags where
  late := s.late
  deferred := decide (s.deferrals = 1)
  redeferred := decide (2 ≤ s.deferrals)
  clamped := s.clamped
  ceiling := s.ceiling

/-- A list of flags as a number, the first flag in the lowest bit. -/
def flagBits : List Bool → Nat
  | [] => 0
  | b :: bs => b.toNat + 2 * flagBits bs

/-- The flag word of a Strike Report (10, Frame layouts). -/
def strikeFlagWord (f : StrikeFlags) : Nat :=
  flagBits [f.late, f.deferred, f.redeferred, f.clamped, f.ceiling, f.missed, f.abandoned, f.channelOff, f.masked,
    f.outOfRange, f.outOfOrder, f.queueFull, f.noArrival, f.notMeasured]

/-- The sticky flags of a Status frame (10, Frame layouts). -/
def stickyWord (f : Sticky) : Nat :=
  flagBits [f.crcError, f.framingError, f.eventsDiscarded, f.queueFull, f.captureOverrun, f.reportsLost, f.sensorLoss,
    f.railFault, f.passThroughLost]

/-! ## Codes -/

/-- The part state code of a Status frame. -/
def partCode (p : PartState) : Nat :=
  match p with
  | .unconfigured => 0
  | .stopped => 1
  | .running => 2
  | .held => 3
  | .faulted => 4

/-- The stop cause code of a Status frame. -/
def causeCode (c : StopCause) : Nat :=
  match c with
  | .none => 0
  | .request => 1
  | .linkLoss => 2
  | .railFault => 3

/-- The rail state code of a Status frame. -/
def railCode (r : RailState) : Nat :=
  match r with
  | .active => 0
  | .parked => 1
  | .waking => 2
  | .off => 3
  | .faulted => 4

/-- The code of a closing cause (R135). -/
def closingCode (c : ClosingCause) : Nat :=
  match c with
  | .keyUp => 0
  | .stop => 1
  | .fault => 2
  | .sensorLoss => 3
  | .drive => 4

/-- The value of a response code (R180). -/
def respCode (c : RespCode) : Nat :=
  match c with
  | .done => 0
  | .busy => 1
  | .invalid => 2
  | .outOfRange => 3
  | .notConfigured => 4
  | .railFault => 5
  | .unknown => 6

/-- The code of a kind of run (R166). -/
def runCode (k : RunKind) : Nat :=
  match k with
  | .quick => 0
  | .sweep => 1

/-! ## Upstream frames -/

/-- The fields after the code of a Response (R180). -/
def respFieldBytes (f : RespFields) : List Byte :=
  match f with
  | .plain => []
  | .flush n => put16 n
  | .clock t => bytes32 t
  | .write i n => put8 i ++ put8 n
  | .read i n => put8 i ++ put8 n

/-- The frame of a Response: it echoes the request's Tag (R179, R180). -/
def responseFrame (r : Response) : Frame :=
  ⟨0x80, r.tag, r.kind :: put8 (respCode r.code) ++ respFieldBytes r.fields⟩

/-- The frame of a captured event (R117, R135 and 10, Frame layouts). -/
def captureFrame (e : CaptureEvent) : Frame :=
  match e with
  | .noteOn k t v restrike clamped gap held =>
    ⟨0x90, 0, put8 (keyNo k) ++ bytes32 t ++ put16 v ++ put8 (flagBits [gap, held, restrike, clamped])⟩
  | .silent k t gap held => ⟨0x91, 0, put8 (keyNo k) ++ bytes32 t ++ put8 (flagBits [gap, held])⟩
  | .noteOff k t c => ⟨0x92, 0, put8 (keyNo k) ++ bytes32 t ++ put8 (closingCode c)⟩
  | .pedal p t v gap held =>
    ⟨0x93, 0, put8 (pedalNo p) ++ bytes32 t ++ put16 v ++ put8 (flagBits [gap, held])⟩

/-- The latency of a Strike Report as sent, four bytes in two's complement; one that they cannot hold is a free value (R49,
R98; log entry 27). -/
def latencyBytes (v : Int) : List Byte :=
  if -2147483648 ≤ v ∧ v < 2147483648 then putSigned32 v else bytes32 (Config.wideLatency v)

/-- The latency of a Probe Report as sent, four bytes; one that they cannot hold is a free value (R53, R162; log entry
27). -/
def probeLatencyBytes (v : Nat) : List Byte := if v < 4294967296 then put32 v else bytes32 (Config.wideLatency v)

/-- The frame of a report (R162, R166 and 10, Frame layouts). -/
def reportFrame (r : Report) : Frame :=
  match r with
  | .strike s =>
    ⟨0xA0, 0, bytes16 s.event ++ put8 s.note ++ put8 s.channel ++ bytes32 s.planned ++ bytes32 s.issue ++
      put16 s.targetSpeed ++ put16 s.levelSent ++ put16 s.measuredSpeed ++ latencyBytes s.latency ++ put8 s.deferrals ++
      put16 (strikeFlagWord s.flags)⟩
  | .probe p =>
    ⟨0xA1, 0, put8 p.note ++ put8 p.index ++ put16 p.level ++ put8 p.arrived.toNat ++ put16 p.speed ++ probeLatencyBytes p.latency⟩
  | .calibration c =>
    ⟨0xA2, 0, put8 c.note ++ put8 (runCode c.kind) ++
      put8 (flagBits [c.noOnset, c.noArrival, c.noChannel, c.aborted]) ++ put8 c.onset ++ put8 c.adjusted ++
      putSigned16 c.offset ++ put8 (selectCode c.curve) ++ put16 c.speed⟩

/-- The frame of a Status (10, Frame layouts). -/
def statusFrame (s : Status) : Frame :=
  ⟨0xC0, 0, put8 (partCode s.part) ++ put8 (causeCode s.cause) ++ put8 (flagBits [s.captureEnable, s.replayEnable]) ++
    bytes32 s.pt ++ put16 s.free ++ put8 s.captureHeld ++ put8 s.reportsHeld ++ put8 (railCode s.rail) ++
    put8 s.sensorUp.toNat ++ put16 (stickyWord s.sticky) ++ put8 s.calibrating ++ put16 s.lastFlush⟩

/-- An upstream frame as it is sent on PLOUT; every frame but a Response carries Tag 0 (R185). -/
def upFrame (f : UpFrame) : Frame :=
  match f with
  | .response r => responseFrame r
  | .tableData table index record => ⟨0x81, 0, put8 table ++ put8 index ++ record⟩
  | .capture e => captureFrame e
  | .report r => reportFrame r
  | .railReply p => ⟨0xB0, 0, p⟩
  | .status s => statusFrame s

/-- The rate of the Performance Link in Mbit/s under the latched level of RATESEL (R171). -/
def linkRate (l : StrapLevel) : Nat :=
  match l with
  | .level0 => 3
  | .lowResistor => 6
  | .float => 12
  | .level1 => 24

/-- The time of a frame on a line in twelfths of a µs: ten bit times a byte at a rate in Mbit/s, exact at 3, 6, 12 and 24
Mbit/s (R171, R140). -/
def lineTime (rate : Nat) (f : Frame) : Nat := frameBytes f * (120 / rate)

/-- A count of µs of local time as a moment in twelfths of a µs. -/
def twelfths (us : Nat) : Nat := 12 * us

end Sys2Proof.Machine
end

