-- ==== Sys2Proof/Machine/Ops.lean ====
section
/-! DEFINITION. The operations the blocks share: writing one context of a bank, the Report FIFO, the pending
Responses, room in the Capture FIFO, channel availability, and the requests made of the Rail Controller. -/

namespace Sys2Proof.Machine

/-! ## One context of a bank -/

/-- Writes one key's drive context. -/
def setDrive (k : Key) (c : DriveContext) (s : State) : State := { s with drive := s.drive.set k.val c k.isLt }

/-- Writes one key's capture context. -/
def setCapture (k : Key) (c : CaptureContext) (s : State) : State :=
  { s with capture := s.capture.set k.val c k.isLt }

/-- Writes one pedal's replay context. -/
def setReplay (p : Pedal) (c : PedalReplay) (s : State) : State := { s with replay := s.replay.set p.val c p.isLt }

/-- Writes one pedal's capture context. -/
def setPedal (p : Pedal) (c : PedalCapture) (s : State) : State := { s with pedals := s.pedals.set p.val c p.isLt }

/-- Replaces one key's calibration record, whole (R20, R23). -/
def setCal (k : Key) (r : CalRecord) (s : State) : State :=
  { s with tables := { s.tables with cal := s.tables.cal.set k.val r k.isLt } }

/-- Writes one key's intake record. -/
def setIntake (k : Key) (r : IntakeRecord) (s : State) : State :=
  { s with queue := { s.queue with intake := s.queue.intake.set k.val r k.isLt } }

/-! ## Conditions -/

/-- The part is Running or Held: performance events are taken (R57) and captured events queued (R131). -/
def inPerformance (s : State) : Bool := decide (s.clock.part = .running ∨ s.clock.part = .held)

/-- Captured events are queued: Running or Held, with capture enable on (R114, R131). -/
def capturing (s : State) : Bool := inPerformance s && s.tables.config.captureEnable

/-- A channel of a key is available: no channel is while the rail is Off or the power flag is set, else its bit of
the mask decides (R152, R154). -/
def channelAvailable (r : Rail) (channel : Nat) : Bool :=
  decide (r.state ≠ .off) && !r.powerOff && r.mask.getLsbD (channel - 1)

/-- Channel Pn of a pedal is available (R154). -/
def pedalAvailable (r : Rail) (p : Pedal) : Bool :=
  decide (r.state ≠ .off) && !r.powerOff && r.mask.getLsbD (88 + p.val)

/-! ## The Report FIFO (R100) -/

/-- Adds a report at the tail; with 64 held, the oldest is discarded and ReportsLost is set (R100). -/
def addReport (r : Report) (s : State) : State :=
  if s.reports.length < 64 then { s with reports := s.reports ++ [r] }
  else { s with reports := s.reports.drop 1 ++ [r], sticky := { s.sticky with reportsLost := true } }

/-- Adds several reports in order. -/
def addReports (rs : List Report) (s : State) : State := rs.foldl (fun s r => addReport r s) s

/-! ## Responses (R179) -/

/-- Places a Response at the tail of the pending ones (R5, R179). -/
def respond (r : Response) (s : State) : State :=
  { s with link := { s.link with responses := s.link.responses ++ [r] } }

/-! ## The Capture FIFO (R132) -/

/-- The number of announced keys. -/
def announcedKeys (s : State) : Nat := (s.capture.toList.filter (·.announced)).length

/-- Whether an event that needs `need` free entries fits (R132). -/
def captureFits (need : Nat) (s : State) : Bool := decide (s.captureFifo.length + announcedKeys s + need ≤ 128)

/-- Queues a captured event at the tail (R132). -/
def queueEvent (e : CaptureEvent) (s : State) : State := { s with captureFifo := s.captureFifo ++ [e] }

/-! ## Requests of the Rail Controller (R142, R149, R150) -/

/-- The park timer reloaded from the park parameter (R149). -/
def reloadPark (s : State) : State :=
  { s with rail := { s.rail with parkTimer := some (s.localTime + parkLength s.tables.config.park) } }

/-- A wake: in Parked, Unpark is requested and the rail becomes Waking; elsewhere it is ignored (R150). -/
def wake (s : State) : State :=
  if s.rail.state = .parked then
    { s with rail := { s.rail with state := .waking, waiting := s.rail.waiting ++ [⟨.unpark, s.localTime⟩] } }
  else s

/-- A request for Push, Hold or PedalSet wakes a Parked rail (R150). -/
def wakesRail (c : RailCmd) : Bool :=
  match c with
  | .push _ _ _ => true
  | .hold _ _ _ => true
  | .pedalSet _ => true
  | _ => false

/-- A command is requested of the Rail Controller at this moment (R142, R150). -/
def requestRail (c : RailCmd) (s : State) : State :=
  let s := { s with rail := { s.rail with waiting := s.rail.waiting ++ [⟨c, s.localTime⟩] } }
  if wakesRail c then wake s else s

/-- The key of a drive command: Push, Hold or Release. -/
def driveKey? (c : RailCmd) : Option Key :=
  match c with
  | .push k _ _ => some k
  | .hold k _ _ => some k
  | .release k _ => some k
  | _ => none

/-- A drive command of a key whose drive context passes a test. -/
def ofContext (test : DriveContext → Bool) (drive : Vector DriveContext 88) (c : RailCmd) : Bool :=
  match driveKey? c with
  | some k => test drive[k]
  | none => false

/-- A drive context is not Idle. -/
def notIdle (d : DriveContext) : Bool := decide (d.state ≠ .idle)

/-- A Push of one key. -/
def isPushOf (k : Key) (c : RailCmd) : Bool :=
  match c with
  | .push j _ _ => decide (j = k)
  | _ => false

/-- A Release All. -/
def isReleaseAll (c : RailCmd) : Bool :=
  match c with
  | .releaseAll _ _ => true
  | _ => false

/-- Withdraws the waiting requests that a test names (R142). -/
def withdraw (which : RailCmd → Bool) (s : State) : State :=
  { s with rail := { s.rail with waiting := s.rail.waiting.filter fun r => !which r.cmd } }

/-- Clears the in-flight list: a frame in transmission is completed, its command no longer in the list (R148). -/
def clearInFlight (r : Rail) : Rail :=
  { r with inFlight := [], window := none, tx := r.tx.map fun t => { t with live := false } }

/-- A waiting Release All merged with a new one: it is the recovery when either is, and a Restart's when either is
(R142, R156, R157). -/
def mergeReleaseAll (recovery restart : Bool) (r : Request) : Request :=
  match r.cmd with
  | .releaseAll recovery' restart' => { r with cmd := .releaseAll (recovery' || recovery) (restart' || restart) }
  | _ => r

/-- Requests Release All; a Release All already waiting is merged with it (R142). -/
def requestReleaseAll (recovery restart : Bool) (s : State) : State :=
  if s.rail.waiting.any fun r => isReleaseAll r.cmd then
    { s with rail := { s.rail with waiting := s.rail.waiting.map (mergeReleaseAll recovery restart) } }
  else
    { s with rail := { s.rail with waiting := s.rail.waiting ++ [⟨.releaseAll recovery restart, s.localTime⟩] } }

/-- The Release All of a Stop request or a Restart: on a Faulted rail it begins the recovery, which clears the
in-flight list again (R156, R157). -/
def releaseEverything (restart : Bool) (s : State) : State :=
  if s.rail.state = .faulted then requestReleaseAll true restart { s with rail := clearInFlight s.rail }
  else requestReleaseAll false restart s

end Sys2Proof.Machine
end

