-- ==== Sys2Proof/Machine/PedalOps.lean ====
section
/-! DEFINITION. The Pedal Controller (06): replay of pedal positions under the rate gap, and the offer of captured
Pedal events. -/

namespace Sys2Proof.Machine

/-- The rate gap since the last sending has run out: the local time elapsed is not less than the gap of the record as
it stands, or no PedalSet has yet been sent (R105, R108). -/
def gapOver (p : Pedal) (s : State) : Bool :=
  match (s.replay[p]).lastSent with
  | none => true
  | some t => decide (t + (s.tables.pedal[p]).rateGap * 1000 ≤ s.localTime)

/-- The state of a context with nothing requested and nothing waiting: Ready when the gap has run out, otherwise
Spacing (R110, R111). -/
def restingReplay (p : Pedal) (s : State) : ReplayState := if gapOver p s then .ready else .spacing

/-- A position is issued (R107): requested on an available channel, recorded alone on an unavailable one. -/
def issuePosition (p : Pedal) (position : Nat) (s : State) : State :=
  if pedalAvailable s.rail p then
    requestRail (.pedalSet p)
      (setReplay p { s.replay[p] with state := .requested, commanded := position, waiting := none } s)
  else setReplay p { s.replay[p] with state := .ready, commanded := position, waiting := none } s

/-- A pedal action handed over by the Action Queue (R106). -/
def pedalAction (p : Pedal) (position : Nat) (s : State) : State :=
  match (s.replay[p]).state with
  | .ready => issuePosition p position s
  | .requested => setReplay p { s.replay[p] with commanded := position } s
  | .spacing => setReplay p { s.replay[p] with state := .waiting, waiting := some position } s
  | .waiting => setReplay p { s.replay[p] with waiting := some position } s

/-- The end of the rate gap: Spacing becomes Ready, Waiting issues its waiting position (R108). -/
def endGap (p : Pedal) (s : State) : State :=
  match (s.replay[p]).state with
  | .spacing => setReplay p { s.replay[p] with state := .ready } s
  | .waiting => issuePosition p ((s.replay[p]).waiting.getD (s.replay[p]).commanded) s
  | .ready => s
  | .requested => s

/-- The end of the gap, when it has run out (R108). -/
def endGapIfOver (p : Pedal) (s : State) : State := if gapOver p s then endGap p s else s

/-- A Stop or Restart notice: the pedal is brought to 0 without regard to the rate gap (R110). Its PedalSet wakes a Parked
rail (R150), at a Restart too, although R157 says that Restart keeps the rail state: the model's reading (log entry 30). -/
def pedalToRest (p : Pedal) (s : State) : State :=
  match (s.replay[p]).state with
  | .requested => setReplay p { s.replay[p] with commanded := 0 } s
  | _ =>
    if pedalAvailable s.rail p then
      requestRail (.pedalSet p)
        (setReplay p { s.replay[p] with state := .requested, commanded := 0, waiting := none } s)
    else setReplay p { s.replay[p] with state := restingReplay p s, commanded := 0, waiting := none } s

/-- The Stop or Restart notice to all three pedals, in pedal order (R110). -/
def pedalsToRest (s : State) : State := allPedals.foldl (fun s p => pedalToRest p s) s

/-- A rail fault: a Requested context loses its request, a Waiting context its waiting position (R111). -/
def pedalFault (p : Pedal) (s : State) : State :=
  match (s.replay[p]).state with
  | .requested => setReplay p { s.replay[p] with state := restingReplay p s } s
  | .waiting => setReplay p { s.replay[p] with state := .spacing, waiting := none } s
  | .ready => s
  | .spacing => s

/-- The rail fault notice to all three pedals (R111). -/
def pedalsFault (s : State) : State := allPedals.foldl (fun s p => pedalFault p s) s

/-- A Pedal event is queued when one entry beyond the announced reserve is free, else dropped with the pedal's gap
mark and CaptureOverrun (R116, R117). -/
def offerPedal (p : Pedal) (time : PT) (s : State) : State :=
  let c := s.pedals[p]
  if captureFits 1 s then
    queueEvent (.pedal p time c.current c.gap (decide (s.clock.part = .held)))
      (setPedal p { c with reported := c.current, gap := false } s)
  else
    setPedal p { c with gap := true } { s with sticky := { s.sticky with captureOverrun := true } }

/-- The pedal has moved by its deadband, or reached an end stop (R114, step 2). -/
def pedalMoved (deadband current reported : Nat) : Bool :=
  decide (deadband ≤ max current reported - min current reported) ||
    (decide (current = 0 ∨ current = 1023) && decide (reported ≠ current))

/-- One raw value of a PedalSample (R114, R51). -/
def pedalRaw (time : PT) (p : Pedal) (raw : BitVec 16) (s : State) : State :=
  let position := interpolate (s.tables.pedal[p]).curve raw.toNat
  let s := setPedal p { s.pedals[p] with current := position } s
  if capturing s && pedalMoved (s.tables.pedal[p]).deadband position (s.pedals[p]).reported then offerPedal p time s
  else s

end Sys2Proof.Machine
end

