-- ==== Sys2Proof/Machine/CaptureOps.lean ====
section
/-! DEFINITION. The Capture Engine (07): the transitions of a capture context, the offers it makes, the drive and rest
notices, and closure. -/

namespace Sys2Proof.Machine

/-! ## Offers (R131 to R134) -/

/-- A key event that does not fit is dropped: CaptureOverrun and the key gap mark are set (R133). -/
def dropKeyEvent (s : State) : State :=
  { s with sticky := { s.sticky with captureOverrun := true }, keyGap := true }

/-- A first-stroke event is offered: it needs two free entries and announces its key (R131, R132, R133). The event
is given the Gap and Held flags of the queuing (R135). -/
def offerFirst (k : Key) (event : Bool → Bool → CaptureEvent) (s : State) : State :=
  if capturing s then
    if captureFits 2 s then
      queueEvent (event s.keyGap (decide (s.clock.part = .held)))
        (setCapture k { s.capture[k] with announced := true } { s with keyGap := false })
    else dropKeyEvent s
  else s

/-- A Restrike Note-On is offered: only for an announced key, and it needs one free entry (R132, R133, R134). -/
def offerRestrike (k : Key) (event : Bool → Bool → CaptureEvent) (s : State) : State :=
  if capturing s && (s.capture[k]).announced then
    if captureFits 1 s then
      queueEvent (event s.keyGap (decide (s.clock.part = .held))) { s with keyGap := false }
    else dropKeyEvent s
  else s

/-- A Note-Off of cause KeyUp is offered when the key is announced; it uses the entry its key holds (R131, R132). -/
def offerNoteOff (k : Key) (time : PT) (s : State) : State :=
  if capturing s && (s.capture[k]).announced then
    queueEvent (.noteOff k time .keyUp) (setCapture k { s.capture[k] with announced := false } s)
  else s

/-! ## Transitions (R127, R128, R129, R130) -/

/-- A context returned to Rest by K1 up; announced is left to the offer of the Note-Off (R128, R130). -/
def atRest (c : CaptureContext) : CaptureContext := { CaptureContext.clear with announced := c.announced }

/-- A context that a G1 makes Gated: stamp and time recorded, the 60 ms gate timer started (R127, R128, R130). -/
def gatedBy (stamp : Stamp) (time : PT) (now : Nat) (c : CaptureContext) : CaptureContext :=
  { c with state := .gated, g1 := some (stamp, time), gateTimer := some (now + 60000) }

/-- The G2 that completes a Gated flight: the context becomes Down and a Note-On is offered (R128). -/
def completeFlight (k : Key) (stamp : Stamp) (time : PT) (s : State) : State :=
  let c := s.capture[k]
  let spacing := (s.tables.cal[k]).gateSpacing
  let g1 := (c.g1.map (·.1)).getD stamp
  let event := fun gap held =>
    CaptureEvent.noteOn k time (hammerSpeed spacing g1 stamp) c.restrike (speedClamped spacing g1 stamp) gap held
  let s := setCapture k { c with state := .down, remembered := none, g1 := none, gateTimer := none } s
  if c.restrike then offerRestrike k event s else offerFirst k event s

/-- A crossing taken by a key's capture context (R127, R128, R130). -/
def captureCrossing (k : Key) (x : Crossing) (time : PT) (s : State) : State :=
  let c := s.capture[k]
  match c.state with
  | .rest =>
    match x with
    | .k1Down => setCapture k { c with state := .descending } s
    | .k1Up => s
    | .k2Down => s
    | .k2Up => s
    | .g1 _ => s
    | .g2 _ => s
  | .descending =>
    match x with
    | .g1 stamp => setCapture k (gatedBy stamp time s.localTime { c with restrike := false }) s
    | .k2Down => offerFirst k (fun gap held => .silent k time gap held) (setCapture k { c with state := .quiet } s)
    | .k1Up => setCapture k (atRest c) s
    | .k1Down => s
    | .k2Up => s
    | .g2 _ => s
  | .gated =>
    match x with
    | .g2 stamp => completeFlight k stamp time s
    | .g1 stamp => setCapture k (gatedBy stamp time s.localTime c) s
    | .k1Up => offerNoteOff k time (setCapture k (atRest c) s)
    | .k1Down => s
    | .k2Down => s
    | .k2Up => s
  | .down =>
    match x with
    | .k2Up => setCapture k { c with state := .rearmed, remembered := some .down } s
    | .k1Up => offerNoteOff k time (setCapture k (atRest c) s)
    | .k1Down => s
    | .k2Down => s
    | .g1 _ => s
    | .g2 _ => s
  | .quiet =>
    match x with
    | .k2Up => setCapture k { c with state := .rearmed, remembered := some .quiet } s
    | .k1Up => offerNoteOff k time (setCapture k (atRest c) s)
    | .k1Down => s
    | .k2Down => s
    | .g1 _ => s
    | .g2 _ => s
  | .rearmed =>
    match x with
    | .g1 stamp => setCapture k (gatedBy stamp time s.localTime { c with restrike := true }) s
    | .k2Down => setCapture k { c with state := c.remembered.getD .down, remembered := none } s
    | .k1Up => offerNoteOff k time (setCapture k (atRest c) s)
    | .k1Down => s
    | .k2Up => s
    | .g2 _ => s

/-- The expiry of the gate timer of a Gated context (R129). -/
def captureTimeout (k : Key) (s : State) : State :=
  let c := s.capture[k]
  if c.restrike then
    setCapture k { c with state := c.remembered.getD .down, remembered := none, g1 := none, gateTimer := none } s
  else
    offerFirst k (fun gap held => .silent k ((c.g1.map (·.2)).getD s.clock.pt) gap held)
      (setCapture k { c with state := .quiet, g1 := none, gateTimer := none } s)

/-! ## Notices (R124, R125) and closure (R137, R138) -/

/-- The rest notice: the key's capture context is set to Rest (R125). -/
def restNotice (k : Key) (s : State) : State := setCapture k CaptureContext.clear s

/-- The drive notice: an announced key is closed with cause Drive, and its context set to Rest (R124). -/
def driveNotice (k : Key) (s : State) : State :=
  if (s.capture[k]).announced then queueEvent (.noteOff k s.clock.pt .drive) (restNotice k s) else restNotice k s

/-- The closing Note-Offs of the announced keys, in ascending order (R137, R138). -/
def closingEvents (cause : ClosingCause) (s : State) : List CaptureEvent :=
  (allKeys.filter fun k => (s.capture[k]).announced).map fun k => .noteOff k s.clock.pt cause

/-- Closure at a Stop or fault: every announced key gets its Note-Off; the contexts keep their states (R137). -/
def closeAnnounced (cause : ClosingCause) (s : State) : State :=
  { s with
    captureFifo := s.captureFifo ++ closingEvents cause s
    capture := s.capture.map fun c => { c with announced := false } }

/-- The loss notice: every announced key is closed with cause SensorLoss, every context returned to Rest (R138). -/
def captureLoss (s : State) : State :=
  { s with
    captureFifo := s.captureFifo ++ closingEvents .sensorLoss s
    capture := Vector.replicate 88 CaptureContext.clear }

end Sys2Proof.Machine
end

