-- ==== Sys2Proof/Machine/DriveOps.lean ====
section
/-! DEFINITION. The Key Drive Controller (05): readiness, taking a strike or probe, push end, release, the measurement
of a drive and its report, and what the sensor loss, a Stop, a fault and a Restart do to a drive context. The steps
of the calibration context that a drive context's outcome and its return to Idle bring about stand here too (R162,
R163). -/

namespace Sys2Proof.Machine

/-! ## Strike Reports (R98, R99) -/

/-- A report of a strike by the Key Drive Controller (R98). -/
def driveReport (st : Strike) (issue : PT) (levelSent speed : Nat) (latency : Int) (flags : StrikeFlags) : Report :=
  .strike
    { event := st.event
      note := keyNo st.key
      channel := st.channel
      planned := st.planned
      issue := issue
      targetSpeed := st.speed
      levelSent := levelSent
      measuredSpeed := speed
      latency := latency
      deferrals := st.deferrals
      flags := flags }

/-- The report of a strike Missed at issue, or given up while Waiting: issue PT 0, level sent 0 (R88, R91, R98). -/
def missedReport (st : Strike) : Report := driveReport st 0 0 0 0 { strikeFlags st with missed := true }

/-- The report of a strike on an unavailable channel (R86, R98). -/
def channelOffReport (st : Strike) : Report := driveReport st 0 0 0 0 { strikeFlags st with channelOff := true }

/-! ## Calibration probe: outcome, rest and request (R161, R162, R163) -/

/-- How a measurement closes (R94, R95, R96). -/
inductive MeasOutcome where
  | arrived (g1 g2 : Stamp) (time : PT)
  | noArrival
  | notMeasured
  deriving DecidableEq, Repr

/-- The record of a probe's outcome at its index (R162). -/
def recordProbe (c : CalContext) (arrived : Bool) (speed latency : Nat) : CalContext :=
  { c with
    probes := c.probes.modify c.index fun p => { p with arrived := arrived, speed := speed, latency := latency } }

/-- The level recorded for the current probe (R161). -/
def currentLevel (c : CalContext) : Nat := ((c.probes.map (·.level)).getD c.index 0)

/-- A probe outcome is taken only in phase Probing, with request taken set, for the current note (R162). -/
def takesOutcome (c : CalContext) (k : Key) : Bool :=
  decide (c.phase = .probing) && c.taken && decide (c.current = k)

/-- An outcome recorded: a Probe Report is written and the phase becomes AwaitingRest with its 200 ms rest wait (R162,
R163). -/
def probeRecorded (c : CalContext) (k : Key) (arrived : Bool) (speed latency : Nat) (s : State) : State :=
  addReport (.probe ⟨keyNo k, c.index, currentLevel c, arrived, speed, latency⟩)
    { s with
      run := some { recordProbe c arrived speed latency with
        phase := .awaitingRest
        timer := some (s.localTime + 200000) } }

/-- A probe outcome reaches the Calibration Unit (R104, R162, R53). -/
def probeOutcome (k : Key) (d : DriveContext) (o : MeasOutcome) (s : State) : State :=
  match s.run with
  | none => s
  | some c =>
    if takesOutcome c k then
      match o with
      | .arrived g1 g2 _ =>
        probeRecorded c k true (hammerSpeed (s.tables.cal[k]).gateSpacing g1 g2)
          (probeLatency (d.sentAt.getD 0) s.localTime s.tables.config.sensorDelay) s
      | .noArrival => probeRecorded c k false 0 0 s
      | .notMeasured => s
    else s

/-- The settle starts: 150 ms (R163). -/
def beginSettle (c : CalContext) (s : State) : State :=
  { s with run := some { c with phase := .settling, timer := some (s.localTime + 150000) } }

/-- A probe request is taken by an Idle context: drive notice, Pushing with the probe marker, Push requested, request
taken set (R104, R124, R161). -/
def takeProbe (c : CalContext) (s : State) : State :=
  let s := driveNotice c.current s
  let s := setDrive c.current
    { DriveContext.clear with state := .pushing, job := some (.probe c.channel (currentLevel c)) } s
  let s := requestRail (.push c.current c.channel (currentLevel c)) s
  { s with run := some { c with taken := true } }

/-- What a key's drive context becoming Idle means to the run: it ends AwaitingRest, or a waiting probe request is
taken (R104, R161, R163). -/
def idleReport (k : Key) (s : State) : State :=
  match s.run with
  | none => s
  | some c =>
    if c.current = k then
      match c.phase with
      | .awaitingRest => beginSettle c s
      | .probing => if c.taken then s else takeProbe c s
      | .settling => s
    else s

/-! ## Closing a measurement (R94 to R97) -/

/-- Whether an arrived strike's measurement updates the lead trim (R50). -/
def trimApplies (d : DriveContext) (st : Strike) (error : Int) (s : State) : Bool :=
  s.tables.config.autoTrim && decide (st.deferrals = 0) && d.trimEligible && trimErrorOk error

/-- The auto-trim update of R50 where its conditions hold, as a field write (R23). -/
def applyTrim (d : DriveContext) (st : Strike) (latency : Int) (s : State) : State :=
  let error := latency - st.lead
  if trimApplies d st error s then
    setCal st.key { s.tables.cal[st.key] with leadTrim := trimmed (s.tables.cal[st.key]).leadTrim error } s
  else s

/-- A strike's measurement closes: first the auto-trim update, then the Strike Report (R97, R98). -/
def strikeClosed (d : DriveContext) (st : Strike) (o : MeasOutcome) (s : State) : State :=
  let issue := d.issue.getD 0
  match o with
  | .arrived g1 g2 time =>
    let speed := hammerSpeed (s.tables.cal[st.key]).gateSpacing g1 g2
    let latency := measuredLatency time issue
    addReport (driveReport st issue st.level speed latency (strikeFlags st)) (applyTrim d st latency s)
  | .noArrival => addReport (driveReport st issue st.level 0 0 { strikeFlags st with noArrival := true }) s
  | .notMeasured => addReport (driveReport st issue st.level 0 0 { strikeFlags st with notMeasured := true }) s

/-- A key's measurement closes; its gate timer is stopped (R94 to R97, R104). -/
def closeMeasurement (k : Key) (o : MeasOutcome) (s : State) : State :=
  let d := s.drive[k]
  let s := setDrive k { d with measuring := false, gateTimer := none } s
  match d.job with
  | some (.strike st) => strikeClosed d st o s
  | some (.probe _ _) => probeOutcome k d o s
  | none => s

/-- An open measurement is closed without an arrival: NotMeasured when it carries the mark, else NoArrival (R95,
R96). -/
def closeOpen (k : Key) (s : State) : State :=
  let d := s.drive[k]
  if d.measuring then closeMeasurement k (if d.notMeasured then .notMeasured else .noArrival) s else s

/-- A measurement that carries the NotMeasured mark closes when its push is over (R96; log entry 12). -/
def closeMarked (k : Key) (s : State) : State :=
  let d := s.drive[k]
  if d.measuring && d.notMeasured then closeMeasurement k .notMeasured s else s

/-! ## Becoming Idle (R91, R92, R93) -/

/-- A context becomes Idle other than by Restart: it gives its rest notice (R91). -/
def becomeIdle (k : Key) (s : State) : State :=
  idleReport k (restNotice k (setDrive k DriveContext.clear s))

/-- A Releasing context comes to rest: an open measurement is closed, then the context is Idle (R92, R93). -/
def comeToRest (k : Key) (s : State) : State := becomeIdle k (closeOpen k s)

/-! ## Taking a strike (R86, R87) -/

/-- A key is ready for a strike (R86). -/
def keyReady (k : Key) (s : State) : Bool :=
  match (s.drive[k]).state with
  | .idle => true
  | .releasing => (s.drive[k]).rearmed || (!s.sensor.up && (s.drive[k]).releaseSent.isSome)
  | .pushing => false
  | .holding => false

/-- A strike is taken for push with the current action time it was handed over with: drive notice from Idle, else the earlier
measurement closed; then Pushing, Waiting, and Push requested (R22, R87, R124). That a re-armed context which waits for a
Restart's Release All goes on waiting for it is the model's reading (log entry 13). -/
def takeStrike (time : PT) (st : Strike) (s : State) : State :=
  let d := s.drive[st.key]
  let s := if d.state = .idle then driveNotice st.key s else closeOpen st.key s
  requestRail (.push st.key st.channel st.level)
    (setDrive st.key
      { DriveContext.clear with
        state := .pushing, job := some (.strike st), actionTime := some time, restarting := d.restarting } s)

/-! ## Push end and release (R89, R90, R91) -/

/-- The channel a context keeps with its strike or probe (R85). -/
def jobChannel (j : DriveJob) : Nat :=
  match j with
  | .strike st => st.channel
  | .probe channel _ => channel

/-- A context is made Releasing with its Release requested, re-armed clear, push timer stopped (R91, R104, R167). -/
def beginRelease (k : Key) (s : State) : State :=
  let d := s.drive[k]
  closeMarked k
    (requestRail (.release k ((d.job.map jobChannel).getD 0))
      (setDrive k { d with state := .releasing, rearmed := false, pushTimer := none } s))

/-- Push end: a strike requests Hold at the record's hold level and is Holding; a probe requests Release (R89,
R104). -/
def endPush (k : Key) (s : State) : State :=
  let d := s.drive[k]
  match d.job with
  | some (.strike st) =>
    closeMarked k
      (requestRail (.hold k st.channel (s.tables.cal[k]).holdLevel)
        (setDrive k { d with state := .holding, pushTimer := none } s))
  | some (.probe _ _) => beginRelease k s
  | none => s

/-- A Waiting Push is given up: withdrawn, the strike reported Missed, the context Idle with its rest notice (R91,
R104). -/
def giveUpPush (k : Key) (s : State) : State :=
  let d := s.drive[k]
  let s := withdraw (isPushOf k) s
  match d.job with
  | some (.strike st) => becomeIdle k (addReport (missedReport st) s)
  | some (.probe _ _) => becomeIdle k s
  | none => becomeIdle k s

/-- A Release handed over acts on its key's context by its state (R91). A context that waits for the Release All of a
Restart requests nothing more (R103). That the Release has no effect there on a strike taken since the Restart either, its
Waiting Push neither withdrawn nor reported Missed, is the model's reading (log entry 13). -/
def releaseKey (k : Key) (s : State) : State :=
  let d := s.drive[k]
  if d.restarting then s
  else
    match d.state with
    | .pushing =>
      match d.stage with
      | .sent => beginRelease k s
      | .waiting => giveUpPush k s
    | .holding => beginRelease k s
    | .releasing => s
    | .idle => s

/-! ## Crossings of a driven key (R87, R89, R90, R92, R94) -/

/-- A G1 taken by an open measurement: its stamp replaces any recorded before (R94). -/
def recordG1 (k : Key) (stamp : Stamp) (s : State) : State :=
  let d := s.drive[k]
  if d.measuring then setDrive k { d with g1 := some stamp } s else s

/-- A G2 taken by a measurement: with a G1 recorded and no NotMeasured mark it closes it as arrived, else it is
ignored (R94, R96). -/
def measureG2 (k : Key) (stamp : Stamp) (time : PT) (s : State) : State :=
  let d := s.drive[k]
  match d.measuring && !d.notMeasured, d.g1 with
  | true, some g1 => closeMeasurement k (.arrived g1 stamp time) s
  | _, _ => s

/-- A crossing of a key whose drive context is not Idle (R87, R89, R90, R92, R94, R103). -/
def driveCrossing (k : Key) (x : Crossing) (time : PT) (s : State) : State :=
  let d := s.drive[k]
  if d.restarting then s
  else
    match d.state with
    | .idle => s
    | .pushing =>
      match d.stage with
      | .waiting => s
      | .sent =>
        match x with
        | .g1 stamp => if s.rail.state = .faulted then recordG1 k stamp s else endPush k (recordG1 k stamp s)
        | .g2 stamp => measureG2 k stamp time s
        | .k1Down => s
        | .k1Up => s
        | .k2Down => s
        | .k2Up => s
    | .holding =>
      match x with
      | .g1 stamp => recordG1 k stamp s
      | .g2 stamp => measureG2 k stamp time s
      | .k1Down => s
      | .k1Up => s
      | .k2Down => s
      | .k2Up => s
    | .releasing =>
      match x with
      | .g1 stamp => recordG1 k stamp s
      | .g2 stamp => measureG2 k stamp time s
      | .k2Up => setDrive k { d with rearmed := true } s
      | .k2Down => setDrive k { d with rearmed := false } s
      | .k1Up => comeToRest k s
      | .k1Down => s

/-! ## Sending (R88, R91, R93, R101, R103) -/

/-- Release sent is written by a Releasing context that has none; its rest timer starts, and under sensor loss its
sensorless release timer (R91, R93, R101). -/
def markReleaseSent (now : Nat) (sensorUp : Bool) (d : DriveContext) : DriveContext :=
  if d.state = .releasing ∧ d.releaseSent = none then
    { d with
      releaseSent := some now
      restTimer := some (now + 400000)
      sensorlessTimer := if sensorUp then d.sensorlessTimer else some (now + 100000) }
  else d

/-- The Release All notice to one context: on a Restart every one becomes Idle with every record absent, else a
Releasing one without release sent records it (R101, R103, R156). -/
def releaseAllNotice (restart : Bool) (now : Nat) (sensorUp : Bool) (d : DriveContext) : DriveContext :=
  if restart then DriveContext.clear else markReleaseSent now sensorUp d

/-- A strike's Push is sent: issue PT, timers, open measurement, trim eligibility (R88); a probe's the same with trim
eligibility clear (R104). -/
def pushSent (r : CalRecord) (running sensorUp : Bool) (now : Nat) (pt : PT) (d : DriveContext) : DriveContext :=
  { d with
    stage := .sent
    issue := some pt
    sentAt := some now
    pushTimer := some (now + r.pushLimit * 1000)
    gateTimer := some (now + (r.pushLimit + 60) * 1000)
    measuring := true
    g1 := none
    notMeasured := !sensorUp
    trimEligible :=
      match d.job with
      | some (.strike _) => running
      | _ => false }

/-- The Late mark from issue (R46, R88). -/
def markLate (lateness lateLimit : Nat) (st : Strike) : Strike :=
  if 100 ≤ lateness ∧ lateness ≤ lateLimit then { st with late := true } else st

/-! ## Sensor loss, Stop, fault, Restart (R93, R96, R101, R102, R103) -/

/-- The loss notice marks an open measurement NotMeasured; it closes at once when the push is over, or while the rail
is Faulted (R96, R102; log entry 12). -/
def lossMarks (k : Key) (s : State) : State :=
  let d := s.drive[k]
  if d.measuring then
    let s := setDrive k { d with notMeasured := true } s
    if d.state ≠ .pushing ∨ s.rail.state = .faulted then closeMeasurement k .notMeasured s else s
  else s

/-- The loss notice runs the sensorless release timer of a Releasing context whose Release was sent (R93). -/
def lossReleases (k : Key) (s : State) : State :=
  let d := s.drive[k]
  match d.state, d.releaseSent with
  | .releasing, some t =>
    if t + 100000 ≤ s.localTime then comeToRest k s else setDrive k { d with sensorlessTimer := some (t + 100000) } s
  | _, _ => s

/-- The loss notice to every drive context, in ascending order of key (R93, R96). -/
def driveLoss (s : State) : State := allKeys.foldl (fun s k => lossReleases k (lossMarks k s)) s

/-- A context with trim eligibility cleared (R97). -/
def clearTrim (d : DriveContext) : DriveContext := { d with trimEligible := false }

/-- A context at a Stop from Running or Held (R101). -/
def stopContext (d : DriveContext) : DriveContext :=
  match d.state with
  | .pushing => { clearTrim d with state := .releasing, rearmed := false, pushTimer := none }
  | .holding => { clearTrim d with state := .releasing, rearmed := false }
  | .releasing => clearTrim d
  | .idle => d

/-- A context at a Stop taken in Faulted (R103). -/
def faultStopContext (d : DriveContext) : DriveContext :=
  match d.state with
  | .idle => d
  | _ => { clearTrim d with state := .releasing, rearmed := false, pushTimer := none }

/-- A context at a Restart: timers of the push stopped, measurement closed without a report, waiting for the Release
All (R103). -/
def restartContext (d : DriveContext) : DriveContext :=
  match d.state with
  | .idle => d
  | _ => { clearTrim d with pushTimer := none, gateTimer := none, measuring := false, restarting := true }

/-- The strike of a context whose Push waits; that a context which waits for a Restart's Release All makes no report is the
model's reading (log entry 13). -/
def waitingStrike (d : DriveContext) : Option Strike :=
  match d.state, d.stage, d.restarting, d.job with
  | .pushing, .waiting, false, some (.strike st) => some st
  | _, _, _, _ => none

/-- The reports of the strikes whose Waiting Pushes a Stop gives up, in ascending order of key (R101, R103). -/
def givenUpReports (s : State) : List Report :=
  allKeys.filterMap fun k => (waitingStrike s.drive[k]).map missedReport

/-- The marked measurements of sent pushes that a Stop cuts short are closed, in ascending order of key (R96; log
entry 12). -/
def closeCutShort (s : State) : State :=
  allKeys.foldl (fun s k => if (s.drive[k]).state = .pushing then closeMarked k s else s) s

/-- The Key Drive Controller at a Stop from Running or Held: the drive requests of every context that is not Idle are
withdrawn, every Waiting Push is reported Missed, every context that is not Idle is Releasing (R101, R156; log entry 14).
That the NotMeasured reports of marked pushes go ahead of the Missed reports is the model's choice (log entry 18). -/
def driveStop (s : State) : State :=
  let s := closeCutShort s
  let s := addReports (givenUpReports s) s
  let s := withdraw (ofContext notIdle s.drive) s
  { s with drive := s.drive.map stopContext }

/-- The Key Drive Controller at a Stop taken in Faulted (R13, R103); its reports in the order of `driveStop` (log entry
18). -/
def driveFaultStop (s : State) : State :=
  let s := closeCutShort s
  let s := addReports (givenUpReports s) s
  { s with drive := s.drive.map faultStopContext }

/-- The Key Drive Controller at a Restart: the Report FIFO emptied, and every context that is not Idle waiting for the
Release All with its waiting drive requests withdrawn; what waits for an Idle key stays (R14, R100, R103, R157). -/
def driveRestart (s : State) : State :=
  let s := withdraw (ofContext notIdle s.drive) s
  { s with reports := [], drive := s.drive.map restartContext }

/-- Every context that waits for a Restart's Release All becomes Idle: that Release All was removed unsent (R103). One
that was Idle at the Restart and has left Idle since is no 'such context', the model's reading (log entry 13). -/
def restartIdle (s : State) : State :=
  { s with drive := s.drive.map fun d => if d.restarting then DriveContext.clear else d }

end Sys2Proof.Machine
end

