-- ==== Sys2Proof/Machine/RunOps.lean ====
section
/-! DEFINITION. The Calibration Unit (09): acceptance, the keys of a run, the probe cycle, the results of a key, and
abort. -/

namespace Sys2Proof.Machine

/-- The Calibration Result of an aborted key: Aborted set, every measured or written field 0 (R167). That its kind byte is
the run's, as R166 gives it, is the model's reading (log entry 29). -/
def abortedResult (c : CalContext) : Report :=
  .calibration { note := keyNo c.current, kind := c.kind, aborted := true }

/-- The Calibration Result of a skipped key (R160, R166). -/
def skippedResult (c : CalContext) (k : Key) : Report :=
  .calibration { note := keyNo k, kind := c.kind, noChannel := true }

/-- What an abort does to the probing key, by the phase and the drive context (R167). -/
def abortKey (c : CalContext) (s : State) : State :=
  if c.phase = .probing ∧ c.taken then
    match (s.drive[c.current]).state, (s.drive[c.current]).stage with
    | .pushing, .waiting => giveUpPush c.current s
    | .pushing, .sent => beginRelease c.current s
    | _, _ => s
  else s

/-- Abort of a run in flight, if there is one: the key acted on, an Aborted result written, the context emptied
(R167). -/
def abortRun (s : State) : State :=
  match s.run with
  | none => s
  | some c => addReport (abortedResult c) { abortKey c s with run := none }

/-- A note is a skipped key (R160). -/
def keySkipped (k : Key) (s : State) : Bool :=
  let e := s.tables.keyMap[k]
  decide (e.channel = 0) || decide (e.role = .capture ∨ e.role = .muted) || !channelAvailable s.rail e.channel

/-- A probe begins: Probing, request taken cleared; the Sensor Link judged, the level recorded, and the probe requested
of the key's drive context (R161, R52, R104). -/
def beginProbe (c : CalContext) (s : State) : State :=
  let c : CalContext := { c with phase := .probing, taken := false, timer := none }
  if s.sensor.up then
    let c : CalContext := { c with probes := c.probes ++ [⟨probeLevel c s.tables.cal[c.current] c.index, false, 0, 0⟩] }
    let s : State := { s with run := some c }
    if (s.drive[c.current]).state = .idle then takeProbe c s else s
  else abortRun { s with run := some c }

/-- The notes of a range made current in turn, from a note up to the last: a skipped key gets its result at once, the
first other key its first probe; past the last note the run ends (R160). The first argument bounds the notes left. -/
def makeCurrent : Nat → Key → CalContext → State → State
  | 0, _, _, s => { s with run := none }
  | n + 1, k, c, s =>
    if keySkipped k s then
      let s := addReport (skippedResult c k) s
      if h : k.val < c.last.val then makeCurrent n ⟨k.val + 1, by omega⟩ c s else { s with run := none }
    else
      beginProbe { c with current := k, channel := (s.tables.keyMap[k]).channel, index := 0, probes := [] } s

/-- A key has ended: the next note is made current, or the run ends (R160). -/
def nextKey (c : CalContext) (s : State) : State :=
  if h : c.current.val < c.last.val then makeCurrent 88 ⟨c.current.val + 1, by omega⟩ c s else { s with run := none }

/-- The end of a Sweep key: the onset arithmetic, the field write of the level offset, and the Calibration Result (R54,
R164). -/
def sweepResult (c : CalContext) (s : State) : State :=
  let r := s.tables.cal[c.current]
  match onsetIndex c.probes with
  | none =>
    addReport (.calibration { note := keyNo c.current, kind := .sweep, noOnset := true, curve := r.selected }) s
  | some o =>
    let a := adjustedIndex o c.adjust c.upper
    let offset := onsetOffset r c.probes a
    addReport
      (.calibration
        { note := keyNo c.current, kind := .sweep, onset := o, adjusted := a, offset := offset, curve := r.selected })
      (setCal c.current { r with levelOffset := offset } s)

/-- The one probe of a Quick key. -/
def quickProbe (c : CalContext) : ProbeRecord := c.probes.getD 0 ⟨0, false, 0, 0⟩

/-- The end of a Quick key: a curve selected against the firm limit, written, and the Calibration Result (R55,
R165). -/
def quickResult (c : CalContext) (s : State) : State :=
  let r := s.tables.cal[c.current]
  let p := quickProbe c
  let curve := quickCurve p r.firmLimit
  addReport
    (.calibration
      { note := keyNo c.current, kind := .quick, noArrival := !p.arrived, curve := curve, speed := p.speed })
    (setCal c.current { r with selected := curve } s)

/-- The result of the key whose last settle expired (R164, R165). -/
def keyResult (c : CalContext) (s : State) : State :=
  match c.kind with
  | .sweep => sweepResult c s
  | .quick => quickResult c s

/-- The settle expires: the next probe begins, or the key ends with its result (R163). -/
def settleEnds (c : CalContext) (s : State) : State :=
  if c.index < c.upper then beginProbe { c with index := c.index + 1 } s else nextKey c (keyResult c s)

/-- The code that refuses a calibration request, if a check of R158 fails (steps 2 to 7). -/
def calRefusal (f : CalFields) (s : State) : Option RespCode :=
  match s.clock.part with
  | .unconfigured => some .notConfigured
  | .running => some .busy
  | .held => some .busy
  | .faulted => some .busy
  | .stopped =>
    if s.run.isSome then some .busy
    else if s.rail.state = .faulted then some .railFault
    else if s.tables.config.replayEnable = false then some .notConfigured
    else if calFieldsOk f = false then some .invalid
    else none

/-- The calibration context an accepted request fills, its first note not yet made current (R159). -/
def newRun (f : CalFields) (first last : Key) : CalContext where
  kind := f.kind
  first := first
  last := last
  base := f.base
  step := f.step
  upper := f.upper
  adjust := f.adjust
  current := first
  channel := 0
  index := 0
  phase := .probing
  probes := []
  taken := false
  timer := none

/-- An accepted run starts: a wake event, and its first note made current (R159, R160). -/
def startRun (f : CalFields) (s : State) : State :=
  match keyOf? f.first, keyOf? f.last with
  | some first, some last => makeCurrent 88 first (newRun f first last) (wake s)
  | _, _ => s

/-- A calibration request of the right Length: refused, or answered Done and started (R158, R159). -/
def calibrate (kind tag : Byte) (f : CalFields) (s : State) : State :=
  match calRefusal f s with
  | some code => respond ⟨kind, tag, code, .plain⟩ s
  | none => startRun f (respond ⟨kind, tag, .done, .plain⟩ s)

end Sys2Proof.Machine
end

