-- ==== Sys2Proof/Machine/QueueOps.lean ====
section
/-! DEFINITION. The Action Queue (04): its order, admission, hand-over, deferral and flush. -/

namespace Sys2Proof.Machine

/-- The entries the queue holds (R69). -/
def queueSize : Nat := 512

/-- The number of open keys, which is the number of reserved entries (R63). -/
def openKeys (q : ActionQueue) : Nat := (q.intake.toList.filter (·.isOpen)).length

/-- The free count: 512 less the queued actions less the reserved entries (R69). -/
def freeCount (q : ActionQueue) : Nat := queueSize - q.actions.length - openKeys q

/-- Whether the free count covers what an event needs (R69). -/
def hasRoom (need : Nat) (q : ActionQueue) : Bool := decide (q.actions.length + openKeys q + need ≤ queueSize)

/-- An action is placed behind every action whose time is its own or earlier, ahead of every later one, the times
read forward from PT (R74). -/
def insertAction (pt : PT) (a : Action) : List Action → List Action
  | [] => [a]
  | b :: rest => if place pt a.time < place pt b.time then a :: b :: rest else b :: insertAction pt a rest

/-- A Release of a key is the own Release of every queued strike of that key that has none yet (R63, R80). -/
def giveRelease (k : Key) (time : PT) (a : Action) : Action :=
  match a.body with
  | .strike st none => if st.key = k then { a with body := .strike st (some time) } else a
  | _ => a

/-- What an action entering the queue means to the strikes already there: a Release becomes their own (R80). -/
def noteRelease (a : Action) (as : List Action) : List Action :=
  match a.body with
  | .release k _ _ => as.map (giveRelease k a.time)
  | _ => as

/-- An action enters the queue: numbered, placed by its time, and a wake notice given (R72, R73, R74). -/
def enqueue (time : PT) (body : ActionBody) (s : State) : State :=
  let a : Action := ⟨time, s.queue.nextOrder, body⟩
  wake
    { s with
      queue :=
        { s.queue with
          actions := insertAction s.clock.pt a (noteRelease a s.queue.actions)
          nextOrder := s.queue.nextOrder + 1 } }

/-! ## Reports of the Action Queue (R81) -/

/-- A report of a Note-On that names no strike: OutOfRange, Masked or OutOfOrder (R81). -/
def unplayedReport (f : NoteOnFields) (note channel : Nat) (flags : StrikeFlags) : Report :=
  .strike
    { event := f.event
      note := note
      channel := channel
      planned := 0
      issue := 0
      targetSpeed := f.speed
      levelSent := 0
      measuredSpeed := 0
      latency := 0
      deferrals := 0
      flags := flags }

/-- The report of a strike abandoned in the queue (R79, R80, R81). -/
def abandonedReport (st : Strike) : Report := driveReport st 0 0 0 0 { strikeFlags st with abandoned := true }

/-- The report of a strike Missed at intake (R66, R81). -/
def missedAtIntake (st : Strike) : Report := driveReport st 0 0 0 0 { strikeFlags st with missed := true }

/-- The report of a Note-On refused for room; Missed too when it was (R66, R70, R81). -/
def refusedReport (st : Strike) (missed : Bool) : Report :=
  driveReport st 0 0 0 0 { strikeFlags st with missed := missed, queueFull := true }

/-! ## Hand-over and deferral (R75 to R80) -/

/-- A strike returned for deferral: Abandoned on its 17th return or when its new time would not be earlier than its own
Release, else re-placed 100 PT units later (R78, R79, R80). -/
def deferStrike (a : Action) (st : Strike) (own : Option PT) (s : State) : State :=
  let time := a.time + 100#32
  let passes := match own with
    | none => false
    | some r => !earlier time r
  if 16 ≤ st.deferrals || passes then addReport (abandonedReport st) s
  else
    let a' : Action := ⟨time, a.order, .strike { st with deferrals := st.deferrals + 1 } own⟩
    { s with queue := { s.queue with actions := insertAction s.clock.pt a' s.queue.actions } }

/-- A due action, already removed from the head, is handed to its block (R75, R76, R86). -/
def handOver (a : Action) (s : State) : State :=
  match a.body with
  | .strike st own =>
    if channelAvailable s.rail st.channel then
      if keyReady st.key s then takeStrike a.time st s else deferStrike a st own s
    else addReport (channelOffReport st) s
  | .release k _ _ => releaseKey k s
  | .pedal p position => pedalAction p position s

/-- Due actions are handed over one at a time from the head, in queue order, until the head is not due or the queue is
empty (R75); nothing falls due outside Running (R77). The first argument bounds the hand-overs. -/
def handOverDue : Nat → State → State
  | 0, s => s
  | n + 1, s =>
    match s.queue.actions with
    | [] => s
    | a :: rest =>
      if s.clock.part = .running ∧ isDue s.clock.pt a.time then
        handOverDue n (handOver a { s with queue := { s.queue with actions := rest } })
      else s

/-- Every action that is due now is handed over; a strike is handed over at most 17 times, any other action once
(R75, R79). -/
def dueNow (s : State) : State := handOverDue (17 * s.queue.actions.length) s

/-! ## Flush (R82, R83) -/

/-- An action is a Strike. -/
def isStrike (a : Action) : Bool :=
  match a.body with
  | .strike _ _ => true
  | _ => false

/-- The number of Strike actions in the queue (R82). -/
def queuedStrikes (q : ActionQueue) : Nat := (q.actions.filter isStrike).length

/-- The queue is flushed: every action removed, every key closed, the number of strikes stored; the last taken targets
are kept (R82). -/
def flushQueue (q : ActionQueue) : ActionQueue :=
  { q with
    actions := []
    intake := q.intake.map fun r => { r with isOpen := false }
    lastFlush := queuedStrikes q }

/-- The queue at Restart: flushed, every last taken target cleared, the intake order restarted (R73, R83), at number 0 by
the model's choice (log entry 25). -/
def restartQueue (q : ActionQueue) : ActionQueue :=
  ⟨[], Vector.replicate 88 IntakeRecord.clear, 0, queuedStrikes q⟩

/-! ## Intake (R59 to R71) -/

/-- A key that is masked: channel 0, or role Capture or Muted (R60, R67). -/
def masked (e : MapEntry) : Bool := decide (e.channel = 0) || decide (e.role = .capture ∨ e.role = .muted)

/-- A target refused by the order check (R61). -/
def outOfOrder (r : IntakeRecord) (target : PT) : Bool :=
  match r.last with
  | none => false
  | some l => earlier target l

/-- The implicit Release of a Note-On on an open key, G before its target (R45, R65). -/
def implicitRelease (k : Key) (channel : Nat) (target : PT) (s : State) : State :=
  enqueue (placed s.clock.pt target (ptUnits (s.tables.cal[k]).repGap)) (.release k channel true) s

/-- A key becomes open; an open key stays open (R64, R65). -/
def openKey (k : Key) (s : State) : State := setIntake k { s.queue.intake[k] with isOpen := true } s

/-- The first effect of an admitted Note-On: on an open key its implicit Release is queued, on a closed one nothing; the
key is open after it, holding one reserved entry (R64, R65, R66). -/
def admitKey (k : Key) (channel : Nat) (target : PT) (s : State) : State :=
  openKey k (if (s.queue.intake[k]).isOpen then implicitRelease k channel target s else s)

/-- A Note-On refused for room: reported QueueFull, and the sticky flag set (R70). -/
def refuseForRoom (st : Strike) (missed : Bool) (s : State) : State :=
  addReport (refusedReport st missed) { s with sticky := { s.sticky with queueFull := true } }

/-- Admission (R64 to R66, R69, R70): a queued strike needs two free entries, a Missed one needs one. -/
def admitStrike (st : Strike) (judgement : Judgement) (target : PT) (s : State) : State :=
  match judgement with
  | .missed =>
    if hasRoom 1 s.queue then addReport (missedAtIntake st) (admitKey st.key st.channel target s)
    else refuseForRoom st true s
  | .late =>
    if hasRoom 2 s.queue then
      enqueue s.clock.pt (.strike { st with late := true } none) (admitKey st.key st.channel target s)
    else refuseForRoom { st with late := true } false s
  | .normal =>
    if hasRoom 2 s.queue then enqueue st.planned (.strike st none) (admitKey st.key st.channel target s)
    else refuseForRoom st false s

/-- The last taken target of a key is replaced (R61). -/
def takeTarget (k : Key) (target : PT) (s : State) : State :=
  setIntake k { s.queue.intake[k] with last := some target } s

/-- Steps three to five of the intake of a Note-On for an unmasked key: the order check, the strike computation and
admission (R61, R62). -/
def intakeStrike (k : Key) (channel : Nat) (f : NoteOnFields) (s : State) : State :=
  if outOfOrder s.queue.intake[k] f.target then
    addReport (unplayedReport f (keyNo k) channel { outOfOrder := true }) s
  else
    let r := s.tables.cal[k]
    let j := judgeIntake s.clock.pt f.target (ptUnits (plannedLead r f.speed)) s.tables.config.lateLimit
    admitStrike (computeStrike r k channel f.speed f.target f.event) j f.target (takeTarget k f.target s)

/-- The intake of a Note-On in Running or Held (R58 to R62). -/
def intakeNoteOn (f : NoteOnFields) (s : State) : State :=
  match keyOf? (f.note + s.tables.config.transpose) with
  | none => addReport (unplayedReport f f.note 0 { outOfRange := true }) s
  | some k =>
    if s.tables.config.replayEnable = false ∨ masked s.tables.keyMap[k] then
      addReport (unplayedReport f (keyNo k) 0 { masked := true }) s
    else intakeStrike k (s.tables.keyMap[k]).channel f s

/-- The target of a Note-Off, raised to the key's last taken target when it is earlier (R68). -/
def raisedTarget (r : IntakeRecord) (target : PT) : PT :=
  match r.last with
  | none => target
  | some l => if earlier target l then l else target

/-- The Note-Off of an open key: its Release is queued from the key's reserve, and the key becomes closed (R67). -/
def closeKey (k : Key) (channel : Nat) (target : PT) (s : State) : State :=
  let r := s.queue.intake[k]
  enqueue (placed s.clock.pt (raisedTarget r target) 0) (.release k channel false)
    (setIntake k { r with isOpen := false } s)

/-- The intake of a Note-Off in Running or Held (R58, R67). -/
def intakeNoteOff (note : Nat) (target : PT) (s : State) : State :=
  match keyOf? (note + s.tables.config.transpose) with
  | none => s
  | some k =>
    if s.tables.config.replayEnable = false ∨ masked s.tables.keyMap[k] ∨ (s.queue.intake[k]).isOpen = false then s
    else closeKey k (s.tables.keyMap[k]).channel target s

/-- The intake of a Pedal Target in Running or Held (R58, R71). -/
def intakePedal (f : PedalTargetFields) (s : State) : State :=
  if s.tables.config.replayEnable = false then s
  else if hasRoom 1 s.queue then
    enqueue (placed s.clock.pt f.target (ptUnits (s.tables.pedal[f.pedal]).lead))
      (.pedal f.pedal (clampNat 0 1023 f.position)) s
  else { s with sticky := { s.sticky with queueFull := true } }

/-- A performance event discarded: EventsDiscarded is set and nothing else changes (R56, R57). -/
def discardEvent (s : State) : State := { s with sticky := { s.sticky with eventsDiscarded := true } }

end Sys2Proof.Machine
end

