-- ==== Sys2Proof/Machine/RailOps.lean ====
section
/-! DEFINITION. The Rail Controller (08): arbitration, the taking and sending of commands, acknowledgements, the park
timer, rail faults and recovery; and the transitions of the Performance Clock (01) that a fault or a stop makes. -/

namespace Sys2Proof.Machine

/-! ## Arbitration (R140, R143) -/

/-- The class of a command (R140). -/
def railClass (c : RailCmd) : Nat :=
  match c with
  | .push _ _ _ => 2
  | .hold _ _ _ => 3
  | .release _ _ => 4
  | .releaseAll _ _ => 1
  | .pedalSet _ => 5
  | .park => 1
  | .unpark => 1
  | .passThrough _ => 6

/-- The order among requests of one class made at the same moment: key channels 1..88 before P1, P2 and P3; Release All
before Unpark before Park (R143). -/
def railRank (c : RailCmd) : Nat :=
  match c with
  | .push _ channel _ => channel
  | .hold _ channel _ => channel
  | .release _ channel => channel
  | .releaseAll _ _ => 0
  | .pedalSet p => 88 + pedalNo p
  | .park => 2
  | .unpark => 1
  | .passThrough _ => 0

/-- One request is taken ahead of another: lower class, then earlier request, then lower channel (R143). -/
def goesBefore (a b : Request) : Bool :=
  decide (railClass a.cmd < railClass b.cmd) ||
    (decide (railClass a.cmd = railClass b.cmd) &&
      (decide (a.time < b.time) || (decide (a.time = b.time) && decide (railRank a.cmd < railRank b.cmd))))

/-- The commands a rail state lets go (R143). -/
def mayGo (rs : RailState) (c : RailCmd) : Bool :=
  match rs with
  | .active => true
  | .off => true
  | .parked =>
    match c with
    | .releaseAll _ _ => true
    | .unpark => true
    | .release _ _ => true
    | .passThrough _ => true
    | _ => false
  | .waking =>
    match c with
    | .releaseAll _ _ => true
    | .unpark => true
    | _ => false
  | .faulted =>
    match c with
    | .releaseAll recovery _ => recovery
    | _ => false

/-- The first of two requests to be taken. -/
def firstOf (best : Option Request) (r : Request) : Option Request :=
  match best with
  | none => some r
  | some b => if goesBefore r b then some r else some b

/-- The request of the waiting list taken next, among those the rail state lets go (R143). -/
def nextRequest (r : Rail) : Option Request := (r.waiting.filter fun q => mayGo r.state q.cmd).foldl firstOf none

/-- A slot is free: the transmitter idle and fewer than 4 commands in flight (R143). -/
def slotFree (r : Rail) : Bool := r.tx.isNone && decide (r.inFlight.length < 4)

/-! ## Park conditions (R149) -/

/-- A command whose waiting keeps the rail from parking: Push, Hold or PedalSet (R149). -/
def keepsAwake (c : RailCmd) : Bool := wakesRail c

/-- The park conditions (R149). -/
def parkConditions (s : State) : Bool :=
  (s.drive.toList.all fun d => decide (d.state = .idle)) && (s.replay.toList.all fun p => decide (p.commanded = 0)) &&
    s.run.isNone && s.rail.waiting.all fun r => !keepsAwake r.cmd

/-! ## Taking and sending (R144, R88, R156) -/

/-- The Kind and Payload of a command on RLOUT; a PedalSet takes its position from the replay context (R140, R144). -/
def railKindPayload (c : RailCmd) (s : State) : Byte × List Byte :=
  match c with
  | .push _ channel level => (0x61, put8 channel ++ put16 level)
  | .hold _ channel level => (0x62, put8 channel ++ put16 level)
  | .release _ channel => (0x63, put8 channel)
  | .releaseAll _ _ => (0x64, [])
  | .pedalSet p => (0x65, put8 (pedalNo p) ++ put16 (s.replay[p]).commanded)
  | .park => (0x66, [])
  | .unpark => (0x67, [])
  | .passThrough payload => (0x68, payload)

/-- The frame of a command on RLOUT: the Tag carries the sequence number (R140). -/
def railFrame (c : RailCmd) (s : State) : Frame :=
  ⟨(railKindPayload c s).1, s.rail.seq.setWidth 8, (railKindPayload c s).2⟩

/-- A command goes: numbered, appended to the in-flight list, its frame begun on RLOUT at a moment in twelfths of a µs
(R144). -/
def transmit (start : Nat) (c : RailCmd) (s : State) : State :=
  { s with
    rail :=
      { s.rail with
        inFlight := s.rail.inFlight ++ [⟨s.rail.seq, c, false⟩]
        seq := s.rail.seq + 1
        tx := some ⟨railFrame c s, start, true⟩ } }

/-- On a Restart's Release All every context becomes Idle, with no rest notice; what waits at the rail for one that was
not is withdrawn with its records, its strike makes no report (R98, R103, R156; log entry 13), and the Calibration Unit
learns that the probing key has become Idle (R104, R163). -/
def allIdle (s : State) : State :=
  let s' : State :=
    withdraw (ofContext notIdle s.drive)
      { s with drive := s.drive.map (releaseAllNotice true s.localTime s.sensor.up) }
  match s.run with
  | none => s'
  | some c => if notIdle s.drive[c.current] then idleReport c.current s' else s'

/-- The Release All notice to the Key Drive Controller (R101, R103, R156). -/
def releaseAllSent (restart : Bool) (s : State) : State :=
  if restart then allIdle s
  else { s with drive := s.drive.map (releaseAllNotice false s.localTime s.sensor.up) }

/-- What the owner of a command records at its sending (R88, R91, R101, R108, R149). -/
def recordSending (c : RailCmd) (s : State) : State :=
  match c with
  | .push k _ _ =>
    reloadPark
      (setDrive k
        (pushSent s.tables.cal[k] (decide (s.clock.part = .running)) s.sensor.up s.localTime s.clock.pt s.drive[k]) s)
  | .hold _ _ _ => reloadPark s
  | .release k _ => setDrive k (markReleaseSent s.localTime s.sensor.up s.drive[k]) s
  | .releaseAll _ restart => releaseAllSent restart s
  | .pedalSet p => reloadPark (setReplay p { s.replay[p] with state := .spacing, lastSent := some s.localTime } s)
  | .park => { s with rail := { s.rail with state := .parked } }
  | .unpark => s
  | .passThrough _ => s

/-- A command is sent (R144). -/
def sendCommand (start : Nat) (c : RailCmd) (s : State) : State := recordSending c (transmit start c s)

/-- The strike of a context, if it drives one. -/
def contextStrike (d : DriveContext) : Option Strike :=
  match d.job with
  | some (.strike st) => some st
  | _ => none

/-- The lateness at issue of a context's strike against PT (R46). -/
def issueLateness (st : Strike) (s : State) : Nat := latenessAtIssue st.planned s.clock.pt

/-- A strike's Late mark from issue written into its context (R46, R88). -/
def markContextLate (k : Key) (st : Strike) (s : State) : State :=
  setDrive k
    { s.drive[k] with job := some (.strike (markLate (issueLateness st s) s.tables.config.lateLimit st)) } s

/-- A strike found Missed at issue: the context Idle with its rest notice, the strike reported (R88). -/
def missAtIssue (k : Key) (st : Strike) (s : State) : State := becomeIdle k (addReport (missedReport st) s)

/-- What the taking of a waiting command comes to, the command already out of the list: the state after it was sent, or
the state after it was dropped unsent. -/
inductive Taking where
  | sent (s : State)
  | dropped (s : State)

/-- The owner of a command is consulted at its taking (R144): a strike's Push is judged for lateness at issue (R88), a
Park against the park conditions (R149). -/
def takeCommand (start : Nat) (c : RailCmd) (s : State) : Taking :=
  match c with
  | .push k _ _ =>
    match contextStrike s.drive[k] with
    | none => .sent (sendCommand start c s)
    | some st =>
      if s.tables.config.lateLimit < issueLateness st s then .dropped (missAtIssue k st s)
      else .sent (sendCommand start c (markContextLate k st s))
  | .park => if s.rail.state = .active ∧ parkConditions s then .sent (sendCommand start c s) else .dropped (reloadPark s)
  | _ => .sent (sendCommand start c s)

/-- The head of the pass-through queue is sent: it leaves the queue (R153). -/
def sendPassThrough (start : Nat) (payload : List Byte) (rest : List (List Byte)) (s : State) : State :=
  sendCommand start (.passThrough payload) { s with rail := { s.rail with passQueue := rest } }

/-- The next pass-through frame is taken when its rail state lets it go and nothing of the part's own may go (R143,
R153). -/
def takePassThrough (start : Nat) (s : State) : State :=
  match s.rail.passQueue with
  | [] => s
  | p :: rest => if mayGo s.rail.state (.passThrough p) then sendPassThrough start p rest s else s

/-- The Rail Controller takes commands while a slot is free: dropped ones make way for the next, one sent makes the
transmitter busy, its frame beginning at the given moment (R143, R144). The second argument bounds the commands looked
at. -/
def railTake (start : Nat) : Nat → State → State
  | 0, s => s
  | n + 1, s =>
    if slotFree s.rail then
      match nextRequest s.rail with
      | none => takePassThrough start s
      | some q =>
        match takeCommand start q.cmd { s with rail := { s.rail with waiting := s.rail.waiting.erase q } } with
        | .sent s' => s'
        | .dropped s' => railTake start n s'
    else s

/-- The Rail Controller's taking of commands, a frame sent beginning at the given moment (R143). -/
def railServiceAt (start : Nat) (s : State) : State := railTake start (2 * s.rail.waiting.length + 2) s

/-- The Rail Controller at the end of a command that made requests or freed a slot (R143; log entry 4). -/
def railService (s : State) : State := railServiceAt (twelfths s.localTime) s

/-- The Rail Controller could take a command now (R143, R153). -/
def railCanTake (r : Rail) : Bool :=
  slotFree r && ((nextRequest r).isSome || r.passQueue.head?.any fun p => mayGo r.state (.passThrough p))

/-! ## Transitions of the Performance Clock (R10, R11, R12, R13) -/

/-- The part state and stop cause are written and the link-loss timer is cancelled: the part leaves Running and Held
(R4, R11). -/
def leavePerformance (part : PartState) (cause : StopCause) (s : State) : State :=
  { s with clock := { s.clock with part := part, cause := cause, linkLoss := none } }

/-- The Action Queue is flushed (R82). -/
def flush (s : State) : State := { s with queue := flushQueue s.queue }

/-- The transition from Running or Held to Stopped and its notices (R10), with the Release All the given operation
requests. -/
def stopTransition (cause : StopCause) (release : State → State) (s : State) : State :=
  let s := leavePerformance .stopped cause s
  let s := flush s
  let s := driveStop s
  let s := release s
  let s := pedalsToRest s
  closeAnnounced .stop s

/-- The fault notice to the Performance Clock: a Running or Held part becomes Faulted (R12). -/
def clockFault (s : State) : State :=
  if inPerformance s then
    let s := leavePerformance .faulted .railFault s
    let s := flush s
    let s := closeAnnounced .fault s
    { s with drive := s.drive.map clearTrim }
  else s

/-! ## Faults and acknowledgements (R145 to R148, R152, R154, R157) -/

/-- A Park waits in the list. -/
def parkWaits (r : Rail) : Bool := r.waiting.any fun q => decide (q.cmd = .park)

/-- The Rail Controller's own steps of a fault: Faulted, RailFault set, both lists cleared, the park timer reloaded when a
waiting Park was removed (R148, R149). -/
def faultRail (s : State) : State :=
  let s' : State :=
    { s with
      rail := { clearInFlight s.rail with state := .faulted, waiting := [] }
      sticky := { s.sticky with railFault := true } }
  if parkWaits s.rail then reloadPark s' else s'

/-- A rail fault, protocol or timeout, with its notices (R148). -/
def railFault (s : State) : State := abortRun (pedalsFault (clockFault (restartIdle (faultRail s))))

/-- The content of a Channel Enable pass-through: the 12 bytes after the kind byte as one number, its five highest bits
ignored (R154). -/
def channelMask? (p : List Byte) : Option (BitVec 91) :=
  if p.length = 13 ∧ byteAt p 0 = 0x01 then
    some (BitVec.ofNat 91 ((p.drop 1).foldl (fun n b => n * 256 + b.toNat) 0))
  else none

/-- The content of a Rail Power pass-through: whether it turns the power on (R154). -/
def railPower? (p : List Byte) : Option Bool :=
  if p.length = 2 ∧ byteAt p 0 = 0x02 then
    if byteAt p 1 = 0 then some false else if byteAt p 1 = 1 then some true else none
  else none

/-- The rail becomes Active; its park timer is reloaded (R149). -/
def becomeActive (s : State) : State := reloadPark { s with rail := { s.rail with state := .active } }

/-- Rail Power off acknowledged: the power flag is set, and Active, Parked or Waking becomes Off (R152). -/
def powerGoesOff (s : State) : State :=
  { s with
    rail :=
      { s.rail with
        powerOff := true
        state :=
          match s.rail.state with
          | .faulted => .faulted
          | _ => .off } }

/-- Rail Power on acknowledged: the power flag is cleared, and Off becomes Active (R152). -/
def powerGoesOn (s : State) : State :=
  let s' : State := { s with rail := { s.rail with powerOff := false } }
  if s.rail.state = .off then becomeActive s' else s'

/-- The effect of an acknowledged Pass-through (R154). -/
def passThroughAcked (p : List Byte) (s : State) : State :=
  match channelMask? p with
  | some m => { s with rail := { s.rail with mask := m } }
  | none =>
    match railPower? p with
    | some true => powerGoesOn s
    | some false => powerGoesOff s
    | none => s

/-- The Ack of a recovery Release All ends Faulted: Off when the power flag is set, else Active (R152, R157). -/
def recovered (s : State) : State :=
  if s.rail.powerOff then { s with rail := { s.rail with state := .off } } else becomeActive s

/-- What the removal of an acknowledged entry does (R145). -/
def ackEffect (c : RailCmd) (s : State) : State :=
  match c with
  | .unpark => if s.rail.state = .waking then becomeActive s else s
  | .passThrough p => passThroughAcked p s
  | .releaseAll recovery _ => if recovery ∧ s.rail.state = .faulted then recovered s else s
  | _ => s

/-- The start of the window of the entry that has become the oldest: now, when its frame has been transmitted in full
(R146). -/
def windowOf (now : Nat) (fl : List InFlight) : Option Nat :=
  match fl with
  | [] => none
  | e :: _ => if e.transmitted then some now else none

/-- The oldest entry is acknowledged: removed, the next one's window started, the command's effect applied (R145). -/
def acknowledge (e : InFlight) (rest : List InFlight) (s : State) : State :=
  ackEffect e.cmd
    { s with rail := { s.rail with inFlight := rest, window := windowOf s.localTime rest } }

/-- An Ack matches the oldest entry transmitted in full (R145, R147). -/
def ackMatches (tag : Byte) (payload : List Byte) (e : InFlight) : Bool :=
  decide (payload = []) && e.transmitted && decide (tag = e.seq.setWidth 8)

/-- An Ack taken from the rail (R141, R145, R147). -/
def takeAck (tag : Byte) (payload : List Byte) (s : State) : State :=
  match s.rail.inFlight with
  | [] => if s.rail.state = .faulted then s else railFault s
  | e :: rest => if ackMatches tag payload e then acknowledge e rest s else railFault s

/-- The length of the acknowledgement window of a command in µs (R146). -/
def windowLength (c : RailCmd) : Nat :=
  match c with
  | .unpark => 50000
  | _ => 1000

/-- The acknowledgement window of the oldest entry has run out (R146). -/
def windowExpired (s : State) : Bool :=
  match s.rail.window, s.rail.inFlight with
  | some w, e :: _ => decide (w + windowLength e.cmd ≤ s.localTime)
  | _, _ => false

/-- The moment at which the frame on RLOUT ends at 12 Mbit/s, in twelfths of a µs (R140). -/
def railFrameEnd (t : RailTx) : Nat := t.start + lineTime 12 t.frame

/-- The last stop bit of the frame on RLOUT has been sent (R140; log entry 5). -/
def railFrameDone (now : Nat) (t : RailTx) : Bool := decide (railFrameEnd t ≤ twelfths now)

/-- The entry whose frame ends has been transmitted in full: the newest of the list (R144, R145). -/
def markTransmitted (fl : List InFlight) : List InFlight :=
  fl.modify (fl.length - 1) fun e => { e with transmitted := true }

/-- The transmission on RLOUT ends: the transmitter is idle, and the window of an oldest entry starts (R143, R146). -/
def endRailFrame (t : RailTx) (s : State) : State :=
  if t.live then
    { s with
      rail :=
        { s.rail with
          tx := none
          inFlight := markTransmitted s.rail.inFlight
          window :=
            match s.rail.window with
            | some w => some w
            | none => windowOf s.localTime (markTransmitted s.rail.inFlight) } }
  else { s with rail := { s.rail with tx := none } }

/-- A Rail Pass-through frame enters the pass-through queue, or is discarded when it holds 8 (R153). -/
def takePass (payload : List Byte) (s : State) : State :=
  if s.rail.passQueue.length < 8 then
    { s with rail := { s.rail with passQueue := s.rail.passQueue ++ [payload] } }
  else { s with sticky := { s.sticky with passThroughLost := true } }

/-- A Rail Reply enters the reply buffer, or is discarded when it holds 4 (R155). -/
def takeReply (payload : List Byte) (s : State) : State :=
  if s.rail.replies.length < 4 then
    { s with rail := { s.rail with replies := s.rail.replies ++ [payload] } }
  else { s with sticky := { s.sticky with passThroughLost := true } }

/-- The expiry of the park timer: in Active with the park conditions Park is requested and the timer stands still,
otherwise it is reloaded (R149). -/
def parkExpires (s : State) : State :=
  if s.rail.state = .active ∧ parkConditions s then
    requestRail .park { s with rail := { s.rail with parkTimer := none } }
  else reloadPark s

end Sys2Proof.Machine
end

