-- ==== Sys2Proof/Machine/LinkOps.lean ====
section
/-! DEFINITION. The Link Controller and the Request Decoder (10, 02): the receiver, the delivery of frames, the tables as
Table Write and Table Read see them, the upstream arbiter and the Status frame. -/

namespace Sys2Proof.Machine

/-! ## The receiver (R173 to R177) -/

/-- The receiver leaves Locked: the link-loss timer starts in Running and Held (R11, R177). -/
def leaveLocked (s : State) : State :=
  if inPerformance s then { s with clock := { s.clock with linkLoss := some (s.localTime + 250000) } } else s

/-- The receiver enters Locked: its bad count is 0 and the link-loss timer is cancelled (R11, R174, R177). -/
def enterLocked (rest : List Byte) (s : State) : State :=
  { s with
    link := { s.link with rx := .locked, buffer := rest, badCount := 0 }
    clock := { s.clock with linkLoss := none } }

/-- The receiver in Hunt and Verify examines the bytes it has taken, until they decide nothing more or it is Locked (R173,
R174). The first argument bounds the frames examined. -/
def receive : Nat → State → State
  | 0, s => s
  | n + 1, s =>
    match s.link.rx with
    | .locked => s
    | .hunt =>
      match huntScan s.link.buffer with
      | .waiting kept => { s with link := { s.link with buffer := kept } }
      | .found rest => receive n { s with link := { s.link with rx := .verify, buffer := rest } }
    | .verify =>
      match judge s.link.buffer with
      | .needMore => s
      | .good _ rest => enterLocked rest s
      | _ => receive n { s with link := { s.link with rx := .hunt, buffer := s.link.buffer.drop 1 } }

/-- Bytes arrive on PLIN: in Hunt and Verify the receiver examines them, in Locked they stand behind those not yet judged
until a frame is whole (R173, R174, R175; log entry 6). -/
def feed (bytes : List Byte) (s : State) : State :=
  let s : State := { s with link := { s.link with buffer := s.link.buffer ++ bytes } }
  receive (s.link.buffer.length + 2) s

/-- The receiver returns to Hunt from Locked, with no bytes taken after the frame; scanning resumes at the byte after the
first byte of the frame (R175, R176). -/
def returnToHunt (bytes : List Byte) (s : State) : State :=
  let s := leaveLocked s
  feed (bytes.drop 1) { s with link := { s.link with rx := .hunt, badCount := 0, buffer := [] } }

/-! ## Delivery (R175, R178, R179) -/

/-- A good frame in Locked makes the count of consecutive bad frames 0 (R175). -/
def goodFrame (s : State) : State := { s with link := { s.link with badCount := 0 } }

/-- The receiver is Locked at the byte where the next frame must begin, with nothing taken of it (R175). -/
def atFrame (l : Link) : Bool := decide (l.rx = .locked) && l.buffer.isEmpty

/-- A good frame arrives: taken from its first byte in Locked it is acted on by its block; else its bytes go to the receiver
as it stands (R173 to R175, R178; log entry 6). -/
def deliver (f : Frame) (act : State → State) (s : State) : State :=
  if atFrame s.link then act (goodFrame s) else feed (encodeFrame f) s

/-- A request is acted on unless 16 Responses are pending, when it is discarded as though it had never arrived (R179). -/
def unlessFull (act : State → State) (s : State) : State := if s.link.responses.length < 16 then act s else s

/-- A control request of a Length that differs from its kind's is answered Invalid and has no effect (R5). -/
def checkLength (n : Nat) (payload : List Byte) (invalid act : State → State) (s : State) : State :=
  if payload.length = n then act s else invalid s

/-- Answers a request with a code alone. -/
def answer (kind tag : Byte) (code : RespCode) (s : State) : State := respond ⟨kind, tag, code, .plain⟩ s

/-- Answers a Stop: it carries the last flush count as held (R9, R180). -/
def answerStop (tag : Byte) (code : RespCode) (s : State) : State :=
  respond ⟨0x14, tag, code, .flush s.queue.lastFlush⟩ s

/-! ## Table Write (R33, R34, R29) -/

/-- Whether an index is the current note of a run in flight (R24). -/
def isCurrentNote (i : Nat) (s : State) : Bool :=
  match s.run with
  | none => false
  | some c => decide (keyNo c.current = i)

/-- The role follows its key's capture context (R26). -/
def captured (r : Role) : Bool :=
  match r with
  | .capture => true
  | .both => true
  | .replay => false
  | .muted => false

/-- A Key Map entry replaced whole; when its role stops capture the key's capture context is returned to Rest (R29). -/
def applyEntry (k : Key) (e : MapEntry) (s : State) : State :=
  let old := s.tables.keyMap[k]
  let s : State := { s with tables := { s.tables with keyMap := s.tables.keyMap.set k.val e k.isLt } }
  if captured old.role && !captured e.role then setCapture k CaptureContext.clear s else s

/-- A Pedal Table record replaced whole; a rate gap it has already outrun ends at this moment (R30, R108). -/
def applyPedal (p : Pedal) (r : PedalRecord) (s : State) : State :=
  endGapIfOver p { s with tables := { s.tables with pedal := s.tables.pedal.set p.val r p.isLt } }

/-- What the judgement of one record of a Table Write comes to (R34). -/
inductive Applied where
  | applied (s : State)
  | stopped (code : RespCode)

/-- One calibration record of a Table Write (R24, R20, R34). -/
def writeCal (i : Nat) (bs : List Byte) (s : State) : Applied :=
  match keyOf? i with
  | none => .stopped .outOfRange
  | some k =>
    if isCurrentNote i s then .stopped .busy
    else
      match calOf? bs with
      | none => .stopped .invalid
      | some r => .applied (setCal k r s)

/-- One Key Map entry of a Table Write (R28, R34). -/
def writeEntry (i : Nat) (bs : List Byte) (s : State) : Applied :=
  match keyOf? i with
  | none => .stopped .outOfRange
  | some k =>
    match entryOf? s.tables.keyMap k bs with
    | none => .stopped .invalid
    | some e => .applied (applyEntry k e s)

/-- One Pedal Table record of a Table Write (R30, R34). -/
def writePedal (i : Nat) (bs : List Byte) (s : State) : Applied :=
  match pedalOf? i with
  | none => .stopped .outOfRange
  | some p =>
    match pedalRecordOf? bs with
    | none => .stopped .invalid
    | some r => .applied (applyPedal p r s)

/-- One record of a Table Write (R34). -/
def writeRecord (table i : Nat) (bs : List Byte) (s : State) : Applied :=
  match table with
  | 1 => writeCal i bs s
  | 2 => writeEntry i bs s
  | _ => writePedal i bs s

/-- The records of an accepted Table Write applied in index order until the first that cannot be; the code, failing index
and count not applied of the Response with the state after (R34). The first argument is the records left. -/
def writeRecords (table size : Nat) : Nat → Nat → List Byte → State → RespCode × Nat × Nat × State
  | 0, _, _, s => (.done, 0, 0, s)
  | n + 1, i, bs, s =>
    match writeRecord table i (bs.take size) s with
    | .stopped code => (code, i, n + 1, s)
    | .applied s' => writeRecords table size n (i + 1) (bs.drop size) s'

/-- Answers a Table Write with its failing index and count not applied (R34, R180). -/
def answerWrite (tag : Byte) (code : RespCode) (failing notApplied : Nat) (s : State) : State :=
  respond ⟨0x20, tag, code, .write failing notApplied⟩ s

/-- The frame of a Table Write passes the checks of R33 under a record size. -/
def writeFrameOk (table n size length : Nat) : Bool :=
  decide (n ≠ 0 ∧ n ≤ countLimit table ∧ length = 3 + n * size)

/-- A Table Write to the Key Map is refused in Running, Held and Faulted (R29, R33). -/
def keyMapBusy (table : Nat) (s : State) : Bool :=
  decide (table = 2 ∧ (s.clock.part = .running ∨ s.clock.part = .held ∨ s.clock.part = .faulted))

/-- A Table Write: the frame checked as a whole, then its records applied (R33, R34). -/
def writeTable (tag : Byte) (p : List Byte) (s : State) : State :=
  if p.length < 3 then answerWrite tag .invalid 0 0 s
  else
    let table := byteAt p 0
    let first := byteAt p 1
    let n := byteAt p 2
    match recordSize? table with
    | none => answerWrite tag .invalid first n s
    | some size =>
      if writeFrameOk table n size p.length then
        if keyMapBusy table s then answerWrite tag .busy first n s
        else
          let (code, failing, notApplied, s') := writeRecords table size n first (p.drop 3) s
          answerWrite tag code failing notApplied s'
      else answerWrite tag .invalid first n s

/-! ## Table Read (R36 to R38) -/

/-- Answers a Table Read (R36, R38, R180). -/
def answerRead (tag : Byte) (code : RespCode) (lastSent notSent : Nat) (s : State) : State :=
  respond ⟨0x21, tag, code, .read lastSent notSent⟩ s

/-- The last index a Table Read asks for (R36). -/
def lastAsked (table first count : Nat) : Nat := if count = 0 then lastIndex table else first + count - 1

/-- A Table Read request, its checks in order (R36). -/
def readTable (tag : Byte) (p : List Byte) (s : State) : State :=
  if p.length ≠ 3 then answerRead tag .invalid 0 0 s
  else
    let table := byteAt p 0
    let first := byteAt p 1
    let count := byteAt p 2
    if s.tableRead.isSome then answerRead tag .busy 0 0 s
    else if ¬(1 ≤ table ∧ table ≤ 4) then answerRead tag .invalid 0 0 s
    else if ¬(1 ≤ first ∧ first ≤ lastIndex table) then answerRead tag .outOfRange 0 count s
    else { s with tableRead := some ⟨tag, table, first, lastAsked table first count⟩ }

/-- The record of a table at an index, in its Table Write form (R32, R37). -/
def recordBytes (table i : Nat) (t : Tables) : List Byte :=
  match table with
  | 1 => match keyOf? i with
    | some k => calBytes t.cal[k]
    | none => []
  | 2 => match keyOf? i with
    | some k => entryBytes t.keyMap[k]
    | none => []
  | 3 => match pedalOf? i with
    | some p => pedalBytes t.pedal[p]
    | none => []
  | _ => configBytes t.config

/-- The Response of a Table Read whose next index has passed its end (R38). -/
def readResponse (r : TableRead) : Response :=
  if r.lastAsked ≤ lastIndex r.table then ⟨0x21, r.tag, .done, .read r.lastAsked 0⟩
  else ⟨0x21, r.tag, .outOfRange, .read (lastIndex r.table) (r.lastAsked - lastIndex r.table)⟩

/-- A Table Data frame of the read in flight has been sent: the next index moves on, and the read completes when it has
passed the last index asked for or the table's end (R37, R38). -/
def advanceRead (s : State) : State :=
  match s.tableRead with
  | none => s
  | some r =>
    let r' := { r with next := r.next + 1 }
    if r'.next ≤ r.lastAsked ∧ r'.next ≤ lastIndex r.table then { s with tableRead := some r' }
    else respond (readResponse r) { s with tableRead := none }

/-! ## The upstream arbiter (R181 to R184) -/

/-- The content of a Status frame chosen now (R184). -/
def statusNow (s : State) : Status where
  part := s.clock.part
  cause := s.clock.cause
  captureEnable := s.tables.config.captureEnable
  replayEnable := s.tables.config.replayEnable
  pt := s.clock.pt
  free := freeCount s.queue
  captureHeld := s.captureFifo.length
  reportsHeld := s.reports.length
  rail := s.rail.state
  sensorUp := s.sensor.up
  sticky := s.sticky
  calibrating := match s.run with
    | none => 0
    | some c => keyNo c.current
  lastFlush := s.queue.lastFlush

/-- At least the given time has passed since the last Status frame was chosen, or none has been (R181, R183). -/
def statusDue (us : Nat) (s : State) : Bool :=
  match s.link.lastStatus with
  | none => true
  | some t => decide (t + us ≤ s.localTime)

/-- A frame is chosen: it begins on PLOUT at a moment in twelfths of a µs, with its content fixed (R182). -/
def sendUp (start : Nat) (f : UpFrame) (advances : Bool) (s : State) : State :=
  { s with link := { s.link with tx := some ⟨f, start, advances⟩ } }

/-- A Status frame is chosen, and the moment recorded (R183, R184). -/
def sendStatus (start : Nat) (s : State) : State :=
  let s' := sendUp start (.status (statusNow s)) false s
  { s' with link := { s'.link with lastStatus := some s.localTime } }

/-- The choices of R181 below the captured events, in rank order 4 to 7. -/
def chooseLower (start : Nat) (s : State) : State :=
  if statusDue 20000 s then sendStatus start s
  else
    match s.reports, s.rail.replies with
    | r :: rest, _ => sendUp start (.report r) false { s with reports := rest }
    | [], p :: rest => sendUp start (.railReply p) false { s with rail := { s.rail with replies := rest } }
    | [], [] => if statusDue 1000 s then sendStatus start s else s

/-- The arbiter chooses the first source that applies, its frame beginning at the given moment; when none does the line
stays idle (R181). -/
def choose (start : Nat) (s : State) : State :=
  match s.link.responses, s.captureFifo, s.tableRead with
  | r :: rest, _, _ => sendUp start (.response r) false { s with link := { s.link with responses := rest } }
  | [], e :: rest, _ => sendUp start (.capture e) false { s with captureFifo := rest }
  | [], [], some t => sendUp start (.tableData t.table t.next (recordBytes t.table t.next s.tables)) true s
  | [], [], none => chooseLower start s

/-- The moment at which the frame on PLOUT ends at the link's rate, in twelfths of a µs (R171). -/
def upFrameEnd (s : State) (t : UpTx) : Nat := t.start + lineTime (linkRate s.rateSel) (upFrame t.frame)

/-- The last stop bit of the frame on PLOUT has been sent (R171, R181; log entry 5). -/
def upFrameDone (s : State) (t : UpTx) : Bool := decide (upFrameEnd s t ≤ twelfths s.localTime)

/-- The end of an upstream frame: the line is idle, and a Table Data frame moves its read on (R37). -/
def endUpFrame (t : UpTx) (s : State) : State :=
  let s : State := { s with link := { s.link with tx := none } }
  if t.advances then advanceRead s else s

/-- Whether the arbiter has a frame to choose on an idle line (R181). -/
def someSource (s : State) : Bool :=
  !s.link.responses.isEmpty || !s.captureFifo.isEmpty || s.tableRead.isSome || !s.reports.isEmpty ||
    !s.rail.replies.isEmpty

end Sys2Proof.Machine
end

