-- ==== Sys2Proof/Machine/Control.lean ====
section
/-! DEFINITION. Power-on reset and the control requests (01): POWER_ON_RESET, CONFIGURE, START, HOLD, RESUME, STOP,
RESTART, CLEAR_ERRORS, CLOCK_SET, CLOCK_LATCH. -/

namespace Sys2Proof.Machine

/-- A meaning's outcome: a next state. -/
abbrev Out := Host.Outcome State Fault Refusal

/-- POWER_ON_RESET (R4, R19, R25, R30, R83, R85, R105, R113, R122, R126, R157, R171, R187): the straps are sampled and
every block takes its power-on state. The receiver of RLIN "has no state that a reset changes" (R141). The queue of commands
and the model's own counter are no part of the block. -/
def execPowerOnReset (rateSel roleSel : StrapLevel) (s : State) : Out :=
  .next { State.powerOn rateSel roleSel with pending := s.pending, tieBreak := s.tieBreak, rlin := s.rlin }

/-! ## Configure, Start, Hold, Resume (R6, R7, R8, R18) -/

/-- Configure taken: the record replaced whole, the state Stopped (R6). -/
def configured (p : List Byte) (s : State) : State :=
  { s with tables := { s.tables with config := configFields p }, clock := { s.clock with part := .stopped } }

/-- Configure of the right Length (R6). -/
def doConfigure (tag : Byte) (p : List Byte) (s : State) : State :=
  match s.clock.part with
  | .unconfigured => answer 0x10 tag .done (configured p s)
  | .stopped => answer 0x10 tag .done (configured p s)
  | .running => answer 0x10 tag .busy s
  | .held => answer 0x10 tag .busy s
  | .faulted => answer 0x10 tag .busy s

/-- CONFIGURE (R6). -/
def execConfigure (tag : Byte) (payload : List Byte) (s : State) : Out :=
  .next (deliver ⟨0x10, tag, payload⟩
    (unlessFull (checkLength 8 payload (answer 0x10 tag .invalid) (doConfigure tag payload))) s)

/-- Entry to Running: PT advances from its frozen value, its first unit beginning now (R1). -/
def enterRunning (s : State) : State := { s with clock := { s.clock with part := .running, unitStart := s.localTime } }

/-- The notices of entry to Running from Stopped: each pedal's baseline and gap mark (R115), the key gap mark (R133). -/
def startNotices (s : State) : State :=
  { s with pedals := s.pedals.map fun c => { c with reported := c.current, gap := false }, keyGap := false }

/-- Start of the right Length (R7). -/
def doStart (tag : Byte) (s : State) : State :=
  match s.clock.part with
  | .unconfigured => answer 0x11 tag .notConfigured s
  | .stopped =>
    if s.run.isSome then answer 0x11 tag .busy s
    else if s.tables.config.replayEnable ∧ (s.rail.state = .faulted ∨ s.rail.state = .off) then
      answer 0x11 tag .railFault s
    else answer 0x11 tag .done (startNotices (enterRunning s))
  | .running => answer 0x11 tag .busy s
  | .held => answer 0x11 tag .busy s
  | .faulted => answer 0x11 tag .busy s

/-- START (R7). -/
def execStart (tag : Byte) (payload : List Byte) (s : State) : Out :=
  .next (deliver ⟨0x11, tag, payload⟩
    (unlessFull (checkLength 0 payload (answer 0x11 tag .invalid) (doStart tag))) s)

/-- The transition from Running to Held: PT frozen, trim eligibility cleared (R8, R97). -/
def enterHeld (s : State) : State :=
  { s with clock := { s.clock with part := .held }, drive := s.drive.map clearTrim }

/-- Hold of the right Length (R8). -/
def doHold (tag : Byte) (s : State) : State :=
  match s.clock.part with
  | .unconfigured => answer 0x12 tag .notConfigured s
  | .stopped => answer 0x12 tag .busy s
  | .running => answer 0x12 tag .done (enterHeld s)
  | .held => answer 0x12 tag .done s
  | .faulted => answer 0x12 tag .busy s

/-- HOLD (R8). -/
def execHold (tag : Byte) (payload : List Byte) (s : State) : Out :=
  .next (deliver ⟨0x12, tag, payload⟩
    (unlessFull (checkLength 0 payload (answer 0x12 tag .invalid) (doHold tag))) s)

/-- Resume of the right Length: what is due at the frozen PT is handed over at once (R18, R77). -/
def doResume (tag : Byte) (s : State) : State :=
  match s.clock.part with
  | .unconfigured => answer 0x13 tag .notConfigured s
  | .stopped => answer 0x13 tag .busy s
  | .running => answer 0x13 tag .done s
  | .held => railService (dueNow (answer 0x13 tag .done (enterRunning s)))
  | .faulted => answer 0x13 tag .busy s

/-- RESUME (R18). -/
def execResume (tag : Byte) (payload : List Byte) (s : State) : Out :=
  .next (deliver ⟨0x13, tag, payload⟩
    (unlessFull (checkLength 0 payload (answer 0x13 tag .invalid) (doResume tag))) s)

/-! ## Stop and Restart (R9, R10, R13, R14) -/

/-- A Faulted rail is recovered by a Stop taken in Stopped (R9, R157). -/
def recoverIfFaulted (s : State) : State := if s.rail.state = .faulted then releaseEverything false s else s

/-- A Stop taken in Stopped: a run in flight is aborted, a Faulted rail recovered, the stop cause becomes Request (R9). -/
def stopInStopped (s : State) : State := leavePerformance .stopped .request (recoverIfFaulted (abortRun s))

/-- A Stop taken in Faulted (R13). -/
def stopInFaulted (s : State) : State :=
  pedalsToRest (releaseEverything false (driveFaultStop (leavePerformance .stopped .request s)))

/-- Stop of the right Length (R9). -/
def doStop (tag : Byte) (s : State) : State :=
  match s.clock.part with
  | .unconfigured => answerStop tag .notConfigured s
  | .stopped => answerStop tag .done (railService (stopInStopped s))
  | .running => answerStop tag .done (railService (stopTransition .request (releaseEverything false) s))
  | .held => answerStop tag .done (railService (stopTransition .request (releaseEverything false) s))
  | .faulted => answerStop tag .done (railService (stopInFaulted s))

/-- STOP (R9). -/
def execStop (tag : Byte) (payload : List Byte) (s : State) : Out :=
  .next (deliver ⟨0x14, tag, payload⟩
    (unlessFull (checkLength 0 payload (answerStop tag .invalid) (doStop tag))) s)

/-- The frame in transmission no longer moves a Table Read on (R39). -/
def forgetRead (l : Link) : Link := { l with tx := l.tx.map fun t => { t with advances := false } }

/-- The reset notices of a Restart but for the rail's: clock, tables, Request Decoder, queue, capture, pedal capture,
Calibration Unit, pass-through queue and reply buffer, sticky flags (R14, R39, R83, R113, R139, R155, R168, R186). -/
def restartBlocks (s : State) : State :=
  { s with
    clock := { s.clock with pt := 0, part := .unconfigured, cause := .none, linkLoss := none }
    tables := { s.tables with config := defaultConfig }
    tableRead := none
    queue := restartQueue s.queue
    pedals := s.pedals.map fun c => { c with reported := 0, gap := false }
    capture := Vector.replicate 88 CaptureContext.clear
    captureFifo := []
    keyGap := false
    rail := { s.rail with passQueue := [], replies := [] }
    run := none
    link := forgetRead s.link
    sticky := {} }

/-- A Restart taken (R14): the reset notices, Release All or recovery, PedalSet 0, and Done placed at the tail of the
pending Responses (R186). -/
def doRestart (tag : Byte) (s : State) : State :=
  answer 0x15 tag .done
    (railService (pedalsToRest (releaseEverything true (driveRestart (restartBlocks s)))))

/-- RESTART (R14). -/
def execRestart (tag : Byte) (payload : List Byte) (s : State) : Out :=
  .next (deliver ⟨0x15, tag, payload⟩
    (unlessFull (checkLength 0 payload (answer 0x15 tag .invalid) (doRestart tag))) s)

/-! ## Clear Errors, Clock Set, Clock Latch (R15, R16, R17) -/

/-- CLEAR_ERRORS (R15). -/
def execClearErrors (tag : Byte) (payload : List Byte) (s : State) : Out :=
  .next (deliver ⟨0x16, tag, payload⟩
    (unlessFull (checkLength 0 payload (answer 0x16 tag .invalid)
      fun s => answer 0x16 tag .done { s with sticky := {} })) s)

/-- Clock Set of the right Length (R16). -/
def doClockSet (tag : Byte) (p : List Byte) (s : State) : State :=
  match s.clock.part with
  | .unconfigured => answer 0x17 tag .notConfigured s
  | .stopped => answer 0x17 tag .done { s with clock := { s.clock with pt := bits32 p 0 } }
  | .running => answer 0x17 tag .busy s
  | .held => answer 0x17 tag .busy s
  | .faulted => answer 0x17 tag .busy s

/-- CLOCK_SET (R16). -/
def execClockSet (tag : Byte) (payload : List Byte) (s : State) : Out :=
  .next (deliver ⟨0x17, tag, payload⟩
    (unlessFull (checkLength 4 payload (answer 0x17 tag .invalid) (doClockSet tag payload))) s)

/-- CLOCK_LATCH (R17): Done carries PT; an Invalid answer carries 0, a field without a stated value (R180). -/
def execClockLatch (tag : Byte) (payload : List Byte) (s : State) : Out :=
  .next (deliver ⟨0x18, tag, payload⟩
    (unlessFull (checkLength 0 payload (respond ⟨0x18, tag, .invalid, .clock 0⟩)
      fun s => respond ⟨0x18, tag, .done, .clock s.clock.pt⟩ s)) s)

end Sys2Proof.Machine
end

