-- ==== Sys2Proof/Machine/Events.lean ====
section
/-! DEFINITION. Performance time and the performance events (01, 04): PT_TICK, NOTE_ON, NOTE_OFF, PEDAL_TARGET,
LINK_LOSS_STOP. -/

namespace Sys2Proof.Machine

/-- A local-time interval has expired: it is running and its stated µs have elapsed in full (R3). -/
def timerDue (now : Nat) (deadline : Option Nat) : Bool :=
  match deadline with
  | none => false
  | some d => decide (d ≤ now)

/-- A complete 10 µs of local time has passed in Running since the present PT unit began (R1). -/
def tickDue (s : State) : Bool := decide (s.clock.part = .running ∧ s.clock.unitStart + 10 ≤ s.localTime)

/-- PT increases by 1 and the next unit begins (R1). -/
def advancePt (s : State) : State :=
  { s with clock := { s.clock with pt := s.clock.pt + 1#32, unitStart := s.clock.unitStart + 10 } }

/-- PT_TICK (R1): PT increases by 1, and what falls due is handed over (R75). -/
def execPtTick (s : State) : Out := .next (if tickDue s then railService (dueNow (advancePt s)) else s)

/-- A performance event of valid content: discarded outside Running and Held (R57), else taken in; what falls due at once
is handed over (R75). -/
def takeEvent (intake : State → State) (s : State) : State :=
  if inPerformance s then railService (dueNow (intake s)) else discardEvent s

/-- NOTE_ON (R59). -/
def execNoteOn (tag : Byte) (payload : List Byte) (s : State) : Out :=
  .next (deliver ⟨0x01, tag, payload⟩
    (fun s => match noteOnFields? payload with
      | none => discardEvent s
      | some f => takeEvent (intakeNoteOn f) s) s)

/-- NOTE_OFF (R67). -/
def execNoteOff (tag : Byte) (payload : List Byte) (s : State) : Out :=
  .next (deliver ⟨0x02, tag, payload⟩
    (fun s => match noteOffFields? payload with
      | none => discardEvent s
      | some f => takeEvent (intakeNoteOff f.1 f.2) s) s)

/-- PEDAL_TARGET (R71). -/
def execPedalTarget (tag : Byte) (payload : List Byte) (s : State) : Out :=
  .next (deliver ⟨0x03, tag, payload⟩
    (fun s => match pedalTargetFields? payload with
      | none => discardEvent s
      | some f => takeEvent (intakePedal f) s) s)

/-- LINK_LOSS_STOP (R11): the expiry of the link-loss timer stops a Running or Held part with cause LinkLoss. -/
def execLinkLossStop (s : State) : Out :=
  .next
    (if inPerformance s ∧ timerDue s.localTime s.clock.linkLoss then
      railService (stopTransition .linkLoss (requestReleaseAll false false) s)
    else s)

end Sys2Proof.Machine
end

