-- ==== Sys2Proof/Machine/TableCmds.lean ====
section
/-! DEFINITION. The table requests (02): TABLE_WRITE, TABLE_READ; and a frame of unknown Kind (10): UNKNOWN. -/

namespace Sys2Proof.Machine

/-- TABLE_WRITE (R33, R34); a rate gap it shortened may end at once (R108), as RATE_GAP_END ends it. -/
def execTableWrite (tag : Byte) (payload : List Byte) (s : State) : Out :=
  .next (deliver ⟨0x20, tag, payload⟩ (unlessFull (writeTable tag payload)) s)

/-- TABLE_READ (R36). -/
def execTableRead (tag : Byte) (payload : List Byte) (s : State) : Out :=
  .next (deliver ⟨0x21, tag, payload⟩ (unlessFull (readTable tag payload)) s)

/-- UNKNOWN (R178): answered with the code Unknown and the frame's Kind and Tag, with no other effect. -/
def execUnknown (kind tag : Byte) (payload : List Byte) (s : State) : Out :=
  .next (deliver ⟨kind, tag, payload⟩ (unlessFull (answer kind tag .unknown)) s)

end Sys2Proof.Machine
end

