-- ==== Sys2Proof/Machine/CalCmds.lean ====
section
/-! DEFINITION. The calibration requests and timers (09): CALIBRATE_QUICK, CALIBRATE_SWEEP, REST_WAIT_EXPIRY,
SETTLE_EXPIRY. -/

namespace Sys2Proof.Machine

/-- CALIBRATE_QUICK (R158, R159). -/
def execCalibrateQuick (tag : Byte) (payload : List Byte) (s : State) : Out :=
  .next (deliver ⟨0x22, tag, payload⟩
    (unlessFull (checkLength 2 payload (answer 0x22 tag .invalid)
      fun s => railService (calibrate 0x22 tag (quickFields payload) s))) s)

/-- CALIBRATE_SWEEP (R158, R159). -/
def execCalibrateSweep (tag : Byte) (payload : List Byte) (s : State) : Out :=
  .next (deliver ⟨0x23, tag, payload⟩
    (unlessFull (checkLength 7 payload (answer 0x23 tag .invalid)
      fun s => railService (calibrate 0x23 tag (sweepFields payload) s))) s)

/-- The context of a run in a phase whose interval has expired. -/
def runTimerDue (phase : ProbePhase) (s : State) : Option CalContext :=
  match s.run with
  | none => none
  | some c => if c.phase = phase ∧ timerDue s.localTime c.timer then some c else none

/-- REST_WAIT_EXPIRY (R163): AwaitingRest ends and the settle starts. -/
def execRestWaitExpiry (s : State) : Out :=
  .next (match runTimerDue .awaitingRest s with
    | none => s
    | some c => beginSettle c s)

/-- SETTLE_EXPIRY (R163): the next probe begins, or the key ends with its result. -/
def execSettleExpiry (s : State) : Out :=
  .next (match runTimerDue .settling s with
    | none => s
    | some c => railService (settleEnds c s))

end Sys2Proof.Machine
end

