-- ==== Sys2Proof/WellFormed.lean ====
section
/-! DEFINITION. The commands that can arise: the checks a command's operands meet when it comes from a link. -/

namespace Sys2Proof

/-- A Payload is 0..124 bytes long (R172). -/
def payloadFits (p : List Byte) : Bool := decide (p.length ≤ maxLength)

/-- An UNKNOWN frame carries a Kind outside the first table of R178. -/
def kindUnknown (k : Byte) : Bool := !knownKinds.contains k

/-- The bytes of a CRC_ERROR are one frame with its Sync, a Length not over 124 and a wrong Check (R175). -/
def isCrcError (bs : List Byte) : Bool := decide (judge bs = .badCheck [])

/-- The bytes of a FRAMING_ERROR begin with no Sync, or carry a Length over 124 (R120, R176). -/
def isFramingError (bs : List Byte) : Bool := decide (judge bs = .noSync) || decide (judge bs = .overLength)

/-- The bytes taken of a frame that is not good, on SNIN or RLIN: a wrong Check, no Sync, or a Length over 124 (R120,
R141). -/
def isBadFrame (bs : List Byte) : Bool := isCrcError bs || isFramingError bs

/-- The content of a good Sensor Link frame is invalid: it stands for DISCARDED_SENSOR_FRAME (R121). -/
def sensorContentInvalid (f : Frame) : Bool := decide (sensorCommand f = .discardedSensorFrame f.kind f.tag f.payload)

/-- An unexpected rail frame is neither an Ack nor a Rail Reply (R147). -/
def railKindUnexpected (k : Byte) : Bool := k != 0x70 && k != 0x71

/-- The commands whose operands can stand on the links they come from. -/
def wellFormed : Instr → Bool
  | .powerOnReset _ _ => true
  | .ptTick => true
  | .noteOn _ p => payloadFits p
  | .noteOff _ p => payloadFits p
  | .pedalTarget _ p => payloadFits p
  | .configure _ p => payloadFits p
  | .start _ p => payloadFits p
  | .hold _ p => payloadFits p
  | .resume _ p => payloadFits p
  | .stop _ p => payloadFits p
  | .restart _ p => payloadFits p
  | .clearErrors _ p => payloadFits p
  | .clockSet _ p => payloadFits p
  | .clockLatch _ p => payloadFits p
  | .tableWrite _ p => payloadFits p
  | .tableRead _ p => payloadFits p
  | .calibrateQuick _ p => payloadFits p
  | .calibrateSweep _ p => payloadFits p
  | .railPassThrough _ p => payloadFits p
  | .unknown k _ p => kindUnknown k && payloadFits p
  | .hunt _ => true
  | .verify _ => true
  | .crcError bs => isCrcError bs
  | .framingError bs => isFramingError bs
  | .linkLossStop => true
  | .frameBoundary => true
  | .statusSpacing => true
  | .idle _ => true
  | .keyTrip note _ _ _ _ => validNote note
  | .hammerTrip note _ _ _ => validNote note
  | .pedalSample _ _ _ _ => true
  | .sensorBadFrame bs => isBadFrame bs
  | .lossWindowExpiry => true
  | .pushTimerExpiry _ => true
  | .gateTimerExpiry _ => true
  | .restTimerExpiry _ => true
  | .sensorlessReleaseTimer _ => true
  | .captureGateTimeout _ => true
  | .restWaitExpiry => true
  | .settleExpiry => true
  | .rateGapEnd _ => true
  | .ack _ p => payloadFits p
  | .railReply p _ => payloadFits p
  | .railUnexpectedFrame k _ p => railKindUnexpected k && payloadFits p
  | .railBadFrame bs => isBadFrame bs
  | .acknowledgementWindow => true
  | .railTransmitEnd => true
  | .parkTimer => true
  | .discardedSensorFrame k t p => sensorContentInvalid ⟨k, t, p⟩ && payloadFits p

end Sys2Proof
end

