-- ==== Sys2Proof/Machine/LinkCmds.lean ====
section
/-! DEFINITION. The Performance Link's own steps (10): HUNT, VERIFY, CRC_ERROR, FRAMING_ERROR, FRAME_BOUNDARY,
STATUS_SPACING. -/

namespace Sys2Proof.Machine

/-- HUNT (R173): bytes arrive; a receiver in Hunt examines the candidates among them. In another state they are taken by
the receiver as it stands (log entry 6). -/
def execHunt (bytes : List Byte) (s : State) : Out := .next (feed bytes s)

/-- VERIFY (R174): bytes arrive; a receiver in Verify judges the frame that must follow. In another state they are taken by
the receiver as it stands (log entry 6). -/
def execVerify (bytes : List Byte) (s : State) : Out := .next (feed bytes s)

/-- A bad frame in Locked: CrcError is set and the frame counts as bad; the fourth in a row returns the receiver to Hunt
(R175). -/
def badCheckFrame (bytes : List Byte) (s : State) : State :=
  let s : State := { s with sticky := { s.sticky with crcError := true } }
  if s.link.badCount + 1 < 4 then { s with link := { s.link with badCount := s.link.badCount + 1 } }
  else returnToHunt bytes s

/-- CRC_ERROR (R175), taken from its first byte in Locked; else the bytes go to the receiver as it stands (log entry
6). -/
def execCrcError (bytes : List Byte) (s : State) : Out :=
  .next (if atFrame s.link && isCrcError bytes then badCheckFrame bytes s else feed bytes s)

/-- FRAMING_ERROR (R176), taken from its first byte in Locked: FramingError is set and the receiver returns to Hunt at once;
else the bytes go to the receiver as it stands (log entry 6). -/
def execFramingError (bytes : List Byte) (s : State) : Out :=
  .next (if atFrame s.link && isFramingError bytes then
      returnToHunt bytes { s with sticky := { s.sticky with framingError := true } }
    else feed bytes s)

/-- FRAME_BOUNDARY (R181): a frame whose time on the line is up ends, and the arbiter chooses the next; on an idle line it
chooses at once. A frame chosen at the end of another begins at the bit time after its last stop bit (R171; log entry 5).
While a frame is still on the line there is no boundary. -/
def execFrameBoundary (s : State) : Out :=
  .next (match s.link.tx with
    | none => choose (twelfths s.localTime) s
    | some t => if upFrameDone s t then choose (upFrameEnd s t) (endUpFrame t s) else s)

/-- STATUS_SPACING (R181, R183): on an idle line with 1 ms of Status spacing elapsed the arbiter chooses. -/
def execStatusSpacing (s : State) : Out :=
  .next (match s.link.tx with
    | none => if statusDue 1000 s then choose (twelfths s.localTime) s else s
    | some _ => s)

end Sys2Proof.Machine
end

