-- ==== Sys2Proof/Machine/SensorCmds.lean ====
section
/-! DEFINITION. The Sensor Link (07, 06): IDLE, KEYTRIP, HAMMERTRIP, PEDALSAMPLE, SENSOR_BAD_FRAME,
DISCARDED_SENSOR_FRAME, LOSS_WINDOW_EXPIRY, CAPTURE_GATE_TIMEOUT. -/

namespace Sys2Proof.Machine

/-- A good frame arrives on SNIN: taken at the receiver's place it is acted on, else its bytes go to the receiver as it
stands (R120; log entry 20). -/
def sninFrame (f : Frame) (act : State → State) (s : State) : State :=
  if s.snin = ByteIn.start then act s else { s with snin := takeBytes s.snin (encodeFrame f) }

/-- The Sensor Link when a good frame leaves it up: the loss window restarts, both counts are 0 (R120). -/
def sensorGood (now : Nat) : SensorLink := ⟨true, 0, 0, some (now + 10000)⟩

/-- A good frame of the Sensor Link: delivered while the link is up and when it is the second in a row that brings it up,
else counted (R120). -/
def sensorFrame (act : State → State) (s : State) : State :=
  if s.sensor.up ∨ 2 ≤ s.sensor.goodCount + 1 then act { s with sensor := sensorGood s.localTime }
  else { s with sensor := { s.sensor with goodCount := s.sensor.goodCount + 1 } }

/-- The Sensor Link becomes lost: SensorLoss set, and the loss notices to the Key Drive Controller, the Capture Engine and
the Calibration Unit (R122). That they act in the order in which R122 lists them is the model's choice (log entry 28). -/
def loseSensor (s : State) : State :=
  abortRun (captureLoss (driveLoss
    { s with sensor := defaultSensor, sticky := { s.sticky with sensorLoss := true } }))

/-- A bad frame of the Sensor Link: the fourth in a row makes an up link lost; on a lost link the good count is 0
(R120). -/
def sensorBad (s : State) : State :=
  if s.sensor.up then
    if s.sensor.badCount + 1 < 4 then { s with sensor := { s.sensor with badCount := s.sensor.badCount + 1 } }
    else loseSensor s
  else { s with sensor := { s.sensor with goodCount := 0 } }

/-- A crossing is given its time and routed by its key's drive context and role (R47, R124). -/
def routeCrossing (k : Key) (x : Crossing) (s : State) : State :=
  let time := crossingTime s.clock.pt s.tables.config.sensorDelay
  if (s.drive[k]).state ≠ .idle then driveCrossing k x time s
  else if captured (s.tables.keyMap[k]).role then captureCrossing k x time s
  else s

/-- A crossing frame; a note outside 1..88 is content that is discarded (R121). -/
def crossingFrame (note : Byte) (x : Crossing) (s : State) : State :=
  match keyOf? note.toNat with
  | none => sensorFrame id s
  | some k => railService (sensorFrame (routeCrossing k x) s)

/-- The crossing of a KeyTrip (R119, R123). -/
def keyCrossing (p : KeyPoint) (d : Direction) : Crossing :=
  match p, d with
  | .k1, .down => .k1Down
  | .k1, .up => .k1Up
  | .k2, .down => .k2Down
  | .k2, .up => .k2Up

/-- The crossing of a HammerTrip (R119, R123). -/
def hammerCrossing (g : Gate) (stamp : Stamp) : Crossing :=
  match g with
  | .g1 => .g1 stamp
  | .g2 => .g2 stamp

/-- IDLE (R121): keeps the link up and does nothing else. -/
def execIdle (s : State) (tag : Byte := 0) : Out := .next (sninFrame ⟨0x50, tag, []⟩ (sensorFrame id) s)

/-- KEYTRIP (R124). Its stamp is read by no rule. -/
def execKeyTrip (note : Byte) (point : KeyPoint) (direction : Direction) (stamp : Stamp) (s : State) (tag : Byte := 0) :
    Out :=
  .next (sninFrame (keyTripFrame tag note point direction stamp) (crossingFrame note (keyCrossing point direction)) s)

/-- HAMMERTRIP (R124). -/
def execHammerTrip (note : Byte) (gate : Gate) (stamp : Stamp) (s : State) (tag : Byte := 0) : Out :=
  .next (sninFrame (hammerTripFrame tag note gate stamp) (crossingFrame note (hammerCrossing gate stamp)) s)

/-- The three raw values of a frame, in pedal order, at one time (R47, R114, R117). -/
def samplePedals (raw1 raw2 raw3 : BitVec 16) (s : State) : State :=
  let time := crossingTime s.clock.pt s.tables.config.sensorDelay
  pedalRaw time 2 raw3 (pedalRaw time 1 raw2 (pedalRaw time 0 raw1 s))

/-- PEDALSAMPLE (R114). -/
def execPedalSample (raw1 raw2 raw3 : BitVec 16) (s : State) (tag : Byte := 0) : Out :=
  .next (sninFrame (pedalSampleFrame tag raw1 raw2 raw3) (sensorFrame (samplePedals raw1 raw2 raw3)) s)

/-- SENSOR_BAD_FRAME (R120): the frame is discarded and counted, the receiver scanning for the next Sync where needed. Bytes
that are no bad frame at the receiver's place go to the receiver as it stands (log entry 20). -/
def execSensorBadFrame (s : State) (bytes : List Byte := []) : Out :=
  .next
    (if s.snin = ByteIn.start ∧ isBadFrame bytes then
      railService (sensorBad { s with snin := afterBadFrame bytes })
    else { s with snin := takeBytes s.snin bytes })

/-- DISCARDED_SENSOR_FRAME (R121): counts as good and does nothing else. -/
def execDiscardedSensorFrame (s : State) (kind tag : Byte := 0) (payload : List Byte := []) : Out :=
  .next (sninFrame ⟨kind, tag, payload⟩ (sensorFrame fun s => s) s)

/-- LOSS_WINDOW_EXPIRY (R120). -/
def execLossWindowExpiry (s : State) : Out :=
  .next (if s.sensor.up ∧ timerDue s.localTime s.sensor.window then railService (loseSensor s) else s)

/-- CAPTURE_GATE_TIMEOUT (R129). -/
def execCaptureGateTimeout (k : Key) (s : State) : Out :=
  .next
    (if (s.capture[k]).state = .gated ∧ timerDue s.localTime (s.capture[k]).gateTimer then captureTimeout k s else s)

end Sys2Proof.Machine
end

