-- ==== Sys2Proof/Machine/DriveTimers.lean ====
section
/-! DEFINITION. The timers of a drive context and of a pedal replay context (05, 06): PUSH_TIMER_EXPIRY,
GATE_TIMER_EXPIRY, REST_TIMER_EXPIRY, SENSORLESS_RELEASE_TIMER, RATE_GAP_END. -/

namespace Sys2Proof.Machine

/-- The push timer of a sent push expires: the push ends, or on a Faulted rail the expiry is noted (R89, R102). -/
def pushTimerEnds (k : Key) (s : State) : State :=
  if s.rail.state = .faulted then setDrive k { s.drive[k] with pushTimer := none } s else endPush k s

/-- PUSH_TIMER_EXPIRY (R89). -/
def execPushTimerExpiry (k : Key) (s : State) : Out :=
  .next
    (if (s.drive[k]).state = .pushing ∧ (s.drive[k]).stage = .sent ∧ timerDue s.localTime (s.drive[k]).pushTimer then
      railService (pushTimerEnds k s)
    else s)

/-- GATE_TIMER_EXPIRY (R95): the open measurement is closed. -/
def execGateTimerExpiry (k : Key) (s : State) : Out :=
  .next
    (if timerDue s.localTime (s.drive[k]).gateTimer then
      closeOpen k (setDrive k { s.drive[k] with gateTimer := none } s)
    else s)

/-- REST_TIMER_EXPIRY (R92): the Releasing context becomes Idle as for K1 up. -/
def execRestTimerExpiry (k : Key) (s : State) : Out :=
  .next
    (if (s.drive[k]).state = .releasing ∧ timerDue s.localTime (s.drive[k]).restTimer then
      railService (comeToRest k s)
    else s)

/-- SENSORLESS_RELEASE_TIMER (R93): the Releasing context becomes Idle. -/
def execSensorlessReleaseTimer (k : Key) (s : State) : Out :=
  .next
    (if (s.drive[k]).state = .releasing ∧ timerDue s.localTime (s.drive[k]).sensorlessTimer then
      railService (comeToRest k s)
    else s)

/-- RATE_GAP_END (R108). A request it makes waits at the Rail Controller beyond this command, so that a due action, a Stop
or a Restart taken at the same moment meets it there (R109, R112; log entry 4). -/
def execRateGapEnd (p : Pedal) (s : State) : Out := .next (endGapIfOver p s)

end Sys2Proof.Machine
end

