-- ==== Sys2Proof/Machine/RailCmds.lean ====
section
/-! DEFINITION. The Rail Link (08): RAIL_PASS_THROUGH, ACK, RAIL_REPLY, RAIL_UNEXPECTED_FRAME, RAIL_BAD_FRAME,
ACKNOWLEDGEMENT_WINDOW, RAIL_TRANSMIT_END, PARK_TIMER. -/

namespace Sys2Proof.Machine

/-- A good frame arrives on RLIN: taken at the receiver's place it is acted on, else its bytes go to the receiver as it
stands (R141; log entry 20). -/
def rlinFrame (f : Frame) (act : State → State) (s : State) : State :=
  if s.rlin = ByteIn.start then act s else { s with rlin := takeBytes s.rlin (encodeFrame f) }

/-- RAIL_PASS_THROUGH (R153): taken in every part state and rail state; it gets no Response. -/
def execRailPassThrough (tag : Byte) (payload : List Byte) (s : State) : Out :=
  .next (deliver ⟨0x30, tag, payload⟩ (fun s => railService (takePass payload s)) s)

/-- ACK (R145, R147). -/
def execAck (tag : Byte) (payload : List Byte) (s : State) : Out :=
  .next (rlinFrame ⟨0x70, tag, payload⟩ (fun s => railService (takeAck tag payload s)) s)

/-- RAIL_REPLY (R155). -/
def execRailReply (payload : List Byte) (s : State) (tag : Byte := 0) : Out :=
  .next (rlinFrame ⟨0x71, tag, payload⟩ (takeReply payload) s)

/-- RAIL_UNEXPECTED_FRAME (R141, R147): a protocol fault outside Faulted, discarded in Faulted. -/
def execRailUnexpectedFrame (kind : Byte) (s : State) (tag : Byte := 0) (payload : List Byte := []) : Out :=
  .next (rlinFrame ⟨kind, tag, payload⟩ (fun s => if s.rail.state = .faulted then s else railFault s) s)

/-- RAIL_BAD_FRAME (R141): discarded with no flag and no fault, the receiver scanning for the next Sync where needed. Bytes
that are no bad frame at the receiver's place go to the receiver as it stands (log entry 20). -/
def execRailBadFrame (s : State) (bytes : List Byte := []) : Out :=
  .next
    { s with
      rlin := if s.rlin = ByteIn.start ∧ isBadFrame bytes then afterBadFrame bytes else takeBytes s.rlin bytes }

/-- ACKNOWLEDGEMENT_WINDOW (R146): the expiry of the oldest command's window is a timeout fault. -/
def execAcknowledgementWindow (s : State) : Out := .next (if windowExpired s then railFault s else s)

/-- RAIL_TRANSMIT_END (R143): the transmitter becomes idle and the next command is taken, its frame beginning where the
last one ended. On an idle transmitter the next command is taken that may go, such as a request that the end of a rate gap
left waiting (R108, R109; log entry 4). -/
def execRailTransmitEnd (s : State) : Out :=
  .next (match s.rail.tx with
    | none => railService s
    | some t => if railFrameDone s.localTime t then railServiceAt (railFrameEnd t) (endRailFrame t s) else s)

/-- PARK_TIMER (R149). -/
def execParkTimer (s : State) : Out :=
  .next (if timerDue s.localTime s.rail.parkTimer then railService (parkExpires s) else s)

end Sys2Proof.Machine
end

