-- ==== Sys2Proof/Machine/Dispatch.lean ====
section
/-! DEFINITION. The dispatch: every command to its meaning. -/

namespace Sys2Proof.Machine

/-- The effect of a command on everything but the queue of commands. -/
def exec (i : Instr) (s : State) : Host.Outcome State Fault Refusal :=
  match i with
  | .powerOnReset rateSel roleSel => Sys2Proof.Machine.execPowerOnReset rateSel roleSel s
  | .ptTick => Sys2Proof.Machine.execPtTick s
  | .noteOn tag payload => Sys2Proof.Machine.execNoteOn tag payload s
  | .noteOff tag payload => Sys2Proof.Machine.execNoteOff tag payload s
  | .pedalTarget tag payload => Sys2Proof.Machine.execPedalTarget tag payload s
  | .configure tag payload => Sys2Proof.Machine.execConfigure tag payload s
  | .start tag payload => Sys2Proof.Machine.execStart tag payload s
  | .hold tag payload => Sys2Proof.Machine.execHold tag payload s
  | .resume tag payload => Sys2Proof.Machine.execResume tag payload s
  | .stop tag payload => Sys2Proof.Machine.execStop tag payload s
  | .restart tag payload => Sys2Proof.Machine.execRestart tag payload s
  | .clearErrors tag payload => Sys2Proof.Machine.execClearErrors tag payload s
  | .clockSet tag payload => Sys2Proof.Machine.execClockSet tag payload s
  | .clockLatch tag payload => Sys2Proof.Machine.execClockLatch tag payload s
  | .tableWrite tag payload => Sys2Proof.Machine.execTableWrite tag payload s
  | .tableRead tag payload => Sys2Proof.Machine.execTableRead tag payload s
  | .calibrateQuick tag payload => Sys2Proof.Machine.execCalibrateQuick tag payload s
  | .calibrateSweep tag payload => Sys2Proof.Machine.execCalibrateSweep tag payload s
  | .railPassThrough tag payload => Sys2Proof.Machine.execRailPassThrough tag payload s
  | .unknown kind tag payload => Sys2Proof.Machine.execUnknown kind tag payload s
  | .hunt bytes => Sys2Proof.Machine.execHunt bytes s
  | .verify bytes => Sys2Proof.Machine.execVerify bytes s
  | .crcError bytes => Sys2Proof.Machine.execCrcError bytes s
  | .framingError bytes => Sys2Proof.Machine.execFramingError bytes s
  | .linkLossStop => Sys2Proof.Machine.execLinkLossStop s
  | .frameBoundary => Sys2Proof.Machine.execFrameBoundary s
  | .statusSpacing => Sys2Proof.Machine.execStatusSpacing s
  | .idle tag => Sys2Proof.Machine.execIdle s tag
  | .keyTrip note point direction stamp tag => Sys2Proof.Machine.execKeyTrip note point direction stamp s tag
  | .hammerTrip note gate stamp tag => Sys2Proof.Machine.execHammerTrip note gate stamp s tag
  | .pedalSample raw1 raw2 raw3 tag => Sys2Proof.Machine.execPedalSample raw1 raw2 raw3 s tag
  | .sensorBadFrame bytes => Sys2Proof.Machine.execSensorBadFrame s bytes
  | .lossWindowExpiry => Sys2Proof.Machine.execLossWindowExpiry s
  | .pushTimerExpiry key => Sys2Proof.Machine.execPushTimerExpiry key s
  | .gateTimerExpiry key => Sys2Proof.Machine.execGateTimerExpiry key s
  | .restTimerExpiry key => Sys2Proof.Machine.execRestTimerExpiry key s
  | .sensorlessReleaseTimer key => Sys2Proof.Machine.execSensorlessReleaseTimer key s
  | .captureGateTimeout key => Sys2Proof.Machine.execCaptureGateTimeout key s
  | .restWaitExpiry => Sys2Proof.Machine.execRestWaitExpiry s
  | .settleExpiry => Sys2Proof.Machine.execSettleExpiry s
  | .rateGapEnd pedal => Sys2Proof.Machine.execRateGapEnd pedal s
  | .ack tag payload => Sys2Proof.Machine.execAck tag payload s
  | .railReply payload tag => Sys2Proof.Machine.execRailReply payload s tag
  | .railUnexpectedFrame kind tag payload => Sys2Proof.Machine.execRailUnexpectedFrame kind s tag payload
  | .railBadFrame bytes => Sys2Proof.Machine.execRailBadFrame s bytes
  | .acknowledgementWindow => Sys2Proof.Machine.execAcknowledgementWindow s
  | .railTransmitEnd => Sys2Proof.Machine.execRailTransmitEnd s
  | .parkTimer => Sys2Proof.Machine.execParkTimer s
  | .discardedSensorFrame kind tag payload => Sys2Proof.Machine.execDiscardedSensorFrame s kind tag payload

end Sys2Proof.Machine
end

