-- ==== Sys2Proof/Machine/Time.lean ====
section
/-! DEFINITION. What the part does while no command waits: the events of its own timers and lines that are due now, and
the idle step that takes one of them up or lets one microsecond pass (log entry 2). -/

namespace Sys2Proof.Machine

/-- A command, when its condition holds. -/
def raised (condition : Bool) (c : Instr) : List Instr := if condition then [c] else []

/-- The timers of one key that have expired: push (R89), gate (R95), rest (R92), sensorless release (R93) and capture gate
(R129). -/
def dueOfKey (s : State) (k : Key) : List Instr :=
  let d := s.drive[k]
  let c := s.capture[k]
  raised (decide (d.state = .pushing ∧ d.stage = .sent) && timerDue s.localTime d.pushTimer) (.pushTimerExpiry k) ++
    raised (timerDue s.localTime d.gateTimer) (.gateTimerExpiry k) ++
    raised (decide (d.state = .releasing) && timerDue s.localTime d.restTimer) (.restTimerExpiry k) ++
    raised (decide (d.state = .releasing) && timerDue s.localTime d.sensorlessTimer) (.sensorlessReleaseTimer k) ++
    raised (decide (c.state = .gated) && timerDue s.localTime c.gateTimer) (.captureGateTimeout k)

/-- A pedal's rate gap that has run out with its context in Spacing or Waiting (R108). -/
def dueOfPedal (s : State) (p : Pedal) : List Instr :=
  raised (decide ((s.replay[p]).state = .spacing ∨ (s.replay[p]).state = .waiting) && gapOver p s) (.rateGapEnd p)

/-- The timers of the Calibration Unit that have expired (R163). -/
def dueOfRun (s : State) : List Instr :=
  raised (runTimerDue .awaitingRest s).isSome .restWaitExpiry ++ raised (runTimerDue .settling s).isSome .settleExpiry

/-- What is due on the Rail Link: the end of a frame on RLOUT (R143), the acknowledgement window (R146), the park timer
(R149). -/
def dueOfRail (s : State) : List Instr :=
  raised (s.rail.tx.any (railFrameDone s.localTime)) .railTransmitEnd ++
    raised (windowExpired s) .acknowledgementWindow ++ raised (timerDue s.localTime s.rail.parkTimer) .parkTimer

/-- What is due on PLOUT: the end of a frame, a source on an idle line (R181), or the Status spacing of an idle line with
no source (R181, R183). -/
def dueOfLine (s : State) : List Instr :=
  match s.link.tx with
  | some t => raised (upFrameDone s t) .frameBoundary
  | none => raised (someSource s) .frameBoundary ++ raised (!someSource s && statusDue 1000 s) .statusSpacing

/-- Every event of the part's own timers and lines that is due now. -/
def dueEvents (s : State) : List Instr :=
  raised (tickDue s) .ptTick ++
    raised (inPerformance s && timerDue s.localTime s.clock.linkLoss) .linkLossStop ++
    raised (s.sensor.up && timerDue s.localTime s.sensor.window) .lossWindowExpiry ++
    dueOfRun s ++ dueOfRail s ++ dueOfLine s ++ allPedals.flatMap (dueOfPedal s) ++ allKeys.flatMap (dueOfKey s)

/-- The lines on which frames arrive. -/
inductive LineIn where
  | plin
  | snin
  | rlin
  deriving DecidableEq, Repr

/-- The frame that stands whole at a receiver's place among the bytes taken before, as the command it stands for, with the
bytes after it (R173 to R176, R120, R141). -/
def frameOn (l : LineIn) (s : State) : Option (Instr × List Byte) :=
  match l with
  | .plin => if s.link.rx = .locked then lockedCommand s.link.buffer else none
  | .snin => lineFrame sensorCommand (fun bs => .sensorBadFrame bs) s.snin
  | .rlin => lineFrame railCommand (fun bs => .railBadFrame bs) s.rlin

/-- A receiver at its place with nothing taken, the frame found there being the command that is run. -/
def emptied (l : LineIn) (s : State) : State :=
  match l with
  | .plin => { s with link := { s.link with buffer := [] } }
  | .snin => { s with snin := ByteIn.start }
  | .rlin => { s with rlin := ByteIn.start }

/-- The bytes behind a frame go to the receiver as the frame left it. -/
def takeBehind (l : LineIn) (rest : List Byte) (s : State) : State :=
  match l with
  | .plin => feed rest s
  | .snin => { s with snin := takeBytes s.snin rest }
  | .rlin => { s with rlin := takeBytes s.rlin rest }

/-- What the part can take up by itself: an event of its own that is due, or a frame whole among the bytes a receiver has
taken. -/
inductive Raised where
  | event (c : Instr)
  | frame (l : LineIn) (c : Instr) (rest : List Byte)
  deriving DecidableEq, Repr

/-- The frame that stands whole on a line, if there is one. -/
def raisedFrame (s : State) (l : LineIn) : List Raised :=
  match frameOn l s with
  | none => []
  | some (c, rest) => [.frame l c rest]

/-- What the part can take up now. -/
def raisedNow (s : State) : List Raised :=
  [LineIn.plin, .snin, .rlin].flatMap (raisedFrame s) ++ (dueEvents s).map .event

/-- What the part takes up: a command; for a frame with its receiver at its place, the bytes behind it taken after it. -/
def takeUp (r : Raised) (s : State) : Host.Outcome State Fault Refusal :=
  match r with
  | .event c => exec c s
  | .frame l c rest =>
    match exec c (emptied l s) with
    | .next t => .next (takeBehind l rest t)
    | .fault f => .fault f
    | .refused f => .refused f

/-- One microsecond of local time passes (R3). -/
def passMicrosecond (s : State) : State := { s with localTime := s.localTime + 1 }

/-- The end of a moment, when nothing else can be taken up: the Rail Controller takes a request that was left waiting with a
slot free (R109, R112, R143; log entry 4); else one microsecond of local time passes (R3). -/
def endMoment (s : State) : Host.Outcome State Fault Refusal :=
  if railCanTake s.rail then exec .railTransmitEnd s else .next (passMicrosecond s)

/-- The idle step, taken when no command waits: one of the events and frames that can be taken up now, the manual leaving
open which; else the end of the moment (R3; log entry 2). -/
def idleStep (s : State) : Host.Outcome State Fault Refusal :=
  match raisedNow s with
  | [] => endMoment s
  | [r] => takeUp r s
  | q :: r :: rest =>
    takeUp ((q :: r :: rest).getD (Config.tieBreak s.tieBreak % (rest.length + 2)) q)
      { s with tieBreak := s.tieBreak + 1 }

end Sys2Proof.Machine
end

