-- ==== Sys2Proof/Safety.lean ====
section
/-! DEFINITION. What a sound state of the LT-880 is, in the terms the statements use: the capacities, the ranges, and the
laws between blocks that the manual states of every moment. -/

namespace Sys2Proof.Machine

/-! ## Capacities -/

/-- The Report FIFO never holds more than 64 reports (R100). -/
abbrev ReportsBounded (s : State) : Prop := s.reports.length ≤ 64

/-- The Capture FIFO entries plus the announced notes without a queued Note-Off never exceed 128 (R132). -/
abbrev CaptureBounded (s : State) : Prop := s.captureFifo.length + announcedKeys s ≤ 128

/-- The actions in the Action Queue plus the open keys never exceed 512 (R69). -/
abbrev QueueBounded (s : State) : Prop := s.queue.actions.length + openKeys s.queue ≤ queueSize

/-- At most 4 commands are in flight (R145), 8 frames in the pass-through queue (R153), 4 replies in the buffer (R155). -/
abbrev RailBounded (s : State) : Prop :=
  s.rail.inFlight.length ≤ 4 ∧ s.rail.passQueue.length ≤ 8 ∧ s.rail.replies.length ≤ 4

/-- At most 16 Responses are pending; 17 only with no read in flight and the Response of a completed Table Read the newest
(R179). -/
abbrev ResponsesBounded (s : State) : Prop :=
  s.link.responses.length ≤ 16 ∨
    (s.link.responses.length = 17 ∧ s.tableRead = none ∧
      ∀ r ∈ s.link.responses.getLast?, r.kind = 0x21 ∧ (r.code = .done ∨ r.code = .outOfRange))

/-! ## The tables (02) -/

/-- Every calibration record is valid (R19, R20, R23). -/
abbrev CalibrationValid (s : State) : Prop := ∀ k : Key, calValid s.tables.cal[k] = true

/-- Every Pedal Table record is valid (R30). -/
abbrev PedalTableValid (s : State) : Prop := ∀ p : Pedal, pedalValid s.tables.pedal[p] = true

/-- Every Key Map channel lies in 0..88, and no two entries hold the same channel from 1..88 (R25). -/
abbrev KeyMapValid (s : State) : Prop :=
  (∀ k : Key, (s.tables.keyMap[k]).channel ≤ 88) ∧
    ∀ j k : Key, j ≠ k → (s.tables.keyMap[j]).channel = (s.tables.keyMap[k]).channel →
      (s.tables.keyMap[j]).channel = 0

/-- Every field of the Configuration Record lies in its range (R32). -/
abbrev ConfigValid (s : State) : Prop :=
  s.tables.config.lateLimit ≤ 5000 ∧ s.tables.config.sensorDelay ≤ 255 ∧ s.tables.config.park ≤ 255 ∧
    -12 ≤ s.tables.config.transpose ∧ s.tables.config.transpose ≤ 12

/-- The four tables hold valid records. -/
abbrev TablesValid (s : State) : Prop :=
  CalibrationValid s ∧ PedalTableValid s ∧ KeyMapValid s ∧ ConfigValid s

/-! ## The clock and the part state (01) -/

/-- In Unconfigured PT is 0 (R1). -/
abbrev ZeroWhenUnconfigured (s : State) : Prop := s.clock.part = .unconfigured → s.clock.pt = 0

/-- The link-loss timer runs exactly while a Running or Held part's receiver is out of Locked (R11). -/
abbrev LinkLossRuns (s : State) : Prop :=
  s.clock.linkLoss.isSome = (inPerformance s && decide (s.link.rx ≠ .locked))

/-- A calibration run is in flight in Stopped alone (R158, R169). -/
abbrev RunOnlyStopped (s : State) : Prop := s.run.isSome → s.clock.part = .stopped

/-- Outside Running and Held the queue is empty, no key is open and no key is announced (R22, R57, R137, R138). -/
abbrev QuietOutsidePerformance (s : State) : Prop :=
  inPerformance s = false →
    s.queue.actions = [] ∧ openKeys s.queue = 0 ∧ ∀ k : Key, (s.capture[k]).announced = false

/-! ## The Action Queue (04) -/

/-- The times read forward from PT stand in non-decreasing order (R74). -/
abbrev QueueOrdered (s : State) : Prop :=
  (s.queue.actions.map fun a => place s.clock.pt a.time).Pairwise (· ≤ ·)

/-- No queued action is overdue, and in Running none is due (R75). -/
abbrev NothingOverdue (s : State) : Prop :=
  ∀ a ∈ s.queue.actions,
    earlier a.time s.clock.pt = false ∧ (s.clock.part = .running → isDue s.clock.pt a.time = false)

/-- A strike's values lie in the ranges R42, R43 and R73 give them. -/
abbrev StrikeInRange (st : Strike) : Prop :=
  50 ≤ st.speed ∧ st.speed ≤ 6000 ∧ st.level ≤ 1023 ∧ st.lead ≤ 65535 ∧ st.deferrals ≤ 16

/-- The strike of an action, when it is one. -/
def strikeOf (a : Action) : Option Strike :=
  match a.body with
  | .strike st _ => some st
  | _ => none

/-- Every queued strike's values lie in their ranges (R42, R43, R73). -/
abbrev StrikesInRange (s : State) : Prop := ∀ a ∈ s.queue.actions, ∀ st ∈ strikeOf a, StrikeInRange st

/-! ## Keys driven and keys captured (05, 07) -/

/-- While a key's drive context is not Idle its capture context is at Rest, not announced (R124, R125). -/
abbrev DrivenKeysAtRest (s : State) : Prop :=
  ∀ k : Key, (s.drive[k]).state ≠ .idle → s.capture[k] = CaptureContext.clear

/-- A capture context holds what its state gives it: a G1 and a running gate timer while Gated and only then, a
remembered state, Down or Quiet, while Rearmed or Gated with restrike and only then, restrike clear at Rest and in
Descending (R126). -/
abbrev CaptureFormed (c : CaptureContext) : Prop :=
  c.g1.isSome = decide (c.state = .gated) ∧ c.gateTimer.isSome = decide (c.state = .gated) ∧
    c.remembered.isSome = (decide (c.state = .rearmed) || (decide (c.state = .gated) && c.restrike)) ∧
    (∀ r ∈ c.remembered, r = .down ∨ r = .quiet) ∧ (c.state = .rest ∨ c.state = .descending → c.restrike = false)

/-- Every capture context is well formed (R126). -/
abbrev CapturesFormed (s : State) : Prop := ∀ k : Key, CaptureFormed s.capture[k]

/-! ## Requests at the rail (05, 06, 08) -/

/-- A PedalSet of a pedal waits at the Rail Controller exactly while its replay context is Requested, and never two of
them (R105, R106). -/
abbrev PedalRequests (s : State) : Prop :=
  ∀ p : Pedal, (s.rail.waiting.filter fun r => decide (r.cmd = .pedalSet p)).length =
    if (s.replay[p]).state = .requested then 1 else 0

/-- A waiting Push belongs to a context that is Pushing with its Push Waiting, of a part that is Running or Held, or of a
Stopped part whose context drives the calibration probe the Push carries (R87, R101). -/
abbrev PushOwned (s : State) (c : RailCmd) : Prop :=
  match c with
  | .push k channel level =>
    (s.drive[k]).state = .pushing ∧ (s.drive[k]).stage = .waiting ∧
      (inPerformance s = true ∨
        (s.clock.part = .stopped ∧ (s.drive[k]).job = some (.probe channel level)))
  | _ => True

/-- Every waiting Push is owned, and no key has two of them (R87, R101). -/
def PushesOwned (s : State) : Prop :=
  (∀ r ∈ s.rail.waiting, PushOwned s r.cmd) ∧
    ∀ k : Key, (s.rail.waiting.filter fun r => isPushOf k r.cmd).length ≤ 1

/-- A context drives a probe. -/
def drivesProbe (d : DriveContext) : Bool :=
  match d.job with
  | some (.probe _ _) => true
  | _ => false

/-- The key of a run in Probing with its request taken drives a probe for as long as its context is Pushing (R104, R161). -/
abbrev ProbeDriven (s : State) : Prop :=
  ∀ c ∈ s.run, c.phase = .probing → c.taken = true → (s.drive[c.current]).state = .pushing →
    drivesProbe s.drive[c.current] = true

/-- At most one Release All waits (R142). -/
abbrev OneReleaseAll (s : State) : Prop := (s.rail.waiting.filter fun r => isReleaseAll r.cmd).length ≤ 1

/-! ## What a command leaves for the statements to say -/

/-- The two states agree on all that the taking of rail commands and the hand-over of due actions cannot change. -/
abbrev SameBase (s t : State) : Prop :=
  t.pending = s.pending ∧ t.tieBreak = s.tieBreak ∧ t.localTime = s.localTime ∧ t.rateSel = s.rateSel ∧
    t.roleSel = s.roleSel ∧ t.tables = s.tables ∧ t.tableRead = s.tableRead ∧ t.pedals = s.pedals ∧
    t.sensor = s.sensor ∧ t.snin = s.snin ∧ t.keyGap = s.keyGap ∧ t.rlin = s.rlin ∧ t.link = s.link

/-- No rail command can be taken: a frame is on RLOUT, or nothing waits. -/
abbrev RailQuiet (s : State) : Prop := s.rail.tx.isSome = true ∨ (s.rail.waiting = [] ∧ s.rail.passQueue = [])

/-- What the taking of rail commands leaves of a state `e`: `t` agrees with it outside the drive, replay, capture and
calibration contexts, the reports, the captured events, the sticky flags and the rail's lists, state, transmitter and park
timer, and is `e` itself when no command can be taken. -/
abbrev ServiceFrame (e t : State) : Prop :=
  SameBase e t ∧ t.clock = e.clock ∧ t.queue = e.queue ∧ t.rail.mask = e.rail.mask ∧
    t.rail.powerOff = e.rail.powerOff ∧ t.rail.replies = e.rail.replies ∧ (RailQuiet e → t = e)

/-- `t` is the state `e` after the Rail Controller's taking of commands (R143): that operation's result, with what it leaves
of `e`. -/
abbrev AfterService (e t : State) : Prop := t = railService e ∧ ServiceFrame e t

/-- The head of the queue is not due, or the part is not Running: nothing is to be handed over (R75, R77). -/
abbrev NoneDue (s : State) : Prop :=
  s.clock.part = .running → ∀ a ∈ s.queue.actions.head?, isDue s.clock.pt a.time = false

/-- A good frame on PLIN is acted on: the receiver is Locked, with no byte of a frame taken (R175, R178; log entry 6). -/
abbrev AtFrame (s : State) : Prop := s.link.rx = .locked ∧ s.link.buffer = []

/-- A request frame is acted on: the receiver is Locked at a frame and fewer than 16 Responses are pending (R178, R179). -/
abbrev RequestTaken (s : State) : Prop := AtFrame s ∧ s.link.responses.length < 16

/-- The state after a request delivered in Locked has placed its Response: the bad count 0, the Response at the tail. -/
def answered (r : Response) (s : State) : State :=
  { s with link := { s.link with badCount := 0, responses := s.link.responses ++ [r] } }

/-- The commands that are requests of the transport, or frames of unknown Kind: those that draw a Response (R178, R179). -/
def requestFrames (tag kind : Byte) (p : List Byte) : List Instr :=
  [.configure tag p, .start tag p, .hold tag p, .resume tag p, .stop tag p, .restart tag p, .clearErrors tag p,
    .clockSet tag p, .clockLatch tag p, .tableWrite tag p, .tableRead tag p, .calibrateQuick tag p,
    .calibrateSweep tag p, .unknown kind tag p]

end Sys2Proof.Machine
end

