-- ==== Sys2Proof/Certificates/Slice0/Obligations.lean ====
section
/-! DEFINITION. The statements for the provers. Each formalises what the numbered rules of spec/ say of the LT-880; a clause
that rests on a choice of the model names its log entry. -/

open Sys2Proof Sys2Proof.Machine

/-! ## The step -/

/-- The step takes the command at the front of the queue: it is `exec` of that command on the state with the queue's
rest. -/
def Obligations.StepTakesTheFront : Prop :=
  ∀ (c : Instr) (rest : List Instr) (s : State),
    step { s with pending := c :: rest } = exec c { s with pending := rest }

/-- With no command waiting the step takes up one of the frames that stand whole among the bytes a receiver has taken
and of the part's own events that are due (which of several is the free choice of log entry 2); with none of these, a
rail request left waiting with a slot free (log entry 4); else one microsecond of local time passes and nothing else
happens (R3). A frame that stands whole at the place of the receiver on PLIN (Locked, R175, R176), SNIN (R120) or RLIN
(R141), good or bad, is one of them, as the command it stands for. With the bytes taken deciding nothing, or a receiver
that is out of Locked or scans, no frame of that line is one of them. The part's own events are exactly the expiries of
its timers (R1, R11, R89, R92, R93, R95, R108, R120, R129, R146, R149, R163) and the moments of its lines (R143, R181,
R183), each due from its time on (log entry 9). Taking a frame up runs its command with the receiver at its place, and
the bytes behind it are then taken. -/
def Obligations.IdleStepPassesTime : Prop :=
  (∀ s : State, s.pending = [] →
    let canTake := s.rail.tx = none ∧ s.rail.inFlight.length < 4 ∧
      (nextRequest s.rail ≠ none ∨
        s.rail.passQueue ≠ [] ∧ (s.rail.state = .active ∨ s.rail.state = .off ∨ s.rail.state = .parked))
    (raisedNow s = [] → ¬canTake → step s = .next { s with localTime := s.localTime + 1 }) ∧
    (raisedNow s = [] → canTake → step s = .next (railService s)) ∧
    (∀ r, raisedNow s = [r] → step s = takeUp r s) ∧
    (2 ≤ (raisedNow s).length →
      ∃ r ∈ raisedNow s, step s = takeUp r { s with tieBreak := s.tieBreak + 1 })) ∧
  (∀ (s : State) (f : Frame) (bytes rest : List Byte), f.payload.length ≤ 124 →
    (∀ c, .event c ∈ raisedNow s ↔ c ∈ dueEvents s) ∧
    (s.link.rx ≠ .locked ∨ judge s.link.buffer = .needMore → ∀ c r, .frame .plin c r ∉ raisedNow s) ∧
    (s.snin.scanning = true ∨ judge s.snin.buffer = .needMore → ∀ c r, .frame .snin c r ∉ raisedNow s) ∧
    (s.rlin.scanning = true ∨ judge s.rlin.buffer = .needMore → ∀ c r, .frame .rlin c r ∉ raisedNow s) ∧
    (s.link.rx = .locked → s.link.buffer = encodeFrame f ++ rest →
      .frame .plin (performanceCommand f) rest ∈ raisedNow s) ∧
    (s.link.rx = .locked → s.link.buffer = bytes ++ rest → judge bytes = .badCheck [] →
      .frame .plin (.crcError bytes) rest ∈ raisedNow s) ∧
    (s.link.rx = .locked → s.link.buffer = bytes → judge bytes = .noSync ∨ judge bytes = .overLength →
      .frame .plin (.framingError bytes) [] ∈ raisedNow s) ∧
    (s.snin = ⟨encodeFrame f ++ rest, false⟩ → .frame .snin (sensorCommand f) rest ∈ raisedNow s) ∧
    (s.snin = ⟨bytes ++ rest, false⟩ → judge bytes = .badCheck [] →
      .frame .snin (.sensorBadFrame bytes) rest ∈ raisedNow s) ∧
    (s.snin = ⟨bytes, false⟩ → judge bytes = .noSync ∨ judge bytes = .overLength →
      .frame .snin (.sensorBadFrame bytes) [] ∈ raisedNow s) ∧
    (s.rlin = ⟨encodeFrame f ++ rest, false⟩ → .frame .rlin (railCommand f) rest ∈ raisedNow s) ∧
    (s.rlin = ⟨bytes ++ rest, false⟩ → judge bytes = .badCheck [] →
      .frame .rlin (.railBadFrame bytes) rest ∈ raisedNow s) ∧
    (s.rlin = ⟨bytes, false⟩ → judge bytes = .noSync ∨ judge bytes = .overLength →
      .frame .rlin (.railBadFrame bytes) [] ∈ raisedNow s)) ∧
  (∀ (s : State) (c : Instr),
    let now := s.localTime
    let expired := fun (timer : Option Nat) => ∃ d, timer = some d ∧ d ≤ now
    let rate := match s.rateSel with
      | .level0 => 3
      | .lowResistor => 6
      | .float => 12
      | .level1 => 24
    let ready := s.link.responses ≠ [] ∨ s.captureFifo ≠ [] ∨ s.tableRead.isSome = true ∨ s.reports ≠ [] ∨
      s.rail.replies ≠ []
    c ∈ dueEvents s ↔
      (c = .ptTick ∧ s.clock.part = .running ∧ s.clock.unitStart + 10 ≤ now) ∨
      (c = .linkLossStop ∧ (s.clock.part = .running ∨ s.clock.part = .held) ∧ expired s.clock.linkLoss) ∨
      (c = .lossWindowExpiry ∧ s.sensor.up = true ∧ expired s.sensor.window) ∨
      (c = .restWaitExpiry ∧ ∃ r, s.run = some r ∧ r.phase = .awaitingRest ∧ expired r.timer) ∨
      (c = .settleExpiry ∧ ∃ r, s.run = some r ∧ r.phase = .settling ∧ expired r.timer) ∨
      (c = .railTransmitEnd ∧ ∃ x, s.rail.tx = some x ∧ x.start + (7 + x.frame.payload.length) * 10 ≤ 12 * now) ∨
      (c = .acknowledgementWindow ∧ ∃ o rest w, s.rail.inFlight = o :: rest ∧ s.rail.window = some w ∧
        w + (if o.cmd = .unpark then 50000 else 1000) ≤ now) ∨
      (c = .parkTimer ∧ expired s.rail.parkTimer) ∨
      (c = .frameBoundary ∧
        ((s.link.tx = none ∧ ready) ∨
          ∃ x, s.link.tx = some x ∧ x.start + (7 + (upFrame x.frame).payload.length) * (120 / rate) ≤ 12 * now)) ∨
      (c = .statusSpacing ∧ s.link.tx = none ∧ ¬ready ∧ ∀ d ∈ s.link.lastStatus, d + 1000 ≤ now) ∨
      (∃ p : Pedal, c = .rateGapEnd p ∧ ((s.replay[p]).state = .spacing ∨ (s.replay[p]).state = .waiting) ∧
        ∀ us ∈ (s.replay[p]).lastSent, us + (s.tables.pedal[p]).rateGap * 1000 ≤ now) ∨
      ∃ k : Key,
        (c = .pushTimerExpiry k ∧ (s.drive[k]).state = .pushing ∧ (s.drive[k]).stage = .sent ∧
          expired (s.drive[k]).pushTimer) ∨
        (c = .gateTimerExpiry k ∧ expired (s.drive[k]).gateTimer) ∨
        (c = .restTimerExpiry k ∧ (s.drive[k]).state = .releasing ∧ expired (s.drive[k]).restTimer) ∨
        (c = .sensorlessReleaseTimer k ∧ (s.drive[k]).state = .releasing ∧ expired (s.drive[k]).sensorlessTimer) ∨
        (c = .captureGateTimeout k ∧ (s.capture[k]).state = .gated ∧ expired (s.capture[k]).gateTimer)) ∧
  ∀ (s t : State) (c : Instr) (rest : List Byte),
    takeUp (.event c) s = exec c s ∧
    (exec c { s with link := { s.link with buffer := [] } } = .next t →
      takeUp (.frame .plin c rest) s = .next (feed rest t)) ∧
    (exec c { s with snin := ⟨[], false⟩ } = .next t →
      takeUp (.frame .snin c rest) s = .next { t with snin := takeBytes t.snin rest }) ∧
    (exec c { s with rlin := ⟨[], false⟩ } = .next t →
      takeUp (.frame .rlin c rest) s = .next { t with rlin := takeBytes t.rlin rest })

/-- Every command, in every state, leads to a next state: no command stops the part. No command touches the queue of
commands or the model's counter, and none but POWER_ON_RESET touches local time (R3) or the latched straps (R25, R171).
-/
def Obligations.CommandsKeepTheQueue : Prop :=
  ∀ (c : Instr) (s : State), ∃ t, exec c s = .next t ∧ t.pending = s.pending ∧ t.tieBreak = s.tieBreak ∧
    ((∃ r q, c = .powerOnReset r q) ∨
      (t.localTime = s.localTime ∧ t.rateSel = s.rateSel ∧ t.roleSel = s.roleSel))

/-! ## Rules of the whole machine -/

/-- PT advances only by PT_TICK while the part is Running, by one unit modulo 2^32; it is otherwise changed only by
Clock Set in Stopped, which writes the carried value, and by power-on reset and Restart, which set it to 0 (R1, R16). -/
def Obligations.PtChangesOnly : Prop :=
  ∀ (c : Instr) (s t : State), exec c s = .next t → t.clock.pt ≠ s.clock.pt →
    (c = .ptTick ∧ s.clock.part = .running ∧ t.clock.pt = s.clock.pt + 1#32) ∨
      (∃ tag p, c = .clockSet tag p ∧ s.clock.part = .stopped ∧ t.clock.pt = bits32 p 0) ∨
      (∃ tag p, c = .restart tag p ∧ t.clock.pt = 0) ∨
      (∃ r q, c = .powerOnReset r q ∧ t.clock.pt = 0)

/-- The part state changes only as the two tables of 01 show: by Configure, Start, Hold, Resume, Stop and Restart, by
the expiry of the link-loss timer, by a rail fault, and by power-on reset. Faulted is left by Stop, Restart and power-on
reset alone (R6 to R14, R18). -/
def Obligations.PartStateChangesOnly : Prop :=
  ∀ (c : Instr) (s t : State), exec c s = .next t → t.clock.part ≠ s.clock.part →
    (∃ tag p, c = .configure tag p ∧ s.clock.part = .unconfigured ∧ t.clock.part = .stopped) ∨
      (∃ tag p, c = .start tag p ∧ s.clock.part = .stopped ∧ t.clock.part = .running) ∨
      (∃ tag p, c = .hold tag p ∧ s.clock.part = .running ∧ t.clock.part = .held) ∨
      (∃ tag p, c = .resume tag p ∧ s.clock.part = .held ∧ t.clock.part = .running) ∨
      (∃ tag p, c = .stop tag p ∧ s.clock.part ≠ .unconfigured ∧ t.clock.part = .stopped ∧ t.clock.cause = .request) ∨
      (∃ tag p, c = .restart tag p ∧ t.clock.part = .unconfigured ∧ t.clock.cause = .none) ∨
      (c = .linkLossStop ∧ inPerformance s = true ∧ t.clock.part = .stopped ∧ t.clock.cause = .linkLoss) ∨
      (((∃ tag p, c = .ack tag p) ∨ (∃ k tag p, c = .railUnexpectedFrame k tag p) ∨ c = .acknowledgementWindow) ∧
        inPerformance s = true ∧ t.clock.part = .faulted ∧ t.clock.cause = .railFault) ∨
      (∃ r q, c = .powerOnReset r q ∧ t.clock.part = .unconfigured ∧ t.clock.cause = .none)

/-- Who writes the tables: the Calibration Table, Table Write, the auto-trim of a measurement closed by G2, and the end
of a calibration key (R19, R23); the Key Map, Table Write in Unconfigured and Stopped (R29); the Pedal Table, Table
Write (R30); the Configuration Record, Configure and Restart (R32); and power-on reset all four. -/
def Obligations.TablesChangeOnly : Prop :=
  ∀ (c : Instr) (s t : State), exec c s = .next t →
    (∃ r q, c = .powerOnReset r q) ∨
      ((t.tables.cal ≠ s.tables.cal →
          (∃ tag p, c = .tableWrite tag p) ∨ (∃ n g st tag, c = .hammerTrip n g st tag) ∨ c = .settleExpiry) ∧
        (t.tables.keyMap ≠ s.tables.keyMap →
          (∃ tag p, c = .tableWrite tag p) ∧ (s.clock.part = .unconfigured ∨ s.clock.part = .stopped)) ∧
        (t.tables.pedal ≠ s.tables.pedal → ∃ tag p, c = .tableWrite tag p) ∧
        (t.tables.config ≠ s.tables.config → (∃ tag p, c = .configure tag p) ∨ ∃ tag p, c = .restart tag p))

/-! ## Laws that every step keeps -/

/-- The Report FIFO never holds more than 64 reports (R100); at most 4 rail commands are in flight (R145), 8
pass-through frames (R153) and 4 replies (R155) stored, one Release All waiting (R142); at most 16 Responses are
pending, and 17 only with no read in flight and the Response of a completed Table Read the newest of them (R179); and
the Capture FIFO entries plus the announced keys never exceed 128 (R132). Each of these bounds is kept by itself. A
report added to a full Report FIFO discards the oldest and sets ReportsLost; the new one stands at the tail in any case
(R100). The announced keys are those of the 88 whose capture context is announced (R126, R132). -/
def Obligations.StoresStayBounded : Prop :=
  (∀ s t : State, ReportsBounded s → step s = .next t → ReportsBounded t) ∧
    (∀ s t : State, RailBounded s → step s = .next t → RailBounded t) ∧
    (∀ s t : State, OneReleaseAll s → step s = .next t → OneReleaseAll t) ∧
    (∀ s t : State, ResponsesBounded s → step s = .next t → ResponsesBounded t) ∧
    (∀ s t : State, CaptureBounded s → step s = .next t → CaptureBounded t) ∧
    (∀ (s : State) (r : Report),
      (s.reports.length < 64 → addReport r s = { s with reports := s.reports ++ [r] }) ∧
      ∀ oldest rest, s.reports = oldest :: rest → s.reports.length = 64 →
        addReport r s = { s with reports := rest ++ [r], sticky := { s.sticky with reportsLost := true } }) ∧
    ∀ s : State, announcedKeys s = ((List.finRange 88).filter fun k => (s.capture[k]).announced).length

/-- The queued actions plus the open keys never exceed 512 (R69), and every queued strike keeps a target speed of
50..6000, a level of 0..1023, a lead T1 of 0..65,535 and a deferral count of 0..16 (R42, R43, R73, R79). The open keys,
each of which reserves one entry, are those of the 88 whose intake record is open (R63). -/
def Obligations.QueueStaysBounded : Prop :=
  (∀ s t : State, QueueBounded s → step s = .next t → QueueBounded t) ∧
    (∀ s t : State, StrikesInRange s → step s = .next t → StrikesInRange t) ∧
    ∀ q : ActionQueue, openKeys q = ((List.finRange 88).filter fun k => (q.intake[k]).isOpen).length

/-- Every record of the four tables stays valid: every calibration and Pedal Table record by R20 and R30, with every
lead trim within −2000..+2000 (R23), no channel held by two keys (R25), every configuration field in its range (R32). -/
def Obligations.TablesStayValid : Prop :=
  ∀ s t : State, TablesValid s → step s = .next t → TablesValid t

/-- The link-loss timer runs exactly while a Running or Held part's receiver is out of Locked (R11), and a calibration
run is in flight in Stopped alone (R158, R169), and PT is 0 in Unconfigured (R1). -/
def Obligations.ClockLawsAreKept : Prop :=
  ∀ s t : State, LinkLossRuns s ∧ RunOnlyStopped s ∧ ZeroWhenUnconfigured s → step s = .next t →
    LinkLossRuns t ∧ RunOnlyStopped t ∧ ZeroWhenUnconfigured t

/-- The queue stays in order of time read forward from PT, nothing in it overdue and in Running nothing due; outside
Running and Held it is empty, no key is open and no key announced (R74, R75, R22, R82, R137). -/
def Obligations.QueueStaysOrdered : Prop :=
  ∀ s t : State, QueueOrdered s ∧ NothingOverdue s ∧ QuietOutsidePerformance s → step s = .next t →
    QueueOrdered t ∧ NothingOverdue t ∧ QuietOutsidePerformance t

/-- While a key's drive context is not Idle its capture context stays at Rest and not announced, so that no capture
event of the key is queued (R124, R125); and every capture context holds what its state gives it and nothing else (R126
to R130). -/
def Obligations.CapturesStayFormed : Prop :=
  (∀ s t : State, DrivenKeysAtRest s → step s = .next t → DrivenKeysAtRest t) ∧
    ∀ s t : State, CapturesFormed s → step s = .next t → CapturesFormed t

/-- A pedal's replay context is Requested exactly while one PedalSet of it waits at the Rail Controller (R105, R106,
R111). Every waiting Push belongs to a Pushing context that waits for it, in Running or Held, or to a calibration probe
in Stopped, and no key has two (R87, R91, R101, R103, R104). The key of a run in Probing with its request taken, while
its context is Pushing, drives that probe (R104, R161). -/
def Obligations.RequestsStayOwned : Prop :=
  (∀ s t : State, PedalRequests s → step s = .next t → PedalRequests t) ∧
    (∀ s t : State, PushesOwned s ∧ RunOnlyStopped s → step s = .next t → PushesOwned t ∧ RunOnlyStopped t) ∧
    ∀ s t : State, ProbeDriven s ∧ RunOnlyStopped s → step s = .next t → ProbeDriven t ∧ RunOnlyStopped t

/-- No Push is sent to the rail while the part is Unconfigured or Faulted, and none while it is Stopped except a
calibration probe: a step that begins a Push frame on RLOUT ends with the part Running or Held, or Stopped with the Push
one that a probe's context owned (R101). -/
def Obligations.PushesAreSentOnlyInPerformance : Prop :=
  ∀ s t : State, PushesOwned s → RunOnlyStopped s → step s = .next t →
    ∀ x, t.rail.tx = some x → (s.rail.tx.map fun y => (y.frame, y.start)) ≠ some (x.frame, x.start) →
      x.frame.kind = 0x61 →
      inPerformance t = true ∨
        (t.clock.part = .stopped ∧ ∃ (k : Key) (channel level : Nat),
          (t.drive[k]).job = some (.probe channel level) ∧ x.frame.payload = put8 channel ++ put16 level)

/-- The state after power-on reset, whatever the straps, meets every one of these laws. -/
def Obligations.ResetMeetsTheLaws : Prop :=
  ∀ r q : StrapLevel, let s := State.powerOn r q
    ReportsBounded s ∧ CaptureBounded s ∧ QueueBounded s ∧ RailBounded s ∧ OneReleaseAll s ∧ ResponsesBounded s ∧
      TablesValid s ∧ LinkLossRuns s ∧ RunOnlyStopped s ∧ ZeroWhenUnconfigured s ∧ QueueOrdered s ∧
      NothingOverdue s ∧ QuietOutsidePerformance s ∧ StrikesInRange s ∧ DrivenKeysAtRest s ∧ CapturesFormed s ∧
      PedalRequests s ∧ PushesOwned s ∧ ProbeDriven s

/-! ## Arithmetic (03) -/

/-- A curve with increasing x values gives y1 up to x1, y8 from x8 on, and between two points the exact value on their
segment, rounded to the nearest integer with halves toward +∞; the result lies between the least and the greatest y
(R40, R41). -/
def Obligations.CurvesInterpolate : Prop :=
  ∀ (c : Curve) (v : Nat), ((curvePoints c).map (·.x)).Pairwise (· < ·) →
    (v ≤ c.p1.x → interpolate c v = c.p1.y) ∧ (c.p8.x ≤ v → interpolate c v = c.p8.y) ∧
      (∀ (i : Nat) (p q : CurvePoint), (curvePoints c)[i]? = some p → (curvePoints c)[i + 1]? = some q →
        p.x ≤ v → v < q.x →
        (interpolate c v : Int) =
          ⌊(p.y : ℚ) + ((q.y : ℚ) - p.y) * ((v : ℚ) - p.x) / ((q.x : ℚ) - p.x) + 1 / 2⌋) ∧
      (∃ p ∈ curvePoints c, p.y ≤ interpolate c v) ∧ ∃ p ∈ curvePoints c, interpolate c v ≤ p.y

/-- The strike computed at intake: target speed clamped to 50..6000; level the offset curve value held to 0..1023 and to
the ceiling; Clamped when the speed was changed or lies off the selected curve; Ceiling when the ceiling cut the level
(R42); T1 the lead with its trim held to 0..65,535, U its tenth rounded, at most 6554, and the planned time U before the
target modulo 2^32 (R43). -/
def Obligations.StrikesAreComputed : Prop :=
  ∀ (r : CalRecord) (k : Key) (channel carried : Nat) (target : PT) (event : BitVec 16),
    let v := max 50 (min carried 6000)
    let curve := match r.selected with
      | .a => r.curveA
      | .b => r.curveB
    let l1 := max 0 (min ((interpolate curve v : Int) + r.levelOffset) 1023)
    let t1 := max 0 (min ((interpolate r.leadCurve v : Int) + r.leadTrim) 65535)
    let u := ⌊(t1 : ℚ) / 10 + 1 / 2⌋
    let st := computeStrike r k channel carried target event
    st.key = k ∧ st.channel = channel ∧ st.event = event ∧ st.deferrals = 0 ∧ st.late = false ∧ st.speed = v ∧
      (st.level : Int) = min l1 r.ceiling ∧ st.clamped = decide (carried ≠ v ∨ v < curve.p1.x ∨ curve.p8.x < v) ∧
      st.ceiling = decide ((r.ceiling : Int) < l1) ∧ (st.lead : Int) = t1 ∧ (ptUnits st.lead : Int) = u ∧
      ptUnits st.lead ≤ 6554 ∧ st.planned = target - BitVec.ofInt 32 u

/-- The judgement at intake (R44), with d = (t − now) mod 2^32 and the half-range rule of R2: past targets are late by
their lateness plus U, targets nearer than U by U − d, others not at all; Late up to the late limit, Missed above. Where
the target is not past, the lateness is that of the planned time. One time is earlier than another, and an action due,
by the half-range rule of R2; a distance in µs is rounded to PT units (R43, R45). -/
def Obligations.IntakeIsJudged : Prop :=
  (∀ (a b : PT) (u : Nat),
    (earlier a b = true ↔ 1 ≤ (b - a).toNat ∧ (b - a).toNat ≤ 2147483647) ∧
    (isDue a b = true ↔ b = a ∨ earlier b a = true) ∧ before a u = a - BitVec.ofNat 32 u ∧
    (ptUnits u : Int) = ⌊(u : ℚ) / 10 + 1 / 2⌋) ∧
  ∀ (now t : PT) (u limit : Nat), u ≤ 6554 →
    let d := (t - now).toNat
    let past := 2147483648 < d
    let late := if past then (now - t).toNat + u else if u ≤ d then 0 else u - d
    judgeIntake now t u limit =
        (if ¬past ∧ u ≤ d then .normal else if late ≤ limit then .late else .missed) ∧
      (¬past → d < u → late = (now - before t u).toNat) ∧
      placed now t u = (if ¬past ∧ u ≤ d then before t u else now)

/-- The hammer speed: Δ the difference of the stamps modulo 65,536, 0 taken as 1; s × 1000 / Δ rounded, held to
50..6000, and marked clamped when that changed it (R48). -/
def Obligations.HammerSpeedIsMeasured : Prop :=
  ∀ (spacing : Nat) (g1 g2 : Stamp),
    let diff := (g2.toNat + 65536 - g1.toNat) % 65536
    let delta := if diff = 0 then 1 else diff
    let raw := ⌊((spacing : ℚ) * 1000) / delta + 1 / 2⌋
    (hammerSpeed spacing g1 g2 : Int) = max 50 (min raw 6000) ∧
      speedClamped spacing g1 g2 = decide (raw < 50 ∨ 6000 < raw)

/-- Auto-trim and the report of an arrived strike (R49, R50, R97, R98): the latency is ten times the signed distance
from issue to arrival; the trim moves by the error over 8 truncated, held to −2000..+2000, exactly when auto-trim is on,
the strike was never deferred, its context is trim-eligible and the error lies within −20,000..+20,000; then the report
is written, and the measurement and its gate timer are closed. -/
def Obligations.ArrivalIsReported : Prop :=
  ∀ (s : State) (k : Key) (st : Strike) (g1 g2 : Stamp) (time issue : PT),
    (s.drive[k]).job = some (.strike st) → st.key = k → (s.drive[k]).issue = some issue →
    let r := s.tables.cal[k]
    let latency : Int :=
      if earlier time issue then -(10 * ((issue - time).toNat : Int)) else 10 * ((time - issue).toNat : Int)
    let error := latency - st.lead
    let moved := max (-2000) (min (r.leadTrim + error.tdiv 8) 2000)
    let applies := s.tables.config.autoTrim = true ∧ st.deferrals = 0 ∧ (s.drive[k]).trimEligible = true ∧
      -20000 ≤ error ∧ error ≤ 20000
    closeMeasurement k (.arrived g1 g2 time) s =
      addReport
        (.strike
          { event := st.event, note := k.val + 1, channel := st.channel, planned := st.planned, issue := issue
            targetSpeed := st.speed, levelSent := st.level, measuredSpeed := hammerSpeed r.gateSpacing g1 g2
            latency := latency, deferrals := st.deferrals
            flags :=
              { late := st.late, deferred := decide (st.deferrals = 1), redeferred := decide (2 ≤ st.deferrals)
                clamped := st.clamped, ceiling := st.ceiling } })
        { s with
          drive := s.drive.set k.val { s.drive[k] with measuring := false, gateTimer := none } k.isLt
          tables :=
            if applies then
              { s.tables with cal := s.tables.cal.set k.val { r with leadTrim := moved } k.isLt }
            else s.tables }

/-- The onset arithmetic of a Sweep key (R54): o the lowest index that arrived, a = o + adjust held to 0..15 and lowered
to the upper index, the new offset the level recorded for probe a less y1 of the selected curve, held to −255..+255. The
choice of a Quick key (R55): Curve A when the probe arrived not below the firm limit, else Curve B. -/
def Obligations.CalibrationArithmetic : Prop :=
  (∀ (probes : List ProbeRecord) (o : Nat),
      onsetIndex probes = some o ↔
        (∃ p, probes[o]? = some p ∧ p.arrived = true) ∧ ∀ j < o, ∀ p, probes[j]? = some p → p.arrived = false) ∧
    (∀ (o upper : Nat) (adjust : Int),
      (adjustedIndex o adjust upper : Int) = min (max 0 (min ((o : Int) + adjust) 15)) upper) ∧
    (∀ (r : CalRecord) (probes : List ProbeRecord) (a : Nat) (p : ProbeRecord), probes[a]? = some p →
      onsetOffset r probes a = max (-255) (min ((p.level : Int) - (match r.selected with
        | .a => r.curveA.p1.y
        | .b => r.curveB.p1.y)) 255)) ∧
    ∀ (p : ProbeRecord) (firm : Nat),
      quickCurve p firm = if p.arrived = true ∧ firm ≤ p.speed then CurveSelect.a else CurveSelect.b

/-! ## Power-on reset, performance time, performance events (01, 04) -/

/-- What POWER_ON_RESET leaves, with the straps sampled as given (R4, R19, R25, R30, R32, R63, R83, R85, R100, R105,
R113, R122, R126, R136, R157, R187). The receiver of RLIN has no state that a reset changes (R141); that the one of SNIN
is at its place with nothing taken, and RLOUT idle, a frame in transmission dropped, is the model's choice (log entries
20, 32). The queue of commands is the model's own and is kept. -/
def Obligations.PowerOnResetLeaves : Prop :=
  ∀ (r q : StrapLevel) (s : State), ∃ t, exec (.powerOnReset r q) s = .next t ∧ t.pending = s.pending ∧
    t.rateSel = r ∧ t.roleSel = q ∧ t.localTime = 0 ∧
    t.clock.pt = 0 ∧ t.clock.part = .unconfigured ∧ t.clock.cause = .none ∧ t.clock.linkLoss = none ∧
    (∀ k : Key,
      t.tables.cal[k] =
        { curveA :=
            ⟨⟨200, 180⟩, ⟨500, 260⟩, ⟨900, 340⟩, ⟨1400, 420⟩, ⟨2000, 520⟩, ⟨3000, 680⟩, ⟨4200, 860⟩, ⟨5600, 1000⟩⟩
          curveB :=
            ⟨⟨200, 240⟩, ⟨500, 320⟩, ⟨900, 400⟩, ⟨1400, 480⟩, ⟨2000, 580⟩, ⟨3000, 740⟩, ⟨4200, 920⟩, ⟨5600, 1023⟩⟩
          leadCurve :=
            ⟨⟨200, 42000⟩, ⟨500, 31000⟩, ⟨900, 24000⟩, ⟨1400, 19500⟩, ⟨2000, 16800⟩, ⟨3000, 14000⟩, ⟨4200, 12500⟩,
              ⟨5600, 11600⟩⟩
          selected := .a, levelOffset := 0, ceiling := 900, holdLevel := 300, pushLimit := 40, gateSpacing := 3000
          refLevel := 500, firmLimit := 1500, leadTrim := 0, repGap := 8000 } ∧
      (t.tables.keyMap[k]).channel = k.val + 1 ∧
      (t.tables.keyMap[k]).role =
        (match q with
          | .level0 => .both
          | .lowResistor => .replay
          | .float => .capture
          | .level1 => if k.val + 1 ≤ 39 then .capture else .replay)) ∧
    (∀ p : Pedal, t.tables.pedal[p] =
      ⟨⟨⟨0, 0⟩, ⟨585, 146⟩, ⟨1170, 292⟩, ⟨1755, 438⟩, ⟨2340, 584⟩, ⟨2925, 730⟩, ⟨3510, 876⟩, ⟨4095, 1023⟩⟩, 25000, 8,
        4⟩) ∧
    t.tables.config = ⟨false, false, 2000, 30, 24, false, 0⟩ ∧ t.tableRead = none ∧
    t.queue.actions = [] ∧ (∀ k : Key, t.queue.intake[k] = ⟨false, none⟩) ∧ t.queue.lastFlush = 0 ∧
    (∀ k : Key, t.drive[k] = DriveContext.clear ∧ t.capture[k] = CaptureContext.clear) ∧
    DriveContext.clear =
      { state := .idle, job := none, actionTime := none, stage := .waiting, issue := none, sentAt := none
        pushTimer := none, gateTimer := none, measuring := false, g1 := none, notMeasured := false
        trimEligible := false, rearmed := false, releaseSent := none, restTimer := none, sensorlessTimer := none
        restarting := false } ∧
    CaptureContext.clear =
      { state := .rest, remembered := none, announced := false, restrike := false, g1 := none, gateTimer := none } ∧
    (∀ p : Pedal, t.replay[p] = ⟨.ready, 0, none, none⟩ ∧ t.pedals[p] = ⟨0, 0, false⟩) ∧
    t.reports = [] ∧ t.captureFifo = [] ∧ t.keyGap = false ∧
    t.sensor = ⟨false, 0, 0, none⟩ ∧ t.snin = ⟨[], false⟩ ∧ t.rlin = s.rlin ∧
    t.rail = ⟨.active, [], [], none, none, 0, some 120000000, BitVec.allOnes 91, false, [], []⟩ ∧
    t.run = none ∧ t.link = ⟨.hunt, [], 0, [], none, none⟩ ∧ t.sticky = {}

/-- PT_TICK (R1): in Running, when a complete 10 µs of local time has passed since the present unit began, PT grows by
one unit modulo 2^32, the next unit begins, and the actions then due are handed over; otherwise the command changes
nothing (log entries 1, 9). Due actions are handed over one at a time from the head until the head is not due (R75): the
hand-over of all of them takes the head, hands it over and goes on, and ends with no action due. It follows a tick that
is due, and a performance event taken in. In Held nothing is handed over: a performance event leaves the queue as its
intake made it (R77). A Resume's hand-over stands in `HoldAndResumeAreTaken`. That the rail looks at its list only after
every hand-over of the command, so that a strike and a Release of its key due together find the Push waiting and give it
up, is the model's choice (log entry 4). The fields of a payload are those of `NoteOnsAreAdmitted`, `NoteOffsRelease`
and `PedalTargetsAreQueued`. -/
def Obligations.DueActionsAreHandedOver : Prop :=
  (∀ s : State,
    (∀ a rest, s.queue.actions = a :: rest → s.clock.part = .running → isDue s.clock.pt a.time = true →
      dueNow s = dueNow (handOver a { s with queue := { s.queue with actions := rest } })) ∧
    (NoneDue s → dueNow s = s) ∧ NoneDue (dueNow s)) ∧
  (∀ s : State,
    (s.clock.part = .running → s.clock.unitStart + 10 ≤ s.localTime →
      let e : State :=
        { s with clock := { s.clock with pt := s.clock.pt + 1#32, unitStart := s.clock.unitStart + 10 } }
      exec .ptTick s = .next (railService (dueNow e)) ∧ NoneDue (railService (dueNow e)) ∧
        SameBase e (railService (dueNow e)) ∧ (railService (dueNow e)).clock = e.clock) ∧
    (s.clock.part ≠ .running ∨ s.localTime < s.clock.unitStart + 10 → exec .ptTick s = .next s)) ∧
  ∀ (s : State) (tag : Byte) (p : List Byte) (c : Instr) (taken : State), AtFrame s → inPerformance s = true →
    let e : State := { s with link := { s.link with badCount := 0 } }
    ((∃ f, c = .noteOn tag p ∧ noteOnFields? p = some f ∧ taken = intakeNoteOn f e) ∨
      (∃ f, c = .noteOff tag p ∧ noteOffFields? p = some f ∧ taken = intakeNoteOff f.1 f.2 e) ∨
      (∃ f, c = .pedalTarget tag p ∧ pedalTargetFields? p = some f ∧ taken = intakePedal f e)) →
    exec c s = .next (railService (dueNow taken)) ∧ NoneDue (railService (dueNow taken)) ∧
      (s.clock.part = .held → (railService (dueNow taken)).queue = taken.queue)

/-- A strike handed over whose channel is available and whose key is not ready is deferred by 100 PT units and re-placed
(R78), or abandoned with its report at its 17th return (R79) or when its new time would not be earlier than its own
Release (R80); one whose channel is unavailable is reported ChannelOff (R86). A report carries the strike's own fields
and flags (R98, R99). An action enters a queue that is in order behind every action whose time is its own or earlier,
ahead of every action whose time is later, the times read forward from PT (R74). -/
def Obligations.ActionsAreDeferredAndPlaced : Prop :=
  (∀ (st : Strike) (issue pt time : PT) (level speed : Nat) (latency : Int) (flags : StrikeFlags),
    driveReport st issue level speed latency flags =
      .strike ⟨st.event, st.key.val + 1, st.channel, st.planned, issue, st.speed, level, speed, latency, st.deferrals,
        flags⟩ ∧
    strikeFlags st =
      { late := st.late, deferred := decide (st.deferrals = 1), redeferred := decide (2 ≤ st.deferrals)
        clamped := st.clamped, ceiling := st.ceiling } ∧
    place pt time =
      if earlier time pt = true then -((pt - time).toNat : Int) else ((time - pt).toNat : Int)) ∧
  (∀ (s : State) (time : PT) (order : Nat) (st : Strike) (own : Option PT),
    (channelAvailable s.rail st.channel = false →
      handOver ⟨time, order, .strike st own⟩ s =
        addReport (driveReport st 0 0 0 0 { strikeFlags st with channelOff := true }) s) ∧
    (channelAvailable s.rail st.channel = true → keyReady st.key s = false →
      handOver ⟨time, order, .strike st own⟩ s =
        if st.deferrals ≥ 16 ∨ (∃ r ∈ own, earlier (time + 100#32) r = false) then
          addReport (driveReport st 0 0 0 0 { strikeFlags st with abandoned := true }) s
        else
          { s with
            queue :=
              { s.queue with
                actions :=
                  insertAction s.clock.pt
                    ⟨time + 100#32, order, .strike { st with deferrals := st.deferrals + 1 } own⟩
                    s.queue.actions } })) ∧
  ∀ (pt : PT) (a : Action) (as : List Action),
    (as.map fun b => place pt b.time).Pairwise (· ≤ ·) →
    ∃ front back, as = front ++ back ∧ insertAction pt a as = front ++ a :: back ∧
      (∀ b ∈ front, place pt b.time ≤ place pt a.time) ∧ ∀ b ∈ back, place pt a.time < place pt b.time

/-- What a due action does at its hand-over (R76). A strike whose channel is available finds its key ready when its
context is Idle, or Releasing and re-armed, or Releasing under sensor loss with its Release sent (R86). It is then taken
for push: an Idle key gets its drive notice (R124), a measurement still open from an earlier strike is closed and
reported before, NoArrival, or NotMeasured when it carries the mark (R95, R96; log entry 12); every value computed at
intake goes into the Pushing, Waiting context, and Push is requested (R22, R87). A Release acts by the state of its
key's context (R91), and does nothing to one that waits for a Restart's Release All (R103). Three clauses are the
model's choice: a strike taken on a re-armed context that waits for a Restart's Release All keeps that marker, a Release
that falls due for such a strike does nothing, its Waiting Push neither withdrawn nor reported (log entry 13), and a
Release handed over stays recorded as the own Release of the strikes still queued (log entry 10). A pedal position acts
by the state of the replay context (R106), and is issued on an available channel by a PedalSet, on an unavailable one by
being recorded (R107). A channel is available when its bit of the mask is set, the rail is not Off (R152, R154) and the
power flag is clear (in Faulted too: log entry 17). A key of which a calibration run waits to hear stands in
`ProbesAreCarriedOut`. -/
def Obligations.HandOversAreTaken : Prop :=
  (∀ (s : State) (time : PT) (order : Nat) (st : Strike) (own : Option PT),
    let k := st.key
    let d := s.drive[k]
    let h := handOver ⟨time, order, .strike st own⟩ s
    let push := fun (e : State) =>
      requestRail (.push k st.channel st.level)
        { e with
          drive :=
            e.drive.set k.val
              { DriveContext.clear with
                state := .pushing, stage := .waiting, job := some (.strike st), actionTime := some time
                restarting := d.restarting } k.isLt }
    (keyReady k s = true ↔
      d.state = .idle ∨
        (d.state = .releasing ∧ (d.rearmed = true ∨ s.sensor.up = false ∧ d.releaseSent.isSome = true))) ∧
    (channelAvailable s.rail st.channel = true → keyReady k s = true →
      (d.state = .idle →
        h = push
          { s with
            capture := s.capture.set k.val CaptureContext.clear k.isLt
            captureFifo :=
              if (s.capture[k]).announced = true then s.captureFifo ++ [.noteOff k s.clock.pt .drive]
              else s.captureFifo }) ∧
      (d.state = .releasing → d.measuring = false → h = push s) ∧
      (∀ old, d.state = .releasing → d.measuring = true → d.job = some (.strike old) →
        h = push (addReport
          (driveReport old (d.issue.getD 0) old.level 0 0
            (if d.notMeasured = true then { strikeFlags old with notMeasured := true }
              else { strikeFlags old with noArrival := true })) s)) ∧
      (∀ ch lv, d.state = .releasing → d.job = some (.probe ch lv) → s.run = none → h = push s))) ∧
  (∀ (s : State) (time : PT) (order : Nat) (k : Key) (channel : Nat) (implicit : Bool),
    let d := s.drive[k]
    let h := handOver ⟨time, order, .release k channel implicit⟩ s
    let put := fun (d' : DriveContext) => { s with drive := s.drive.set k.val d' k.isLt }
    let released := { d with state := .releasing, rearmed := false, pushTimer := none }
    (d.restarting = true ∨ d.state = .idle ∨ d.state = .releasing → h = s) ∧
    ∀ st, d.restarting = false → d.job = some (.strike st) →
      (d.state = .holding ∨ d.state = .pushing ∧ d.stage = .sent →
        (d.measuring = false ∨ d.notMeasured = false → h = requestRail (.release k st.channel) (put released)) ∧
        (d.measuring = true → d.notMeasured = true →
          h = addReport
            (driveReport st (d.issue.getD 0) st.level 0 0 { strikeFlags st with notMeasured := true })
            (requestRail (.release k st.channel) (put { released with measuring := false, gateTimer := none })))) ∧
      (d.state = .pushing → d.stage = .waiting → (∀ c, s.run = some c → c.current ≠ k) →
        h = addReport (driveReport st 0 0 0 0 { strikeFlags st with missed := true })
          { put DriveContext.clear with
            capture := s.capture.set k.val CaptureContext.clear k.isLt
            rail := { s.rail with waiting := s.rail.waiting.filter fun r => !isPushOf k r.cmd } })) ∧
  (∀ (s : State) (time : PT) (order : Nat) (p : Pedal) (position : Nat),
    let c := s.replay[p]
    let h := handOver ⟨time, order, .pedal p position⟩ s
    let put := fun (c' : PedalReplay) => { s with replay := s.replay.set p.val c' p.isLt }
    (c.state = .ready → pedalAvailable s.rail p = true →
      h = requestRail (.pedalSet p) (put ⟨.requested, position, none, c.lastSent⟩)) ∧
    (c.state = .ready → pedalAvailable s.rail p = false → h = put ⟨.ready, position, none, c.lastSent⟩) ∧
    (c.state = .requested → h = put ⟨.requested, position, c.waiting, c.lastSent⟩) ∧
    (c.state = .spacing ∨ c.state = .waiting → h = put ⟨.waiting, c.commanded, some position, c.lastSent⟩)) ∧
  ∀ r : Rail,
    (∀ channel : Nat, channelAvailable r channel = true ↔
      r.state ≠ .off ∧ r.powerOff = false ∧ r.mask.getLsbD (channel - 1) = true) ∧
    ∀ p : Pedal, pedalAvailable r p = true ↔
      r.state ≠ .off ∧ r.powerOff = false ∧ r.mask.getLsbD (88 + p.val) = true

/-- A performance event delivered in Locked is discarded with EventsDiscarded, and with no other effect, outside Running
and Held (R57), with a Length other than its kind's, or, a Pedal Target, with a pedal outside 1..3 (R56). -/
def Obligations.EventsAreDiscarded : Prop :=
  ∀ (s : State) (tag : Byte) (p : List Byte), AtFrame s →
    let t : State :=
      { s with link := { s.link with badCount := 0 }, sticky := { s.sticky with eventsDiscarded := true } }
    (inPerformance s = false ∨ p.length ≠ 9 → exec (.noteOn tag p) s = .next t) ∧
    (inPerformance s = false ∨ p.length ≠ 5 → exec (.noteOff tag p) s = .next t) ∧
    (inPerformance s = false ∨ p.length ≠ 7 ∨ byteAt p 0 = 0 ∨ 3 < byteAt p 0 → exec (.pedalTarget tag p) s = .next t)

/-- A Note-On that names no strike (R59, R60, R61, R58, R81): reported OutOfRange with the note as sent, Masked, or
OutOfOrder with the channel of the Key Map; the queue, the intake records and every other field stay. The payload is the
note as sent, the speed, the target and the event number, most significant byte first (R56). What is due then follows as
in `DueActionsAreHandedOver`: nothing, in a state that leaves nothing due. -/
def Obligations.NoteOnsThatNameNoStrike : Prop :=
  (∀ note v1 v0 t3 t2 t1 t0 e1 e0 : Byte,
    noteOnFields? [note, v1, v0, t3, t2, t1, t0, e1, e0] =
      some ⟨note.toNat, v1.toNat * 256 + v0.toNat, t3 ++ t2 ++ t1 ++ t0, e1 ++ e0⟩) ∧
  ∀ (s : State) (tag : Byte) (p : List Byte) (f : NoteOnFields), AtFrame s → inPerformance s = true →
    noteOnFields? p = some f →
    let e := { s with link := { s.link with badCount := 0 } }
    let key : Int := (f.note : Int) + s.tables.config.transpose
    let taken := fun (e' : State) =>
      intakeNoteOn f e = e' ∧ exec (.noteOn tag p) s = .next (railService (dueNow e')) ∧
        (NoneDue e' → AfterService e' (railService (dueNow e')))
    let report := fun (note channel : Nat) (flags : StrikeFlags) =>
      addReport (.strike ⟨f.event, note, channel, 0, 0, f.speed, 0, 0, 0, 0, flags⟩) e
    (key < 1 ∨ 88 < key → taken (report f.note 0 { outOfRange := true })) ∧
    ∀ k : Key, key = k.val + 1 →
      let entry := s.tables.keyMap[k]
      (s.tables.config.replayEnable = false ∨ entry.channel = 0 ∨ entry.role = .capture ∨ entry.role = .muted →
        taken (report (k.val + 1) 0 { masked := true })) ∧
      (s.tables.config.replayEnable = true → entry.channel ≠ 0 → entry.role = .replay ∨ entry.role = .both →
        (∃ last, (s.queue.intake[k]).last = some last ∧ earlier f.target last = true) →
        taken (report (k.val + 1) entry.channel { outOfOrder := true }))

/-- A Note-On that passes transposition, the Key Map and the order check, at its admission (R61 to R66, R69, R70, R72,
R81). Its target becomes the key's last taken target. A Normal or Late strike needs two free entries and is queued, Late
at now; a Missed one needs one and is reported Missed; the key is open after it, and when it was open its implicit
Release is queued first, the own Release of each queued strike of the key that has none yet (R63, R65, R80; log entry
10). Without the room it is reported QueueFull, the flag is set, and the key and the queue stay. In Running the actions
then due are handed over at once, a Late strike and a past implicit Release among them (R75; `DueActionsAreHandedOver`,
`HandOversAreTaken`; log entry 4). An action that enters wakes a Parked rail (`wake` of `RailTakesInOrder`). The payload
is that of `NoteOnsThatNameNoStrike` (R56), the open keys those of `QueueStaysBounded`. -/
def Obligations.NoteOnsAreAdmitted : Prop :=
  (∀ note v1 v0 t3 t2 t1 t0 e1 e0 : Byte,
    noteOnFields? [note, v1, v0, t3, t2, t1, t0, e1, e0] =
      some ⟨note.toNat, v1.toNat * 256 + v0.toNat, t3 ++ t2 ++ t1 ++ t0, e1 ++ e0⟩) ∧
  (∀ (k : Key) (time : PT) (a : Action),
    (∀ st, a.body = .strike st none → st.key = k →
      giveRelease k time a = { a with body := .strike st (some time) }) ∧
    ((∀ st, a.body = .strike st none → st.key ≠ k) → giveRelease k time a = a)) ∧
  ∀ (s : State) (tag : Byte) (p : List Byte) (f : NoteOnFields) (k : Key), AtFrame s →
    inPerformance s = true → noteOnFields? p = some f → (f.note : Int) + s.tables.config.transpose = k.val + 1 →
    s.tables.config.replayEnable = true → (s.tables.keyMap[k]).channel ≠ 0 →
    ((s.tables.keyMap[k]).role = .replay ∨ (s.tables.keyMap[k]).role = .both) →
    (∀ last ∈ (s.queue.intake[k]).last, earlier f.target last = false) →
    let r := s.tables.cal[k]
    let pt := s.clock.pt
    let channel := (s.tables.keyMap[k]).channel
    let st := computeStrike r k channel f.speed f.target f.event
    let wasOpen := (s.queue.intake[k]).isOpen
    let judgement := judgeIntake pt f.target (ptUnits st.lead) s.tables.config.lateLimit
    let free := 512 - s.queue.actions.length - openKeys s.queue
    let need := if judgement = .missed then 1 else 2
    let e : State := { s with link := { s.link with badCount := 0 } }
    let n := s.queue.nextOrder
    let release : Action :=
      ⟨placed pt f.target (ptUnits r.repGap), n, .release k channel true⟩
    let ended :=
      if wasOpen then insertAction pt release (s.queue.actions.map (giveRelease k release.time)) else s.queue.actions
    let next := if wasOpen then n + 1 else n
    let strike : Action :=
      if judgement = .late then ⟨pt, next, .strike { st with late := true } none⟩ else ⟨st.planned, next, .strike st none⟩
    let records := fun isOpen => s.queue.intake.set k.val ⟨isOpen, some f.target⟩ k.isLt
    let admitted : State :=
      if judgement = .missed then
        addReport (driveReport st 0 0 0 0 { strikeFlags st with missed := true })
          ((if wasOpen then wake else id)
            { e with queue := { s.queue with actions := ended, intake := records true, nextOrder := next } })
      else
        wake
          { e with
            queue :=
              { s.queue with actions := insertAction pt strike ended, intake := records true, nextOrder := next + 1 } }
    let refused : State :=
      addReport
        (driveReport { st with late := decide (judgement = .late) } 0 0 0 0
          { strikeFlags { st with late := decide (judgement = .late) } with
            missed := decide (judgement = .missed), queueFull := true })
        { e with
          queue := { s.queue with intake := records wasOpen }
          sticky := { s.sticky with queueFull := true } }
    let taken := fun (e' : State) =>
      intakeNoteOn f e = e' ∧ exec (.noteOn tag p) s = .next (railService (dueNow e')) ∧
        (NoneDue e' → AfterService e' (railService (dueNow e')))
    QueueBounded s → (need ≤ free → taken admitted) ∧ (free < need → taken refused)

/-- A Note-Off (R67, R68, R58, R45): on an open, unmasked key its Release is queued from the key's reserve at its
target, raised to the last taken target and to now when past, it is the own Release of each queued strike of the key
that has none yet (R80; log entry 10), and the key is closed; otherwise the Note-Off is discarded in silence. The
payload is the note as sent and the target, most significant byte first (R56). In Running what is due is then handed
over at once, a past Release with it (R75; `DueActionsAreHandedOver`; log entry 4). -/
def Obligations.NoteOffsRelease : Prop :=
  (∀ note t3 t2 t1 t0 : Byte, noteOffFields? [note, t3, t2, t1, t0] = some (note.toNat, t3 ++ t2 ++ t1 ++ t0)) ∧
  (∀ (k : Key) (time : PT) (a : Action),
    (∀ st, a.body = .strike st none → st.key = k →
      giveRelease k time a = { a with body := .strike st (some time) }) ∧
    ((∀ st, a.body = .strike st none → st.key ≠ k) → giveRelease k time a = a)) ∧
  ∀ (s : State) (tag : Byte) (p : List Byte) (note : Nat) (target : PT), AtFrame s →
    inPerformance s = true → noteOffFields? p = some (note, target) →
    let e : State := { s with link := { s.link with badCount := 0 } }
    let key : Int := (note : Int) + s.tables.config.transpose
    let taken := fun (e' : State) =>
      intakeNoteOff note target e = e' ∧ exec (.noteOff tag p) s = .next (railService (dueNow e')) ∧
        (NoneDue e' → AfterService e' (railService (dueNow e')))
    (∀ k : Key, key = k.val + 1 → s.tables.config.replayEnable = true → (s.tables.keyMap[k]).channel ≠ 0 →
      ((s.tables.keyMap[k]).role = .replay ∨ (s.tables.keyMap[k]).role = .both) → (s.queue.intake[k]).isOpen = true →
      let raised := match (s.queue.intake[k]).last with
        | none => target
        | some last => if earlier target last then last else target
      let time := if earlier raised s.clock.pt then s.clock.pt else raised
      taken
        (wake
          { e with
            queue :=
              { s.queue with
                actions :=
                  insertAction s.clock.pt ⟨time, s.queue.nextOrder, .release k (s.tables.keyMap[k]).channel false⟩
                    (s.queue.actions.map (giveRelease k time))
                intake := s.queue.intake.set k.val ⟨false, (s.queue.intake[k]).last⟩ k.isLt
                nextOrder := s.queue.nextOrder + 1 } })) ∧
    (key < 1 ∨ 88 < key ∨
        (∃ k : Key, key = k.val + 1 ∧
          (s.tables.config.replayEnable = false ∨ (s.tables.keyMap[k]).channel = 0 ∨
            (s.tables.keyMap[k]).role = .capture ∨ (s.tables.keyMap[k]).role = .muted ∨
            (s.queue.intake[k]).isOpen = false)) →
      taken e)

/-- A Pedal Target (R71, R58, R45): with room its action is queued P before its target, at now when that is past, its
position held to 0..1023; without room it is dropped and sets QueueFull; with replay off it is not queued. The payload
is the pedal, the target and the position, most significant byte first (R56). In Running what is due is then handed over
at once, a past action with it (R75; `DueActionsAreHandedOver`; log entry 4). -/
def Obligations.PedalTargetsAreQueued : Prop :=
  (∀ (p : Pedal) (pedal t3 t2 t1 t0 x1 x0 : Byte), pedal.toNat = p.val + 1 →
    pedalTargetFields? [pedal, t3, t2, t1, t0, x1, x0] =
      some ⟨p, t3 ++ t2 ++ t1 ++ t0, x1.toNat * 256 + x0.toNat⟩) ∧
  ∀ (s : State) (tag : Byte) (p : List Byte) (f : PedalTargetFields), AtFrame s →
    inPerformance s = true → pedalTargetFields? p = some f → QueueBounded s →
    let e : State := { s with link := { s.link with badCount := 0 } }
    let time := placed s.clock.pt f.target (ptUnits (s.tables.pedal[f.pedal]).lead)
    let queued : State :=
      wake
        { e with
          queue :=
            { s.queue with
              actions :=
                insertAction s.clock.pt ⟨time, s.queue.nextOrder, .pedal f.pedal (min f.position 1023)⟩ s.queue.actions
              nextOrder := s.queue.nextOrder + 1 } }
    let taken := fun (e' : State) =>
      intakePedal f e = e' ∧ exec (.pedalTarget tag p) s = .next (railService (dueNow e')) ∧
        (NoneDue e' → AfterService e' (railService (dueNow e')))
    (s.tables.config.replayEnable = true → s.queue.actions.length + openKeys s.queue < 512 → taken queued) ∧
    (s.tables.config.replayEnable = true → s.queue.actions.length + openKeys s.queue = 512 →
      taken { e with sticky := { s.sticky with queueFull := true } }) ∧
    (s.tables.config.replayEnable = false → taken e)

/-! ## Control requests (01, 10) -/

/-- A request of a wrong Length is answered Invalid and has no other effect (R5, R33, R36, R158, R180). That a Clock
Latch answered Invalid carries PT 0, and a Stop answered Invalid the last flush count, is read from R180 by inference
(log entry 8). A frame of unknown Kind is answered Unknown with its Kind and Tag and has no other effect (R178). Any
request, and any frame of unknown Kind, met at a frame in Locked while 16 or more Responses are pending has no effect
but that of a good frame on the count of bad ones (R179; log entry 7). The refusals by part state change nothing but the
pending Responses (R6, R7, R8, R9, R16, R18). -/
def Obligations.RequestsNotTaken : Prop :=
  (∀ (s : State) (tag : Byte) (p : List Byte), RequestTaken s →
    (p.length ≠ 8 → exec (.configure tag p) s = .next (answered ⟨0x10, tag, .invalid, .plain⟩ s)) ∧
    (p ≠ [] →
      exec (.start tag p) s = .next (answered ⟨0x11, tag, .invalid, .plain⟩ s) ∧
      exec (.hold tag p) s = .next (answered ⟨0x12, tag, .invalid, .plain⟩ s) ∧
      exec (.resume tag p) s = .next (answered ⟨0x13, tag, .invalid, .plain⟩ s) ∧
      exec (.stop tag p) s = .next (answered ⟨0x14, tag, .invalid, .flush s.queue.lastFlush⟩ s) ∧
      exec (.restart tag p) s = .next (answered ⟨0x15, tag, .invalid, .plain⟩ s) ∧
      exec (.clearErrors tag p) s = .next (answered ⟨0x16, tag, .invalid, .plain⟩ s) ∧
      exec (.clockLatch tag p) s = .next (answered ⟨0x18, tag, .invalid, .clock 0⟩ s)) ∧
    (p.length ≠ 4 → exec (.clockSet tag p) s = .next (answered ⟨0x17, tag, .invalid, .plain⟩ s)) ∧
    (p.length ≠ 3 → exec (.tableRead tag p) s = .next (answered ⟨0x21, tag, .invalid, .read 0 0⟩ s)) ∧
    (p.length ≠ 2 → exec (.calibrateQuick tag p) s = .next (answered ⟨0x22, tag, .invalid, .plain⟩ s)) ∧
    (p.length ≠ 7 → exec (.calibrateSweep tag p) s = .next (answered ⟨0x23, tag, .invalid, .plain⟩ s))) ∧
  (∀ (s : State) (tag kind : Byte) (p : List Byte), AtFrame s →
    (s.link.responses.length < 16 →
      exec (.unknown kind tag p) s = .next (answered ⟨kind, tag, .unknown, .plain⟩ s)) ∧
    (16 ≤ s.link.responses.length →
      ∀ c ∈ requestFrames tag kind p, exec c s = .next { s with link := { s.link with badCount := 0 } })) ∧
  ∀ (s : State) (tag : Byte) (p4 p8 : List Byte), RequestTaken s → p4.length = 4 → p8.length = 8 →
    let reply := fun (kind : Byte) (code : RespCode) => answered ⟨kind, tag, code, .plain⟩ s
    (s.clock.part = .unconfigured →
      exec (.start tag []) s = .next (reply 0x11 .notConfigured) ∧
      exec (.hold tag []) s = .next (reply 0x12 .notConfigured) ∧
      exec (.resume tag []) s = .next (reply 0x13 .notConfigured) ∧
      exec (.stop tag []) s = .next (answered ⟨0x14, tag, .notConfigured, .flush s.queue.lastFlush⟩ s) ∧
      exec (.clockSet tag p4) s = .next (reply 0x17 .notConfigured)) ∧
    (s.clock.part = .stopped →
      exec (.hold tag []) s = .next (reply 0x12 .busy) ∧ exec (.resume tag []) s = .next (reply 0x13 .busy)) ∧
    (inPerformance s = true ∨ s.clock.part = .faulted →
      exec (.configure tag p8) s = .next (reply 0x10 .busy) ∧ exec (.start tag []) s = .next (reply 0x11 .busy) ∧
      exec (.clockSet tag p4) s = .next (reply 0x17 .busy)) ∧
    (s.clock.part = .faulted →
      exec (.hold tag []) s = .next (reply 0x12 .busy) ∧ exec (.resume tag []) s = .next (reply 0x13 .busy)) ∧
    (s.clock.part = .held → exec (.hold tag []) s = .next (reply 0x12 .done)) ∧
    (s.clock.part = .running → exec (.resume tag []) s = .next (reply 0x13 .done))

/-- Configure in Unconfigured and Stopped replaces all seven fields, each brought into range, makes the part Stopped,
answers Done and changes nothing else, not even a run in flight (R6). Start in Stopped (R7): Busy with a calibration run
in flight; else RailFault with replay enabled and the rail Faulted or Off; else Done and Running, each pedal's baseline
its current position and its gap mark clear (R115), the key gap mark clear (R133), PT going on from its frozen value
with its first unit beginning now (R1). Nothing else changes. -/
def Obligations.ConfigureAndStartAreTaken : Prop :=
  (∀ (s : State) (tag ce re l1 l0 sd park trim tr : Byte), RequestTaken s →
    (s.clock.part = .unconfigured ∨ s.clock.part = .stopped) →
    exec (.configure tag [ce, re, l1, l0, sd, park, trim, tr]) s =
      .next (answered ⟨0x10, tag, .done, .plain⟩
        { s with
          clock := { s.clock with part := .stopped }
          tables :=
            { s.tables with
              config :=
                ⟨decide (ce ≠ 0), decide (re ≠ 0), min (l1.toNat * 256 + l0.toNat) 5000, sd.toNat, park.toNat,
                  decide (trim ≠ 0), max (-12) (min tr.toInt 12)⟩ } })) ∧
  ∀ (s : State) (tag : Byte), RequestTaken s → s.clock.part = .stopped →
    exec (.start tag []) s =
      .next (if s.run.isSome then answered ⟨0x11, tag, .busy, .plain⟩ s
        else if s.tables.config.replayEnable = true ∧ (s.rail.state = .faulted ∨ s.rail.state = .off) then
          answered ⟨0x11, tag, .railFault, .plain⟩ s
        else
          answered ⟨0x11, tag, .done, .plain⟩
            { s with
              clock := { s.clock with part := .running, unitStart := s.localTime }
              pedals := s.pedals.map fun c => ⟨c.current, c.current, false⟩
              keyGap := false })

/-- Hold in Running makes the part Held with PT as it is, answers Done, and clears trim eligibility in every drive
context; nothing else changes (R8, R97). Resume in Held makes it Running with PT as it is, its first unit beginning now,
answers Done, and hands over what is due at the frozen PT: nothing is due after it (R18, R77; the hand-over is
`DueActionsAreHandedOver`'s); with nothing due, only the rail's taking of commands follows. That the rail takes commands
only after all the hand-overs is the model's choice (log entry 4). -/
def Obligations.HoldAndResumeAreTaken : Prop :=
  ∀ (s : State) (tag : Byte), RequestTaken s →
    (s.clock.part = .running →
      exec (.hold tag []) s =
        .next (answered ⟨0x12, tag, .done, .plain⟩
          { s with
            clock := { s.clock with part := .held }
            drive := s.drive.map fun d => { d with trimEligible := false } })) ∧
    (s.clock.part = .held →
      let e := answered ⟨0x13, tag, .done, .plain⟩
        { s with clock := { s.clock with part := .running, unitStart := s.localTime } }
      let t := railService (dueNow e)
      exec (.resume tag []) s = .next t ∧ NoneDue t ∧ SameBase e t ∧ t.clock = e.clock ∧
        (NoneDue e → AfterService e t))

/-- The transition of R10, by a Stop taken in Running or Held (cause Request, answered Done with the count of its own
flush, R9) and by the expiry of the link-loss timer (cause LinkLoss, R11): the whole state up to the rail's taking of
commands (R143). PT stands, the queue is flushed and its strikes counted, no key is open, the last taken targets stay
(R82); every driven context acts by its state, trim eligibility clear (R97, R101). The waiting list keeps its order,
less the drive requests of the contexts that are not Idle (a Release left from before the strike a context now drives
goes too: log entry 14); Release All is requested, or merged with one that waits, and behind it the PedalSets (R110,
R142), which wake a Parked rail (R150). On a Faulted rail a Stop's Release All is the recovery, the in-flight list
cleared (R157); the link loss begins no recovery and requests an ordinary one (log entry 16). Every Waiting Push is
reported Missed (R101), behind the NotMeasured reports of marked pushes cut short (R96; log entries 12, 18), a context
that waits for a Restart's Release All reporting nothing (log entry 13); every pedal's commanded position is 0, PedalSet
requested on an available channel (R110); each announced key gets its Note-Off with cause Stop in ascending order
(R137). Nothing else changes. LINK_LOSS_STOP before its time, with the timer stopped or outside Running and Held does
nothing (R11; log entries 1, 9). -/
def Obligations.StopFromPerformance : Prop :=
  (∀ s : State,
    inPerformance s = false ∨ s.clock.linkLoss = none ∨ (∃ d, s.clock.linkLoss = some d ∧ s.localTime < d) →
      exec .linkLossStop s = .next s) ∧
  ∀ (s : State) (tag : Byte), inPerformance s = true →
    let now := s.localTime
    let gapOut := fun (p : Pedal) =>
      (s.replay[p]).lastSent.all fun us => decide (us + (s.tables.pedal[p]).rateGap * 1000 ≤ s.localTime)
    let marked := fun (d : DriveContext) => d.measuring && d.notMeasured
    let stays := s.rail.waiting.filter fun r =>
      match r.cmd with
      | .push k _ _ => decide ((s.drive[k]).state = .idle)
      | .hold k _ _ => decide ((s.drive[k]).state = .idle)
      | .release k _ => decide ((s.drive[k]).state = .idle)
      | _ => true
    let sets := ((List.finRange 3).filter fun p =>
      decide ((s.replay[p]).state ≠ .requested) && pedalAvailable s.rail p).map fun p => Request.mk (.pedalSet p) now
    let stopped := fun (e : State) (cause : StopCause) (recovers : Bool) =>
      let recovery := recovers = true ∧ s.rail.state = .faulted
      let cleared :=
        if recovery then
          { s.rail with inFlight := [], window := none, tx := s.rail.tx.map fun x => { x with live := false } }
        else s.rail
      let released :=
        if (stays.any fun r => isReleaseAll r.cmd) = true then
          stays.map fun r =>
            match r.cmd with
            | .releaseAll recovers restart => { r with cmd := .releaseAll (recovers || decide recovery) restart }
            | _ => r
        else stays ++ [⟨.releaseAll (decide recovery) false, now⟩]
      let cut := (List.finRange 88).filterMap fun k =>
        match (s.drive[k]).state, marked s.drive[k], (s.drive[k]).job with
        | .pushing, true, some (.strike st) =>
          some (driveReport st ((s.drive[k]).issue.getD 0) st.level 0 0 { strikeFlags st with notMeasured := true })
        | _, _, _ => none
      let missed := (List.finRange 88).filterMap fun k =>
        match (s.drive[k]).state, (s.drive[k]).stage, (s.drive[k]).restarting, (s.drive[k]).job with
        | .pushing, .waiting, false, some (.strike st) =>
          some (driveReport st 0 0 0 0 { strikeFlags st with missed := true })
        | _, _, _, _ => none
      let reporting := addReports (cut ++ missed) s
      e.queue.actions = [] ∧ e.queue.lastFlush = (s.queue.actions.filter isStrike).length ∧
      e.queue.nextOrder = s.queue.nextOrder ∧
      (∀ k : Key, e.queue.intake[k] = ⟨false, (s.queue.intake[k]).last⟩) ∧
      (∀ k : Key, e.drive[k] =
        match (s.drive[k]).state with
        | .idle => s.drive[k]
        | .pushing =>
          { s.drive[k] with
            state := .releasing, rearmed := false, pushTimer := none, trimEligible := false
            measuring := (s.drive[k]).measuring && !(s.drive[k]).notMeasured
            gateTimer := if marked s.drive[k] = true then none else (s.drive[k]).gateTimer }
        | .holding => { s.drive[k] with state := .releasing, rearmed := false, trimEligible := false }
        | .releasing => { s.drive[k] with trimEligible := false }) ∧
      (∀ p : Pedal, e.replay[p] =
        if (s.replay[p]).state = .requested then { s.replay[p] with commanded := 0 }
        else if pedalAvailable s.rail p = true then ⟨.requested, 0, none, (s.replay[p]).lastSent⟩
        else ⟨if gapOut p = true then .ready else .spacing, 0, none, (s.replay[p]).lastSent⟩) ∧
      (∀ k : Key, e.capture[k] = { s.capture[k] with announced := false }) ∧
      e =
        { s with
          clock := { s.clock with part := .stopped, cause := cause, linkLoss := none }
          queue := e.queue
          drive := e.drive
          replay := e.replay
          capture := e.capture
          captureFifo := s.captureFifo ++
            (((List.finRange 88).filter fun k => (s.capture[k]).announced).map fun k => .noteOff k s.clock.pt .stop)
          reports := reporting.reports
          sticky := reporting.sticky
          link := e.link
          rail :=
            { cleared with
              state := if s.rail.state = .parked ∧ sets ≠ [] then .waking else s.rail.state
              waiting :=
                released ++
                  match s.rail.state, sets with
                  | .parked, p :: ps => p :: ⟨.unpark, now⟩ :: ps
                  | _, _ => sets } }
    (RequestTaken s →
      ∃ e, stopped e .request true ∧ e.link = { s.link with badCount := 0 } ∧
        exec (.stop tag []) s =
          .next (respond ⟨0x14, tag, .done, .flush (s.queue.actions.filter isStrike).length⟩ (railService e))) ∧
    (∀ d, s.clock.linkLoss = some d → d ≤ s.localTime →
      ∃ e, stopped e .linkLoss false ∧ e.link = s.link ∧ exec .linkLossStop s = .next (railService e))

/-- A Stop taken in Stopped aborts a run in flight, whose Aborted result then stands last in the Report FIFO (R9, R167;
`abortRun` of `ProbesAreCarriedOut`; kind byte: log entry 29), makes the stop cause Request, and on a Faulted rail
requests the recovery Release All, the in-flight list cleared (R157). One taken in Faulted (R13, R103, R110): every
context that is not Idle becomes Releasing, re-armed and trim eligibility clear, its push timer stopped, its release
sent kept; the strike of every Waiting Push is reported Missed, behind the NotMeasured reports of marked pushes cut
short (R96; log entries 12, 18), a context that waits for a Restart's Release All reporting nothing (log entry 13);
nothing that waits is withdrawn; Release All is requested, or merged with one that waits (R142), as the recovery on a
Faulted rail, whose in-flight list is cleared; every pedal's commanded position is 0, a PedalSet requested on an
available channel, which wakes a Parked rail (R150). Either is answered Done with the last flush count as stored. -/
def Obligations.StopOutsidePerformance : Prop :=
  ∀ (s : State) (tag : Byte), RequestTaken s → (s.clock.part = .stopped ∨ s.clock.part = .faulted) →
    let now := s.localTime
    let gapOut := fun (p : Pedal) =>
      (s.replay[p]).lastSent.all fun us => decide (us + (s.tables.pedal[p]).rateGap * 1000 ≤ s.localTime)
    let clock : Clock := { s.clock with part := .stopped, cause := .request, linkLoss := none }
    let recovers := s.rail.state = .faulted
    let released := fun (waiting : List Request) =>
      if (waiting.any fun r => isReleaseAll r.cmd) = true then
        waiting.map fun r =>
          match r.cmd with
          | .releaseAll recovery restart => { r with cmd := .releaseAll (recovery || decide recovers) restart }
          | _ => r
      else waiting ++ [⟨.releaseAll (decide recovers) false, now⟩]
    let cleared := fun (r : Rail) =>
      if recovers then
        { r with inFlight := [], window := none, tx := r.tx.map fun x => { x with live := false } }
      else r
    ∃ e t, exec (.stop tag []) s = .next t ∧
      t = respond ⟨0x14, tag, .done, .flush s.queue.lastFlush⟩ (railService e) ∧ AfterService e (railService e) ∧
      t.clock = clock ∧ t.queue = s.queue ∧ t.tables = s.tables ∧ t.sensor = s.sensor ∧ t.tableRead = s.tableRead ∧
      t.link = { s.link with
        badCount := 0
        responses := s.link.responses ++ [⟨0x14, tag, .done, .flush s.queue.lastFlush⟩] } ∧
      (s.rail.state = .faulted →
        (∃ r ∈ t.rail.waiting, ∃ restart, r.cmd = .releaseAll true restart) ∨
          ∃ f ∈ t.rail.inFlight, ∃ restart, f.cmd = .releaseAll true restart) ∧
      (s.clock.part = .stopped →
        let a := abortRun { s with link := { s.link with badCount := 0 } }
        t.run = none ∧
        e = { a with
          clock := clock
          rail := if recovers then { cleared a.rail with waiting := released a.rail.waiting } else a.rail } ∧
        (s.run = none → e.reports = s.reports ∧ e.drive = s.drive) ∧
        ∀ c, s.run = some c →
          e.reports.getLast? =
            some (.calibration { note := c.current.val + 1, kind := c.kind, aborted := true })) ∧
      (s.clock.part = .faulted →
        let marked := fun (d : DriveContext) => d.measuring && d.notMeasured
        let cut := (List.finRange 88).filterMap fun k =>
          match (s.drive[k]).state, marked s.drive[k], (s.drive[k]).job with
          | .pushing, true, some (.strike st) =>
            some (driveReport st ((s.drive[k]).issue.getD 0) st.level 0 0 { strikeFlags st with notMeasured := true })
          | _, _, _ => none
        let missed := (List.finRange 88).filterMap fun k =>
          match (s.drive[k]).state, (s.drive[k]).stage, (s.drive[k]).restarting, (s.drive[k]).job with
          | .pushing, .waiting, false, some (.strike st) =>
            some (driveReport st 0 0 0 0 { strikeFlags st with missed := true })
          | _, _, _, _ => none
        let reporting := addReports (cut ++ missed) s
        let asked := (List.finRange 3).filter fun p =>
          decide ((s.replay[p]).state ≠ .requested) && pedalAvailable s.rail p
        let sets := asked.map fun p => Request.mk (.pedalSet p) now
        (∀ p : Pedal, (t.replay[p]).commanded = 0) ∧
        (∀ k : Key, e.drive[k] =
          match (s.drive[k]).state with
          | .idle => s.drive[k]
          | .pushing =>
            { s.drive[k] with
              state := .releasing, rearmed := false, pushTimer := none, trimEligible := false
              measuring := (s.drive[k]).measuring && !(s.drive[k]).notMeasured
              gateTimer := if marked s.drive[k] = true then none else (s.drive[k]).gateTimer }
          | .holding =>
            { s.drive[k] with state := .releasing, rearmed := false, pushTimer := none, trimEligible := false }
          | .releasing =>
            { s.drive[k] with state := .releasing, rearmed := false, pushTimer := none, trimEligible := false }) ∧
        (s.run = none →
          ∀ k : Key, ((t.drive[k]).state = .idle ∨ (t.drive[k]).state = .releasing) ∧
            ((s.drive[k]).state = .idle → (t.drive[k]).state = .idle)) ∧
        (∀ p : Pedal, e.replay[p] =
          if (s.replay[p]).state = .requested then { s.replay[p] with commanded := 0 }
          else if pedalAvailable s.rail p = true then ⟨.requested, 0, none, (s.replay[p]).lastSent⟩
          else
            ⟨if gapOut p = true then .ready else .spacing, 0, none, (s.replay[p]).lastSent⟩) ∧
        e =
          { s with
            clock := clock
            link := { s.link with badCount := 0 }
            drive := e.drive
            replay := e.replay
            reports := reporting.reports
            sticky := reporting.sticky
            rail :=
              { cleared s.rail with
                state := if s.rail.state = .parked ∧ sets ≠ [] then .waking else s.rail.state
                waiting :=
                  released s.rail.waiting ++
                    match s.rail.state, sets with
                    | .parked, p :: ps => p :: ⟨.unpark, now⟩ :: ps
                    | _, _ => sets } })

/-- Restart, from any state (R14, R39, R63, R73, R83, R100, R113, R139, R155, R168, R186): the whole state up to the
rail's taking of commands (R143). Every context that is not Idle stops its push and gate timers, closes its measurement
without a report, withdraws its waiting Push, Hold and Release (one left from before too: log entry 14), and waits for
the Release All; a context that is Idle stays, and what waits at the rail for its key with it (R103, R157). What the
Release All does at its sending stands in `RailCommandsAreSent`. The waiting list keeps its order, less those withdrawn;
Release All is requested as a Restart's, or merged with one that waits, which is then a Restart's, as the recovery on a
Faulted rail, whose in-flight list is cleared (R142, R156, R157). Every pedal comes to rest, its PedalSet on an
available channel behind the Release All (R110), which wakes a Parked rail, the model's reading of R157's 'keeps the
rail state' (R150; log entry 30). The rail state otherwise, the in-flight list, the mask, the power flag, the sequence
counter and the park timer stay; the pass-through queue and the reply buffer are emptied. The intake order restarts at 0
by the model's choice (log entry 25). Done stands behind the Responses pending. -/
def Obligations.RestartIsTaken : Prop :=
  ∀ (s : State) (tag : Byte), RequestTaken s →
    let now := s.localTime
    let gapOut := fun (p : Pedal) =>
      (s.replay[p]).lastSent.all fun us => decide (us + (s.tables.pedal[p]).rateGap * 1000 ≤ s.localTime)
    let recovery := s.rail.state = .faulted
    let stays := s.rail.waiting.filter fun r =>
      match r.cmd with
      | .push k _ _ => decide ((s.drive[k]).state = .idle)
      | .hold k _ _ => decide ((s.drive[k]).state = .idle)
      | .release k _ => decide ((s.drive[k]).state = .idle)
      | _ => true
    let sets := ((List.finRange 3).filter fun p =>
      decide ((s.replay[p]).state ≠ .requested) && pedalAvailable s.rail p).map fun p => Request.mk (.pedalSet p) now
    let cleared :=
      if recovery then
        { s.rail with inFlight := [], window := none, tx := s.rail.tx.map fun x => { x with live := false } }
      else s.rail
    let released :=
      if (stays.any fun r => isReleaseAll r.cmd) = true then
        stays.map fun r =>
          match r.cmd with
          | .releaseAll recovers _ => { r with cmd := .releaseAll (recovers || decide recovery) true }
          | _ => r
      else stays ++ [⟨.releaseAll (decide recovery) true, now⟩]
    ∃ e, exec (.restart tag []) s = .next (respond ⟨0x15, tag, .done, .plain⟩ (railService e)) ∧
      (∀ k : Key, e.capture[k] = CaptureContext.clear) ∧
      (∀ p : Pedal, e.pedals[p] = ⟨(s.pedals[p]).current, 0, false⟩ ∧
        e.replay[p] =
          if (s.replay[p]).state = .requested then { s.replay[p] with commanded := 0 }
          else if pedalAvailable s.rail p = true then ⟨.requested, 0, none, (s.replay[p]).lastSent⟩
          else ⟨if gapOut p = true then .ready else .spacing, 0, none, (s.replay[p]).lastSent⟩) ∧
      (∀ k : Key, e.drive[k] =
        if (s.drive[k]).state = .idle then s.drive[k]
        else
          { s.drive[k] with
            trimEligible := false, pushTimer := none, gateTimer := none, measuring := false, restarting := true }) ∧
      e =
        { s with
          clock := { s.clock with pt := 0, part := .unconfigured, cause := .none, linkLoss := none }
          tables := { s.tables with config := ⟨false, false, 2000, 30, 24, false, 0⟩ }
          tableRead := none
          queue := ⟨[], Vector.replicate 88 ⟨false, none⟩, 0, (s.queue.actions.filter isStrike).length⟩
          drive := e.drive
          reports := []
          replay := e.replay
          pedals := e.pedals
          capture := e.capture
          captureFifo := []
          keyGap := false
          rail :=
            { cleared with
              state := if s.rail.state = .parked ∧ sets ≠ [] then .waking else s.rail.state
              waiting :=
                released ++
                  match s.rail.state, sets with
                  | .parked, p :: ps => p :: ⟨.unpark, now⟩ :: ps
                  | _, _ => sets
              passQueue := []
              replies := [] }
          run := none
          link := { s.link with badCount := 0, tx := s.link.tx.map fun x => { x with advances := false } }
          sticky := {} }

/-- Clear Errors clears every sticky flag, answers Done in every part state, and changes nothing else (R15). -/
def Obligations.ClearErrorsIsTaken : Prop :=
  ∀ (s : State) (tag : Byte), RequestTaken s →
    exec (.clearErrors tag []) s =
      .next (answered ⟨0x16, tag, .done, .plain⟩
        { s with
          sticky :=
            { crcError := false, framingError := false, eventsDiscarded := false, queueFull := false
              captureOverrun := false, reportsLost := false, sensorLoss := false, railFault := false
              passThroughLost := false } })

/-- Clock Set in Stopped replaces PT by the carried value and answers Done; in Unconfigured it is answered
NotConfigured, in Running, Held and Faulted Busy, with PT unchanged; nothing else changes (R16). Clock Latch answers
Done in every part state, carrying PT at the moment it is taken, and changes nothing else (R17). -/
def Obligations.ClockIsSetAndLatched : Prop :=
  (∀ (s : State) (tag b3 b2 b1 b0 : Byte), RequestTaken s →
    exec (.clockSet tag [b3, b2, b1, b0]) s =
      .next (match s.clock.part with
        | .unconfigured => answered ⟨0x17, tag, .notConfigured, .plain⟩ s
        | .stopped =>
          answered ⟨0x17, tag, .done, .plain⟩ { s with clock := { s.clock with pt := b3 ++ b2 ++ b1 ++ b0 } }
        | .running => answered ⟨0x17, tag, .busy, .plain⟩ s
        | .held => answered ⟨0x17, tag, .busy, .plain⟩ s
        | .faulted => answered ⟨0x17, tag, .busy, .plain⟩ s)) ∧
  ∀ (s : State) (tag : Byte), RequestTaken s →
    exec (.clockLatch tag []) s = .next (answered ⟨0x18, tag, .done, .clock s.clock.pt⟩ s)

/-! ## Tables (02) -/

/-- Table Write (R33, R34, R24, R28, R29, R30): the frame checked as a whole, then its records applied in index order
until the first that cannot be, each against the state the one before it left, the Response carrying code, failing index
and count not applied; what one calibration record, one Key Map entry and one Pedal Table record come to. A Pedal Table
record with a rate gap that the time elapsed already reaches ends the gap at the write: Spacing becomes Ready, Waiting
issues its waiting position (R108), whose PedalSet waits at the rail beyond the command by the model's choice (log entry
4). The fields of a record, each multi-byte one most significant byte first, the signed ones in two's complement, and
their checks (R20, R28, R30). -/
def Obligations.TableWritesAreTaken : Prop :=
  (∀ (s : State) (tag : Byte) (p : List Byte), RequestTaken s → p.length < 3 →
    exec (.tableWrite tag p) s = .next (answered ⟨0x20, tag, .invalid, .write 0 0⟩ s)) ∧
  (∀ (s : State) (tag table first n : Byte) (records : List Byte), RequestTaken s →
    let e : State := { s with link := { s.link with badCount := 0 } }
    let size := match table.toNat with
      | 1 => 114
      | 2 => 2
      | _ => 36
    let limit := match table.toNat with
      | 1 => 1
      | 2 => 30
      | _ => 3
    let refused := table.toNat = 0 ∨ 3 < table.toNat ∨ n.toNat = 0 ∨ limit < n.toNat ∨
      records.length ≠ n.toNat * size
    let busy := table.toNat = 2 ∧ (inPerformance s = true ∨ s.clock.part = .faulted)
    let frame := Instr.tableWrite tag (table :: first :: n :: records)
    (refused → exec frame s = .next (answered ⟨0x20, tag, .invalid, .write first.toNat n.toNat⟩ s)) ∧
    (¬refused → busy → exec frame s = .next (answered ⟨0x20, tag, .busy, .write first.toNat n.toNat⟩ s)) ∧
    (¬refused → ¬busy → ∃ m s' code, m ≤ n.toNat ∧
      writeRecords table.toNat size m first.toNat records e = (.done, 0, 0, s') ∧
      (m = n.toNat ∧ code = .done ∨
        m < n.toNat ∧
          writeRecord table.toNat (first.toNat + m) ((records.drop (m * size)).take size) s' = .stopped code) ∧
      exec frame s =
        .next (respond ⟨0x20, tag, code, .write (if m = n.toNat then 0 else first.toNat + m) (n.toNat - m)⟩ s'))) ∧
  (∀ (table size n i : Nat) (records : List Byte) (s : State),
    writeRecords table size 0 i records s = (.done, 0, 0, s) ∧
    (∀ s', writeRecord table i (records.take size) s = .applied s' →
      writeRecords table size (n + 1) i records s = writeRecords table size n (i + 1) (records.drop size) s') ∧
    ∀ code, writeRecord table i (records.take size) s = .stopped code →
      writeRecords table size (n + 1) i records s = (code, i, n + 1, s)) ∧
  (∀ (s : State) (i : Nat) (record : List Byte),
    (i = 0 ∨ 88 < i → writeRecord 1 i record s = .stopped .outOfRange) ∧
    ∀ k : Key, i = k.val + 1 →
      ((∃ c, s.run = some c ∧ c.current = k) → writeRecord 1 i record s = .stopped .busy) ∧
      ((∀ c, s.run = some c → c.current ≠ k) →
        (calOf? record = none → writeRecord 1 i record s = .stopped .invalid) ∧
        ∀ r, calOf? record = some r →
          writeRecord 1 i record s =
            .applied { s with tables := { s.tables with cal := s.tables.cal.set k.val r k.isLt } })) ∧
  (∀ (s : State) (i : Nat) (record : List Byte), i = 0 ∨ 88 < i → writeRecord 2 i record s = .stopped .outOfRange) ∧
  (∀ (s : State) (k : Key) (channel role : Byte),
    let old := s.tables.keyMap[k]
    let r : Role := match role.toNat with
      | 0 => .replay
      | 1 => .capture
      | 2 => .both
      | _ => .muted
    let valid := channel.toNat ≤ 88 ∧ role.toNat ≤ 3 ∧
      (channel.toNat = 0 ∨ ∀ j : Key, j ≠ k → (s.tables.keyMap[j]).channel ≠ channel.toNat)
    (¬valid → writeRecord 2 (k.val + 1) [channel, role] s = .stopped .invalid) ∧
    (valid →
      writeRecord 2 (k.val + 1) [channel, role] s =
        .applied
          { s with
            tables := { s.tables with keyMap := s.tables.keyMap.set k.val ⟨channel.toNat, r⟩ k.isLt }
            capture :=
              if (old.role = .capture ∨ old.role = .both) ∧ (r = .replay ∨ r = .muted) then
                s.capture.set k.val CaptureContext.clear k.isLt
              else s.capture })) ∧
  (∀ record : List Byte,
    let at8 := fun i => (record.getD i 0).toNat
    let at16 := fun i => at8 i * 256 + at8 (i + 1)
    let signed := fun i => if at16 i < 32768 then (at16 i : Int) else at16 i - 65536
    let point := fun i => CurvePoint.mk (at16 i) (at16 (i + 2))
    let curve := fun i =>
      Curve.mk (point i) (point (i + 4)) (point (i + 8)) (point (i + 12)) (point (i + 16)) (point (i + 20))
        (point (i + 24)) (point (i + 28))
    let rising := fun (c : Curve) (low high : Nat) =>
      ((curvePoints c).map (·.x)).Pairwise (· < ·) ∧ ∀ q ∈ curvePoints c, low ≤ q.x ∧ q.x ≤ high
    let level := fun (c : Curve) =>
      ((curvePoints c).map (·.y)).Pairwise (· ≤ ·) ∧ ∀ q ∈ curvePoints c, q.y ≤ 1023
    let r : CalRecord :=
      { curveA := curve 0
        curveB := curve 32
        leadCurve := curve 64
        selected := if at8 96 = 0 then .a else .b
        levelOffset := signed 97
        ceiling := at16 99
        holdLevel := at16 101
        pushLimit := at8 103
        gateSpacing := at16 104
        refLevel := at16 106
        firmLimit := at16 108
        leadTrim := signed 110
        repGap := at16 112 }
    let valid := rising r.curveA 50 6000 ∧ level r.curveA ∧ rising r.curveB 50 6000 ∧ level r.curveB ∧
      rising r.leadCurve 50 6000 ∧ (∀ q ∈ curvePoints r.leadCurve, q.y ≤ 65535) ∧ at8 96 ≤ 1 ∧
      -255 ≤ r.levelOffset ∧ r.levelOffset ≤ 255 ∧ r.ceiling ≤ 1023 ∧ r.holdLevel ≤ 1023 ∧
      5 ≤ r.pushLimit ∧ r.pushLimit ≤ 80 ∧ 1000 ≤ r.gateSpacing ∧ r.gateSpacing ≤ 6000 ∧ r.refLevel ≤ 1023 ∧
      50 ≤ r.firmLimit ∧ r.firmLimit ≤ 6000 ∧ -2000 ≤ r.leadTrim ∧ r.leadTrim ≤ 2000 ∧
      2000 ≤ r.repGap ∧ r.repGap ≤ 30000
    let pedal : PedalRecord := ⟨curve 0, at16 32, at8 34, at8 35⟩
    let pedalValid := rising pedal.curve 0 4095 ∧ level pedal.curve ∧ pedal.lead ≤ 60000 ∧
      1 ≤ pedal.deadband ∧ pedal.deadband ≤ 64 ∧ 1 ≤ pedal.rateGap ∧ pedal.rateGap ≤ 20
    (valid → calOf? record = some r) ∧ (¬valid → calOf? record = none) ∧
    (pedalValid → pedalRecordOf? record = some pedal) ∧ (¬pedalValid → pedalRecordOf? record = none)) ∧
  ∀ (s : State) (i : Nat) (record : List Byte),
    (i = 0 ∨ 3 < i → writeRecord 3 i record s = .stopped .outOfRange) ∧
    ∀ p : Pedal, i = p.val + 1 →
      (pedalRecordOf? record = none → writeRecord 3 i record s = .stopped .invalid) ∧
      ∀ r, pedalRecordOf? record = some r →
        let e : State := { s with tables := { s.tables with pedal := s.tables.pedal.set p.val r p.isLt } }
        let c := s.replay[p]
        let put := fun (c' : PedalReplay) => { e with replay := e.replay.set p.val c' p.isLt }
        let elapsed := ∀ us ∈ c.lastSent, us + r.rateGap * 1000 ≤ s.localTime
        (c.state = .spacing → elapsed → writeRecord 3 i record s = .applied (put { c with state := .ready })) ∧
        (∀ position, c.state = .waiting → c.waiting = some position → elapsed →
          writeRecord 3 i record s =
            .applied
              (if pedalAvailable s.rail p = true then
                requestRail (.pedalSet p) (put ⟨.requested, position, none, c.lastSent⟩)
              else put ⟨.ready, position, none, c.lastSent⟩)) ∧
        (c.state = .ready ∨ c.state = .requested ∨ ¬elapsed → writeRecord 3 i record s = .applied e)

/-- Table Read (R36): Busy with a read in flight, Invalid for a table outside 1..4, OutOfRange for a first index outside
the table, else accepted with no Response, the last index asked for being first + count − 1, or the table's last for a
count of 0. Nothing else changes. -/
def Obligations.TableReadsAreTaken : Prop :=
  ∀ (s : State) (tag table first count : Byte), RequestTaken s →
    let last := match table.toNat with
      | 1 => 88
      | 2 => 88
      | 3 => 3
      | _ => 1
    exec (.tableRead tag [table, first, count]) s =
      .next (if s.tableRead.isSome then answered ⟨0x21, tag, .busy, .read 0 0⟩ s
        else if table.toNat = 0 ∨ 4 < table.toNat then answered ⟨0x21, tag, .invalid, .read 0 0⟩ s
        else if first.toNat = 0 ∨ last < first.toNat then answered ⟨0x21, tag, .outOfRange, .read 0 count.toNat⟩ s
        else
          { s with
            link := { s.link with badCount := 0 }
            tableRead :=
              some ⟨tag, table.toNat, first.toNat,
                if count.toNat = 0 then last else first.toNat + count.toNat - 1⟩ })

/-! ## Calibration runs (09) -/

/-- The two calibration requests, each of the right Length, with the Kind and the fields each carries, byte by byte, a
Quick run with upper index 0 (R158, R159): refused in the order of R158, or answered Done, the rail woken (R159) and the
first note made current (`makeCurrent`, which a run repeats for each note in turn, R160). A note made current that is
skipped gets its NoChannel result (R166), and the next note is made current, or the run ends with the last. For any
other note the Sensor Link is judged: lost, the run is aborted with an Aborted result (R161, R167), whose kind byte is
the run's by the model's reading (log entry 29). Up, the level of probe 0 is computed and recorded (R52), and the probe
requested: an Idle context takes it at once, with its drive notice, Pushing, Push requested (R104, R124, R161); for
another it waits, request taken clear. -/
def Obligations.CalibrationsAreTaken : Prop :=
  (∀ first last base1 base0 step upper adjust : Byte,
    quickFields [first, last] = ⟨.quick, first.toNat, last.toNat, 0, 0, 0, 0⟩ ∧
    sweepFields [first, last, base1, base0, step, upper, adjust] =
      ⟨.sweep, first.toNat, last.toNat, base1.toNat * 256 + base0.toNat, step.toNat, upper.toNat, adjust.toInt⟩) ∧
  (∀ (s : State) (tag kind : Byte) (p : List Byte) (c : Instr) (f : CalFields), RequestTaken s →
    (c = .calibrateQuick tag p ∧ p.length = 2 ∧ kind = 0x22 ∧ f = quickFields p ∨
      c = .calibrateSweep tag p ∧ p.length = 7 ∧ kind = 0x23 ∧ f = sweepFields p) →
    let refusal : Option RespCode :=
      if s.clock.part = .unconfigured then some .notConfigured
      else if s.clock.part ≠ .stopped then some .busy
      else if s.run.isSome then some .busy
      else if s.rail.state = .faulted then some .railFault
      else if s.tables.config.replayEnable = false then some .notConfigured
      else if f.first = 0 ∨ 88 < f.last ∨ f.last < f.first ∨
          (f.kind = .sweep ∧
            (1023 < f.base ∨ f.step = 0 ∨ 64 < f.step ∨ 15 < f.upper ∨ f.adjust < -15 ∨ 15 < f.adjust)) then
        some .invalid
      else none
    (∀ code, refusal = some code →
      ∃ t, exec c s = .next t ∧ AfterService (answered ⟨kind, tag, code, .plain⟩ s) t) ∧
    (refusal = none → ∀ k last : Key, f.first = k.val + 1 → f.last = last.val + 1 →
      exec c s =
        .next (railService
          (makeCurrent 88 k ⟨f.kind, k, last, f.base, f.step, f.upper, f.adjust, k, 0, 0, .probing, [], false, none⟩
            (wake (answered ⟨kind, tag, .done, .plain⟩ s)))))) ∧
  ∀ (n : Nat) (k : Key) (c : CalContext) (s : State),
    let entry := s.tables.keyMap[k]
    let skipped := entry.channel = 0 ∨ entry.role = .capture ∨ entry.role = .muted ∨
      channelAvailable s.rail entry.channel = false
    let noChannel := addReport (.calibration { note := k.val + 1, kind := c.kind, noChannel := true }) s
    let r := s.tables.cal[k]
    let level := match c.kind with
      | .sweep => min (min c.base 1023) r.ceiling
      | .quick => min r.refLevel r.ceiling
    let context := fun taken =>
      { c with
        current := k, channel := entry.channel, index := 0, phase := .probing
        probes := [⟨level, false, 0, 0⟩], taken := taken, timer := none }
    (skipped → ∀ k' : Key, k'.val = k.val + 1 → k.val < c.last.val →
      makeCurrent (n + 1) k c s = makeCurrent n k' c noChannel) ∧
    (skipped → c.last.val ≤ k.val → makeCurrent (n + 1) k c s = { noChannel with run := none }) ∧
    (¬skipped → s.sensor.up = false →
      makeCurrent (n + 1) k c s =
        addReport (.calibration { note := k.val + 1, kind := c.kind, aborted := true }) { s with run := none }) ∧
    (¬skipped → s.sensor.up = true → (s.drive[k]).state = .idle →
      makeCurrent (n + 1) k c s =
        { requestRail (.push k entry.channel level)
            { s with
              drive :=
                s.drive.set k.val
                  { DriveContext.clear with state := .pushing, job := some (.probe entry.channel level) } k.isLt
              capture := s.capture.set k.val CaptureContext.clear k.isLt
              captureFifo :=
                if (s.capture[k]).announced = true then s.captureFifo ++ [.noteOff k s.clock.pt .drive]
                else s.captureFifo } with
          run := some (context true) }) ∧
    (¬skipped → s.sensor.up = true → (s.drive[k]).state ≠ .idle →
      makeCurrent (n + 1) k c s = { s with run := some (context false) })

/-- The timers of a run (R160, R161, R163, R164, R165). The rest wait ends in the settle. The settle of a probe below
the upper index begins the next probe, its level the base and a step for each index, or the reference level, cut to the
ceiling (R52), which an Idle context takes at once and another leaves waiting (R104); with the Sensor Link lost it
aborts the run (R167; kind byte of the result: log entry 29). The settle of the last probe ends the key with its result:
for a note before the last the next is made current (`makeCurrent` of `CalibrationsAreTaken`), for the last the run
ends. A Sweep with an onset writes the offset of R54, one without writes nothing and reports NoOnset, a Quick writes the
curve of R55. Neither timer acts in another phase or before its time (log entries 1, 9). -/
def Obligations.RunTimersExpire : Prop :=
  ∀ (s : State) (c : CalContext), s.run = some c →
    let due := ∃ d, c.timer = some d ∧ d ≤ s.localTime
    let k := c.current
    let r := s.tables.cal[k]
    let level := match c.kind with
      | .sweep => min (min (c.base + (c.index + 1) * c.step) 1023) r.ceiling
      | .quick => min r.refLevel r.ceiling
    (c.phase = .awaitingRest → due →
      exec .restWaitExpiry s =
        .next { s with run := some { c with phase := .settling, timer := some (s.localTime + 150000) } }) ∧
    (c.phase ≠ .awaitingRest ∨ ¬due → exec .restWaitExpiry s = .next s) ∧
    (c.phase ≠ .settling ∨ ¬due → exec .settleExpiry s = .next s) ∧
    (c.phase = .settling → due → c.index < c.upper → s.sensor.up = true → (s.drive[k]).state = .idle →
      let c' : CalContext :=
        { c with
          index := c.index + 1
          phase := .probing
          probes := c.probes ++ [⟨level, false, 0, 0⟩]
          taken := true
          timer := none }
      c.probes.length = c.index + 1 →
      ∃ t, exec .settleExpiry s = .next t ∧
        AfterService
          { requestRail (.push k c.channel level)
              { s with
                drive :=
                  s.drive.set k.val
                    { DriveContext.clear with state := .pushing, job := some (.probe c.channel level) } k.isLt
                capture := s.capture.set k.val CaptureContext.clear k.isLt
                captureFifo :=
                  if (s.capture[k]).announced = true then s.captureFifo ++ [.noteOff k s.clock.pt .drive]
                  else s.captureFifo } with
            run := some c' } t) ∧
    (c.phase = .settling → due → c.index < c.upper → s.sensor.up = true → (s.drive[k]).state ≠ .idle →
      ∃ t, exec .settleExpiry s = .next t ∧
        AfterService
          { s with
            run := some
              { c with
                index := c.index + 1
                phase := .probing
                probes := c.probes ++ [⟨level, false, 0, 0⟩]
                taken := false
                timer := none } } t) ∧
    (c.phase = .settling → due → c.index < c.upper → s.sensor.up = false →
      ∃ t, exec .settleExpiry s = .next t ∧
        AfterService
          (addReport (.calibration { note := k.val + 1, kind := c.kind, aborted := true }) { s with run := none }) t) ∧
    (c.phase = .settling → due → c.upper ≤ c.index → ∀ k' : Key, k'.val = k.val + 1 → k.val < c.last.val →
      exec .settleExpiry s = .next (railService (makeCurrent 88 k' c (keyResult c s)))) ∧
    (c.phase = .settling → due → c.upper ≤ c.index → c.current = c.last →
      ∃ t, exec .settleExpiry s = .next t ∧ AfterService { keyResult c s with run := none } t) ∧
    (c.kind = .sweep → onsetIndex c.probes = none →
      keyResult c s =
        addReport (.calibration { note := k.val + 1, kind := .sweep, noOnset := true, curve := r.selected }) s) ∧
    (∀ o, c.kind = .sweep → onsetIndex c.probes = some o →
      let a := adjustedIndex o c.adjust c.upper
      let offset := onsetOffset r c.probes a
      keyResult c s =
        addReport
          (.calibration
            { note := k.val + 1, kind := .sweep, onset := o, adjusted := a, offset := offset, curve := r.selected })
          { s with
            tables := { s.tables with cal := s.tables.cal.set k.val { r with levelOffset := offset } k.isLt } }) ∧
    ∀ p, c.kind = .quick → c.probes = [p] →
      keyResult c s =
        addReport
          (.calibration
            { note := k.val + 1, kind := .quick, noArrival := !p.arrived, curve := quickCurve p r.firmLimit
              speed := p.speed })
          { s with
            tables :=
              { s.tables with cal := s.tables.cal.set k.val { r with selected := quickCurve p r.firmLimit } k.isLt } }

/-- A calibration probe from its outcome to its end (R53, R104, R160, R161, R162, R163, R167). A probe's measurement
that closes, in phase Probing with request taken and for the current note, is recorded at its index with a Probe Report
and leads to AwaitingRest with its rest wait of 200 ms: arrived with speed and latency, the latency in local time less
ten times the sensor delay and not below 0, else with both 0. One marked NotMeasured, or met at any other moment, is
discarded. The key's context becoming Idle ends AwaitingRest in the settle of 150 ms, and takes a probe request that
waits, with its Push requested. An abort (by a Stop in Stopped, a sensor loss, a rail fault, or a probe begun under
sensor loss) withdraws a Waiting Push, the context Idle, requests the Release of a sent one, and does nothing to a key
that is not Pushing or whose request was not taken; then the Aborted result is written, its kind byte the run's (log
entry 29), and the context emptied. A marked measurement whose push the abort ends is closed and discarded (log entry
12). -/
def Obligations.ProbesAreCarriedOut : Prop :=
  (∀ (s : State) (k : Key) (channel level : Nat), (s.drive[k]).job = some (.probe channel level) →
    let d := s.drive[k]
    let e : State := { s with drive := s.drive.set k.val { d with measuring := false, gateTimer := none } k.isLt }
    (closeMeasurement k .notMeasured s = e) ∧
    ((∀ c, s.run = some c → c.phase ≠ .probing ∨ c.taken = false ∨ c.current ≠ k) →
      ∀ o, closeMeasurement k o s = e) ∧
    ∀ c p, s.run = some c → c.phase = .probing → c.taken = true → c.current = k → c.probes[c.index]? = some p →
      let recorded := fun (p' : ProbeRecord) =>
        addReport (.probe ⟨k.val + 1, c.index, p.level, p'.arrived, p'.speed, p'.latency⟩)
          { e with
            run := some
              { c with
                probes := c.probes.set c.index p', phase := .awaitingRest, timer := some (s.localTime + 200000) } }
      closeMeasurement k .noArrival s = recorded ⟨p.level, false, 0, 0⟩ ∧
      ∀ g1 g2 time sent, d.sentAt = some sent →
        closeMeasurement k (.arrived g1 g2 time) s =
          recorded
            ⟨p.level, true, hammerSpeed (s.tables.cal[k]).gateSpacing g1 g2,
              (max 0 ((s.localTime : Int) - sent - 10 * s.tables.config.sensorDelay)).toNat⟩) ∧
  (∀ (s : State) (c : CalContext), s.run = some c →
    let k := c.current
    let e : State :=
      { s with
        drive := s.drive.set k.val DriveContext.clear k.isLt
        capture := s.capture.set k.val CaptureContext.clear k.isLt }
    (c.phase = .awaitingRest →
      becomeIdle k s = { e with run := some { c with phase := .settling, timer := some (s.localTime + 150000) } }) ∧
    (c.phase = .settling ∨ c.phase = .probing ∧ c.taken = true → becomeIdle k s = e) ∧
    (∀ p, c.phase = .probing → c.taken = false → c.probes[c.index]? = some p →
      becomeIdle k s =
        { requestRail (.push k c.channel p.level)
            { e with
              drive :=
                s.drive.set k.val
                  { DriveContext.clear with state := .pushing, job := some (.probe c.channel p.level) } k.isLt } with
          run := some { c with taken := true } })) ∧
  (∀ (s : State) (k : Key), (∀ c, s.run = some c → c.current ≠ k) →
    becomeIdle k s =
      { s with
        drive := s.drive.set k.val DriveContext.clear k.isLt
        capture := s.capture.set k.val CaptureContext.clear k.isLt }) ∧
  (∀ s : State, s.run = none → abortRun s = s) ∧
  ∀ (s : State) (c : CalContext), s.run = some c →
    let k := c.current
    let d := s.drive[k]
    let put := fun (d' : DriveContext) => { s with drive := s.drive.set k.val d' k.isLt, run := none }
    let aborted := addReport (.calibration { note := k.val + 1, kind := c.kind, aborted := true })
    (c.phase ≠ .probing ∨ c.taken = false ∨ d.state ≠ .pushing → abortRun s = aborted { s with run := none }) ∧
    ∀ channel level, c.phase = .probing → c.taken = true → d.state = .pushing → d.job = some (.probe channel level) →
      (d.stage = .waiting →
        abortRun s =
          aborted
            { put DriveContext.clear with
              capture := s.capture.set k.val CaptureContext.clear k.isLt
              rail := { s.rail with waiting := s.rail.waiting.filter fun r => !isPushOf k r.cmd } }) ∧
      (d.stage = .sent →
        let released := { d with state := .releasing, rearmed := false, pushTimer := none }
        abortRun s =
          aborted (requestRail (.release k channel)
            (put (if d.measuring = true ∧ d.notMeasured = true then
                { released with measuring := false, gateTimer := none }
              else released))))

/-! ## The Performance Link (10) -/

/-- The envelope of a frame and its Check, a division by x^16 + x^12 + x^5 + 1 bit by bit, and what a receiver finds at
the byte where a frame must begin (R172), a missing Sync judged once two bytes are taken and a Length over 124 once the
Tag is, the model's choice (log entry 31). The command a good frame stands for by its Kind (R178). The receiver (R173 to
R177, R11). A frame met in Hunt or Verify, or behind bytes already taken in Locked, is not delivered: its bytes go to
the receiver, as do those of HUNT and VERIFY in every state and those of a bad frame met elsewhere than at a frame in
Locked (log entry 6). In Hunt a good candidate leads to Verify, a rejected one to scanning from the byte after its
first, one not yet whole is kept; bytes that begin no candidate are passed over. In Verify a good frame leads to Locked
with the count of bad frames 0 and the link-loss timer cancelled, any other back to Hunt, scanning from the byte after
its first; neither sets a flag. In Locked bytes stand until a frame is whole. A frame with a wrong Check, met at a frame
in Locked, sets CrcError and counts; the fourth in a row leads to Hunt, the count then 0 (log entry 11); one with no
Sync or a Length over 124 sets FramingError and leads to Hunt at once, scanning in both cases from the byte after its
first. Leaving Locked in Running and Held starts the link-loss timer of 250 ms. -/
def Obligations.ReceiverFollowsFrames : Prop :=
  let check := fun (bytes : List Byte) =>
    (bytes.flatMap fun b => (List.range 8).map b.getMsbD).foldl
      (fun (x : BitVec 16) bit => if x.msb = bit then x <<< 1 else (x <<< 1) ^^^ 0x1021#16) 0xFFFF#16
  (∀ (kind tag : Byte) (p : List Byte),
    let c := fun (kind : Byte) => performanceCommand ⟨kind, tag, p⟩
    c 0x01 = .noteOn tag p ∧ c 0x02 = .noteOff tag p ∧ c 0x03 = .pedalTarget tag p ∧ c 0x10 = .configure tag p ∧
    c 0x11 = .start tag p ∧ c 0x12 = .hold tag p ∧ c 0x13 = .resume tag p ∧ c 0x14 = .stop tag p ∧
    c 0x15 = .restart tag p ∧ c 0x16 = .clearErrors tag p ∧ c 0x17 = .clockSet tag p ∧ c 0x18 = .clockLatch tag p ∧
    c 0x20 = .tableWrite tag p ∧ c 0x21 = .tableRead tag p ∧ c 0x22 = .calibrateQuick tag p ∧
    c 0x23 = .calibrateSweep tag p ∧ c 0x30 = .railPassThrough tag p ∧
    (kind ∉ ([0x01, 0x02, 0x03, 0x10, 0x11, 0x12, 0x13, 0x14, 0x15, 0x16, 0x17, 0x18, 0x20, 0x21, 0x22, 0x23, 0x30] :
        List Byte) →
      c kind = .unknown kind tag p)) ∧
  (∀ (f : Frame) (rest : List Byte), f.payload.length ≤ 124 →
    let body := f.kind :: BitVec.ofNat 8 f.payload.length :: f.tag :: f.payload
    encodeFrame f =
        [0xA7, 0x3C] ++ body ++ [(check body).extractLsb' 8 8, (check body).extractLsb' 0 8] ∧
      judge (encodeFrame f ++ rest) = .good f rest) ∧
  (∀ (first second kind length tag high low : Byte) (payload rest : List Byte),
    judge [] = .needMore ∧ judge [first] = .needMore ∧
    (first ≠ 0xA7 ∨ second ≠ 0x3C → judge (first :: second :: rest) = .noSync) ∧
    (rest.length < 3 → judge (0xA7 :: 0x3C :: rest) = .needMore) ∧
    (124 < length.toNat → judge (0xA7 :: 0x3C :: kind :: length :: tag :: rest) = .overLength) ∧
    (length.toNat ≤ 124 →
      (rest.length < length.toNat + 2 → judge (0xA7 :: 0x3C :: kind :: length :: tag :: rest) = .needMore) ∧
      (payload.length = length.toNat →
        judge (0xA7 :: 0x3C :: kind :: length :: tag :: payload ++ high :: low :: rest) =
          if check (kind :: length :: tag :: payload) = high ++ low then .good ⟨kind, tag, payload⟩ rest
          else .badCheck rest))) ∧
  (∀ (s : State) (f : Frame) (bytes : List Byte), f.payload.length ≤ 124 →
    exec (.hunt bytes) s = .next (feed bytes s) ∧ exec (.verify bytes) s = .next (feed bytes s) ∧
    (¬AtFrame s → exec (performanceCommand f) s = .next (feed (encodeFrame f) s)) ∧
    (¬(AtFrame s ∧ judge bytes = .badCheck []) → exec (.crcError bytes) s = .next (feed bytes s)) ∧
    (¬(AtFrame s ∧ (judge bytes = .noSync ∨ judge bytes = .overLength)) →
      exec (.framingError bytes) s = .next (feed bytes s))) ∧
  (∀ (s : State) (bytes : List Byte),
    feed bytes s = feed (s.link.buffer ++ bytes) { s with link := { s.link with buffer := [] } }) ∧
  (∀ (s : State) (bytes rest : List Byte) (b : Byte) (f : Frame), s.link.buffer = [] →
    (s.link.rx = .locked → feed bytes s = { s with link := { s.link with buffer := bytes } }) ∧
    (s.link.rx = .hunt →
      (judge bytes = .good f rest → feed bytes s = feed rest { s with link := { s.link with rx := .verify } }) ∧
      (judge (b :: bytes) = .noSync ∨ judge (b :: bytes) = .overLength ∨ judge (b :: bytes) = .badCheck rest →
        feed (b :: bytes) s = feed bytes s) ∧
      (judge (b :: bytes) = .needMore →
        feed (b :: bytes) s =
          { s with link := { s.link with buffer := if b = syncFirst then b :: bytes else [] } })) ∧
    (s.link.rx = .verify →
      (judge bytes = .good f rest →
        feed bytes s =
          { s with
            link := { s.link with rx := .locked, badCount := 0, buffer := rest }
            clock := { s.clock with linkLoss := none } }) ∧
      (judge bytes = .noSync ∨ judge bytes = .overLength ∨ judge bytes = .badCheck rest →
        feed bytes s = feed (bytes.drop 1) { s with link := { s.link with rx := .hunt } }) ∧
      (judge bytes = .needMore → feed bytes s = { s with link := { s.link with buffer := bytes } }))) ∧
  ∀ (s : State) (bytes : List Byte), AtFrame s →
    let hunting : State :=
      { s with
        link := { s.link with rx := .hunt, badCount := 0, buffer := [] }
        clock :=
          { s.clock with
            linkLoss := if inPerformance s = true then some (s.localTime + 250000) else s.clock.linkLoss } }
    (judge bytes = .badCheck [] →
      (s.link.badCount < 3 →
        exec (.crcError bytes) s =
          .next { s with
            link := { s.link with badCount := s.link.badCount + 1 }
            sticky := { s.sticky with crcError := true } }) ∧
      (3 ≤ s.link.badCount →
        exec (.crcError bytes) s =
          .next (feed (bytes.drop 1) { hunting with sticky := { s.sticky with crcError := true } }))) ∧
    (judge bytes = .noSync ∨ judge bytes = .overLength →
      exec (.framingError bytes) s =
        .next (feed (bytes.drop 1) { hunting with sticky := { s.sticky with framingError := true } }))

/-- The upstream arbiter (R181, R182, R183, R37, R38). On an idle line a boundary chooses the first that applies of the
oldest Response, the Capture FIFO's head, the next Table Data frame, a Status frame after 20 ms, the Report FIFO's head,
the oldest Rail Reply, a Status frame after 1 ms; its item leaves its source and its content is fixed. The end of the
Status spacing chooses in the same way. A frame ends after ten bit times a byte at the link's rate (R171); the model
takes its end at the first whole µs not before its last stop bit, and the next frame begins where it ended (log entry
5): moments on the line are counted in twelfths of a µs. A frame still on the line is no boundary, and the Status
spacing does nothing before its time (log entries 1, 9). A Table Data frame's end moves its read on or completes it with
its Response. -/
def Obligations.ArbiterChooses : Prop :=
  ∀ s : State,
    let rate := match s.rateSel with
      | .level0 => 3
      | .lowResistor => 6
      | .float => 12
      | .level1 => 24
    let lastOf := fun (table : Nat) =>
      match table with
      | 1 => 88
      | 2 => 88
      | 3 => 3
      | 4 => 1
      | _ => 0
    let chosen := fun (start : Nat) (e : State) =>
      let sends := fun (f : UpFrame) (advances : Bool) (e' : State) =>
        { e' with link := { e'.link with tx := some ⟨f, start, advances⟩ } }
      let status :=
        { e with
          link := { e.link with tx := some ⟨.status (statusNow e), start, false⟩, lastStatus := some e.localTime } }
      let since := fun us => ∀ d ∈ e.link.lastStatus, d + us ≤ e.localTime
      match e.link.responses, e.captureFifo, e.tableRead with
      | r :: rest, _, _ => sends (.response r) false { e with link := { e.link with responses := rest } }
      | [], ev :: rest, _ => sends (.capture ev) false { e with captureFifo := rest }
      | [], [], some r => sends (.tableData r.table r.next (recordBytes r.table r.next e.tables)) true e
      | [], [], none =>
        if since 20000 then status
        else
          match e.reports, e.rail.replies with
          | r :: rest, _ => sends (.report r) false { e with reports := rest }
          | [], p :: rest => sends (.railReply p) false { e with rail := { e.rail with replies := rest } }
          | [], [] => if since 1000 then status else e
    (s.link.tx = none →
      exec .frameBoundary s = .next (chosen (12 * s.localTime) s) ∧
      exec .statusSpacing s =
        .next (if ∀ d ∈ s.link.lastStatus, d + 1000 ≤ s.localTime then chosen (12 * s.localTime) s else s)) ∧
    (∀ x, s.link.tx = some x →
      let ends := x.start + (7 + (upFrame x.frame).payload.length) * (120 / rate)
      let idle : State := { s with link := { s.link with tx := none } }
      exec .statusSpacing s = .next s ∧
      (12 * s.localTime < ends → exec .frameBoundary s = .next s) ∧
      (ends ≤ 12 * s.localTime →
        (x.advances = false ∨ s.tableRead = none → exec .frameBoundary s = .next (chosen ends idle)) ∧
        ∀ r, x.advances = true → s.tableRead = some r →
          (r.next + 1 ≤ r.lastAsked → r.next + 1 ≤ lastOf r.table →
            exec .frameBoundary s =
              .next (chosen ends { idle with tableRead := some { r with next := r.next + 1 } })) ∧
          (r.lastAsked < r.next + 1 ∨ lastOf r.table < r.next + 1 →
            exec .frameBoundary s =
              .next (chosen ends
                { idle with
                  tableRead := none
                  link :=
                    { s.link with
                      tx := none
                      responses :=
                        s.link.responses ++
                          [if r.lastAsked ≤ lastOf r.table then ⟨0x21, r.tag, .done, .read r.lastAsked 0⟩
                            else
                              ⟨0x21, r.tag, .outOfRange,
                                .read (lastOf r.table) (r.lastAsked - lastOf r.table)⟩] } }))))

/-- The frames the part sends on PLOUT, field by field, most significant byte first (R180, R185, Frame layouts): the
Responses, Table Data, with the records of the four tables in their layouts (R32, R37, Record layouts), the captured
events (R117, R135), the reports (R162, R166), Rail Replies and Status, all with Tag 0 but the Responses; and the
content of a Status frame, each field as it stands at the choice (R184). A latency is sent in four bytes of two's
complement; one that they cannot hold is a free value (log entry 27), of which nothing is said. -/
def Obligations.UpstreamFramesAreLaidOut : Prop :=
  let b1 := fun (n : Nat) => ([BitVec.ofNat 8 n] : List Byte)
  let b2 := fun (n : Nat) => ([BitVec.ofNat 8 (n / 256), BitVec.ofNat 8 n] : List Byte)
  let b4 := fun (n : Nat) =>
    ([BitVec.ofNat 8 (n / 16777216), BitVec.ofNat 8 (n / 65536), BitVec.ofNat 8 (n / 256), BitVec.ofNat 8 n] :
      List Byte)
  (∀ r : Response, upFrame (.response r) =
    ⟨0x80, r.tag,
      r.kind ::
        (b1 (match r.code with
          | .done => 0
          | .busy => 1
          | .invalid => 2
          | .outOfRange => 3
          | .notConfigured => 4
          | .railFault => 5
          | .unknown => 6) ++
        match r.fields with
        | .plain => []
        | .flush n => b2 n
        | .clock pt => b4 pt.toNat
        | .write i n => b1 i ++ b1 n
        | .read i n => b1 i ++ b1 n)⟩) ∧
  (∀ (table index : Nat) (record p : List Byte),
    upFrame (.tableData table index record) = ⟨0x81, 0, b1 table ++ b1 index ++ record⟩ ∧
      upFrame (.railReply p) = ⟨0xB0, 0, p⟩) ∧
  (∀ (t : Tables) (k : Key) (p : Pedal),
    let curve := fun (c : Curve) => (curvePoints c).flatMap fun q => b2 q.x ++ b2 q.y
    let r := t.cal[k]
    let c := t.config
    recordBytes 1 (k.val + 1) t =
      curve r.curveA ++ curve r.curveB ++ curve r.leadCurve ++
        b1 (match r.selected with
          | .a => 0
          | .b => 1) ++
        b2 (r.levelOffset % 65536).toNat ++ b2 r.ceiling ++ b2 r.holdLevel ++ b1 r.pushLimit ++ b2 r.gateSpacing ++
        b2 r.refLevel ++ b2 r.firmLimit ++ b2 (r.leadTrim % 65536).toNat ++ b2 r.repGap ∧
    recordBytes 2 (k.val + 1) t =
      b1 (t.keyMap[k]).channel ++
        b1 (match (t.keyMap[k]).role with
          | .replay => 0
          | .capture => 1
          | .both => 2
          | .muted => 3) ∧
    recordBytes 3 (p.val + 1) t =
      curve (t.pedal[p]).curve ++ b2 (t.pedal[p]).lead ++ b1 (t.pedal[p]).deadband ++ b1 (t.pedal[p]).rateGap ∧
    recordBytes 4 1 t =
      b1 c.captureEnable.toNat ++ b1 c.replayEnable.toNat ++ b2 c.lateLimit ++ b1 c.sensorDelay ++ b1 c.park ++
        b1 c.autoTrim.toNat ++ b1 (c.transpose % 256).toNat) ∧
  (∀ (k : Key) (p : Pedal) (pt : PT) (v : Nat) (restrike clamped gap held : Bool) (cause : ClosingCause),
    upFrame (.capture (.noteOn k pt v restrike clamped gap held)) =
      ⟨0x90, 0, b1 (k.val + 1) ++ b4 pt.toNat ++ b2 v ++
        b1 (gap.toNat + 2 * held.toNat + 4 * restrike.toNat + 8 * clamped.toNat)⟩ ∧
    upFrame (.capture (.silent k pt gap held)) =
      ⟨0x91, 0, b1 (k.val + 1) ++ b4 pt.toNat ++ b1 (gap.toNat + 2 * held.toNat)⟩ ∧
    upFrame (.capture (.noteOff k pt cause)) =
      ⟨0x92, 0, b1 (k.val + 1) ++ b4 pt.toNat ++
        b1 (match cause with
          | .keyUp => 0
          | .stop => 1
          | .fault => 2
          | .sensorLoss => 3
          | .drive => 4)⟩ ∧
    upFrame (.capture (.pedal p pt v gap held)) =
      ⟨0x93, 0, b1 (p.val + 1) ++ b4 pt.toNat ++ b2 v ++ b1 (gap.toNat + 2 * held.toNat)⟩) ∧
  (∀ x : StrikeReport, -2147483648 ≤ x.latency → x.latency < 2147483648 →
    let f := x.flags
    upFrame (.report (.strike x)) =
      ⟨0xA0, 0, b2 x.event.toNat ++ b1 x.note ++ b1 x.channel ++ b4 x.planned.toNat ++ b4 x.issue.toNat ++
        b2 x.targetSpeed ++ b2 x.levelSent ++ b2 x.measuredSpeed ++ b4 (x.latency % 4294967296).toNat ++
        b1 x.deferrals ++
        b2 (f.late.toNat + 2 * f.deferred.toNat + 4 * f.redeferred.toNat + 8 * f.clamped.toNat + 16 * f.ceiling.toNat +
          32 * f.missed.toNat + 64 * f.abandoned.toNat + 128 * f.channelOff.toNat + 256 * f.masked.toNat +
          512 * f.outOfRange.toNat + 1024 * f.outOfOrder.toNat + 2048 * f.queueFull.toNat + 4096 * f.noArrival.toNat +
          8192 * f.notMeasured.toNat)⟩) ∧
  (∀ x : ProbeReport, x.latency < 4294967296 →
    upFrame (.report (.probe x)) =
      ⟨0xA1, 0, b1 x.note ++ b1 x.index ++ b2 x.level ++ b1 x.arrived.toNat ++ b2 x.speed ++ b4 x.latency⟩) ∧
  (∀ x : CalResult,
    upFrame (.report (.calibration x)) =
      ⟨0xA2, 0, b1 x.note ++
        b1 (match x.kind with
          | .quick => 0
          | .sweep => 1) ++
        b1 (x.noOnset.toNat + 2 * x.noArrival.toNat + 4 * x.noChannel.toNat + 8 * x.aborted.toNat) ++ b1 x.onset ++
        b1 x.adjusted ++ b2 (x.offset % 65536).toNat ++
        b1 (match x.curve with
          | .a => 0
          | .b => 1) ++
        b2 x.speed⟩) ∧
  ∀ s : State,
    let f := s.sticky
    upFrame (.status (statusNow s)) =
      ⟨0xC0, 0,
        b1 (match s.clock.part with
          | .unconfigured => 0
          | .stopped => 1
          | .running => 2
          | .held => 3
          | .faulted => 4) ++
        b1 (match s.clock.cause with
          | .none => 0
          | .request => 1
          | .linkLoss => 2
          | .railFault => 3) ++
        b1 (s.tables.config.captureEnable.toNat + 2 * s.tables.config.replayEnable.toNat) ++ b4 s.clock.pt.toNat ++
        b2 (512 - s.queue.actions.length - openKeys s.queue) ++ b1 s.captureFifo.length ++ b1 s.reports.length ++
        b1 (match s.rail.state with
          | .active => 0
          | .parked => 1
          | .waking => 2
          | .off => 3
          | .faulted => 4) ++
        b1 s.sensor.up.toNat ++
        b2 (f.crcError.toNat + 2 * f.framingError.toNat + 4 * f.eventsDiscarded.toNat + 8 * f.queueFull.toNat +
          16 * f.captureOverrun.toNat + 32 * f.reportsLost.toNat + 64 * f.sensorLoss.toNat + 128 * f.railFault.toNat +
          256 * f.passThroughLost.toNat) ++
        b1 (match s.run with
          | none => 0
          | some c => c.current.val + 1) ++
        b2 s.queue.lastFlush⟩

/-! ## The Sensor Link (07, 06) -/

/-- The condition of the Sensor Link (R120, R121, R122), for frames met at the receiver's place. A good frame keeps an
up link up with its loss window restarted; on a lost link the second in a row brings it up, and the first is counted and
not delivered. A bad frame is discarded and counts on an up link, and clears the count of a lost one; the receiver's
place after it is `LineReceiversFindFrames`'s. The loss window acts on an up link at its end alone (log entries 1, 9).
-/
def Obligations.SensorLinkIsJudged : Prop :=
  ∀ s : State,
    let good : State := { s with sensor := ⟨true, 0, 0, some (s.localTime + 10000)⟩ }
    let counted : State := { s with sensor := { s.sensor with goodCount := s.sensor.goodCount + 1 } }
    (s.snin = ByteIn.start →
      (s.sensor.up = true ∨ 1 ≤ s.sensor.goodCount →
        ∀ tag kind p, exec (.idle tag) s = .next good ∧ exec (.discardedSensorFrame kind tag p) s = .next good) ∧
      (s.sensor.up = false → s.sensor.goodCount = 0 →
        ∀ tag kind p, exec (.idle tag) s = .next counted ∧ exec (.discardedSensorFrame kind tag p) s = .next counted ∧
          ∀ a b c, exec (.pedalSample a b c tag) s = .next counted) ∧
      ∀ bytes, isBadFrame bytes = true →
        (s.sensor.up = true → s.sensor.badCount < 3 →
          ∃ t, exec (.sensorBadFrame bytes) s = .next t ∧
            AfterService
              { s with
                sensor := { s.sensor with badCount := s.sensor.badCount + 1 }, snin := afterBadFrame bytes } t) ∧
        (s.sensor.up = false →
          ∃ t, exec (.sensorBadFrame bytes) s = .next t ∧
            AfterService { s with sensor := { s.sensor with goodCount := 0 }, snin := afterBadFrame bytes } t)) ∧
    (s.sensor.up = false ∨ (∀ d ∈ s.sensor.window, s.localTime < d) → exec .lossWindowExpiry s = .next s)

/-- The receivers of SNIN and RLIN (R120, R141), and the command a good frame of each stands for by its Kind and payload
(R119, R121, R141). At which byte a missing Sync or a Length over 124 counts is the model's choice (log entry 31). A
frame met at the receiver's place is judged; one that arrives while bytes of another stand there, or while the receiver
scans, is not: its bytes go to the receiver as it stands (log entry 20). A bad frame on RLIN sets no flag and causes no
fault. After a bad frame with a Length over 124 or a missing Sync the receiver scans for the next Sync from the byte
after the frame's first, the model's reading (log entry 20); after a wrong Check it stands at the byte after the frame.
A receiver that scans passes over the bytes ahead of the next 0xA7 that 0x3C follows, and stands at it; one that does
not keeps what it takes. -/
def Obligations.LineReceiversFindFrames : Prop :=
  (∀ (kind tag note h l a1 a0 b1 b0 c1 c0 : Byte) (p : List Byte),
    let key := 1 ≤ note.toNat ∧ note.toNat ≤ 88
    let trip := fun (point direction : Byte) => sensorCommand ⟨0x51, tag, [note, point, direction, h, l]⟩
    let gate := fun (gate : Byte) => sensorCommand ⟨0x52, tag, [note, gate, h, l]⟩
    let valid := kind = 0x50 ∧ p = [] ∨
      (kind = 0x51 ∧ ∃ n point direction s1 s0 : Byte, p = [n, point, direction, s1, s0] ∧ 1 ≤ n.toNat ∧
        n.toNat ≤ 88 ∧ (point = 1 ∨ point = 2) ∧ (direction = 0 ∨ direction = 1)) ∨
      (kind = 0x52 ∧ ∃ n gate s1 s0 : Byte, p = [n, gate, s1, s0] ∧ 1 ≤ n.toNat ∧ n.toNat ≤ 88 ∧
        (gate = 1 ∨ gate = 2)) ∨
      kind = 0x53 ∧ p.length = 6
    sensorCommand ⟨0x50, tag, []⟩ = .idle tag ∧
    (key → trip 1 0 = .keyTrip note .k1 .down (h ++ l) tag ∧ trip 1 1 = .keyTrip note .k1 .up (h ++ l) tag ∧
      trip 2 0 = .keyTrip note .k2 .down (h ++ l) tag ∧ trip 2 1 = .keyTrip note .k2 .up (h ++ l) tag ∧
      gate 1 = .hammerTrip note .g1 (h ++ l) tag ∧ gate 2 = .hammerTrip note .g2 (h ++ l) tag) ∧
    sensorCommand ⟨0x53, tag, [a1, a0, b1, b0, c1, c0]⟩ = .pedalSample (a1 ++ a0) (b1 ++ b0) (c1 ++ c0) tag ∧
    (¬valid → sensorCommand ⟨kind, tag, p⟩ = .discardedSensorFrame kind tag p) ∧
    railCommand ⟨0x70, tag, p⟩ = .ack tag p ∧ railCommand ⟨0x71, tag, p⟩ = .railReply p tag ∧
    (kind ≠ 0x70 → kind ≠ 0x71 → railCommand ⟨kind, tag, p⟩ = .railUnexpectedFrame kind tag p)) ∧
  (∀ (s : State) (f : Frame) (bytes : List Byte),
    (s.snin ≠ ByteIn.start →
      exec (sensorCommand f) s = .next { s with snin := takeBytes s.snin (encodeFrame f) }) ∧
    (s.rlin ≠ ByteIn.start →
      exec (railCommand f) s = .next { s with rlin := takeBytes s.rlin (encodeFrame f) }) ∧
    (s.snin ≠ ByteIn.start ∨ isBadFrame bytes = false →
      exec (.sensorBadFrame bytes) s = .next { s with snin := takeBytes s.snin bytes }) ∧
    (s.rlin ≠ ByteIn.start ∨ isBadFrame bytes = false →
      exec (.railBadFrame bytes) s = .next { s with rlin := takeBytes s.rlin bytes }) ∧
    (s.rlin = ByteIn.start → isBadFrame bytes = true →
      exec (.railBadFrame bytes) s = .next { s with rlin := afterBadFrame bytes })) ∧
  (∀ bytes : List Byte,
    (isBadFrame bytes = true ↔
      judge bytes = .badCheck [] ∨ judge bytes = .noSync ∨ judge bytes = .overLength) ∧
    (judge bytes = .badCheck [] → afterBadFrame bytes = ByteIn.start) ∧
    (judge bytes = .noSync ∨ judge bytes = .overLength →
      afterBadFrame bytes = takeBytes ⟨[], true⟩ (bytes.drop 1))) ∧
  ∀ buffer bytes : List Byte,
    let pairAt := fun (l : List Byte) (i : Nat) => l[i]? = some 0xA7 ∧ l[i + 1]? = some 0x3C
    takeBytes ⟨buffer, false⟩ bytes = ⟨buffer ++ bytes, false⟩ ∧
    (∀ i, pairAt (buffer ++ bytes) i → (∀ j < i, ¬pairAt (buffer ++ bytes) j) →
      takeBytes ⟨buffer, true⟩ bytes = ⟨(buffer ++ bytes).drop i, false⟩) ∧
    ((∀ i, ¬pairAt (buffer ++ bytes) i) →
      takeBytes ⟨buffer, true⟩ bytes =
        ⟨if (buffer ++ bytes).getLast? = some 0xA7 then [0xA7] else [], true⟩)

/-- The loss of the Sensor Link, at the fourth bad frame in a row or at the end of the loss window, and its notices
(R120, R122), up to the rail's taking of commands. SensorLoss is set. Every announced key is closed with cause
SensorLoss at PT, in ascending order, and every capture context is at Rest (R138). Every open measurement gets the
NotMeasured mark; one whose push is over, or met on a Faulted rail, closes at once with its report (R96; log entry 12),
in the order of the keys by the model's choice (log entry 18), ahead of an aborted run's result (log entry 28). A
Releasing context whose Release was sent 100 ms ago or more is Idle, for another its sensorless release timer runs to
100 ms from that sending (R93). A run in flight is aborted with its Aborted result (R167; kind byte: log entry 29): a
Waiting Push is withdrawn and its context Idle, a sent one gets its Release requested. A probe request that waits for
the current note is taken when its context comes to rest (R104), which wakes a Parked rail (R150), and withdrawn with
the run, these notices acting in the order of R122's list by the model's choice (log entry 28). The part state, PT, the
queue, the tables, the pedal capture contexts and the key gap mark stay. -/
def Obligations.SensorLossIsTaken : Prop :=
  ∀ (s : State) (c : Instr), DrivenKeysAtRest s → RunOnlyStopped s → QuietOutsidePerformance s → ProbeDriven s →
    s.sensor.up = true →
    ((∃ bytes, c = .sensorBadFrame bytes ∧ s.snin = ByteIn.start ∧ isBadFrame bytes = true ∧
        3 ≤ s.sensor.badCount) ∨
      c = .lossWindowExpiry ∧ ∃ d, s.sensor.window = some d ∧ d ≤ s.localTime) →
    let now := s.localTime
    let closes := fun (d : DriveContext) =>
      d.measuring && (decide (d.state ≠ .pushing) || decide (s.rail.state = .faulted))
    let measured := fun (d : DriveContext) =>
      if closes d = true then { d with notMeasured := true, measuring := false, gateTimer := none }
      else if d.measuring = true then { d with notMeasured := true }
      else d
    let rested := fun (d : DriveContext) => d.state = .releasing ∧ ∃ sent ∈ d.releaseSent, sent + 100000 ≤ now
    let notMeasured := (List.finRange 88).filterMap fun k =>
      match closes s.drive[k], (s.drive[k]).job with
      | true, some (.strike st) =>
        some (driveReport st ((s.drive[k]).issue.getD 0) st.level 0 0 { strikeFlags st with notMeasured := true })
      | _, _ => none
    let result := match s.run with
      | none => []
      | some r => [Report.calibration { note := r.current.val + 1, kind := r.kind, aborted := true }]
    let reporting := addReports (notMeasured ++ result) { s with sticky := { s.sticky with sensorLoss := true } }
    let probing := fun (k : Key) =>
      ∃ r, s.run = some r ∧ r.current = k ∧ r.phase = .probing ∧ r.taken = true ∧ (s.drive[k]).state = .pushing
    ∃ e t, exec c s = .next t ∧ t = railService e ∧
      t.sensor = ⟨false, 0, 0, none⟩ ∧ t.sticky.sensorLoss = true ∧
      t.captureFifo = s.captureFifo ++
        (((List.finRange 88).filter fun k => (s.capture[k]).announced).map fun k =>
          .noteOff k s.clock.pt .sensorLoss) ∧
      (∀ k : Key, t.capture[k] = CaptureContext.clear) ∧
      (∀ k : Key, (t.drive[k]).measuring = true → (t.drive[k]).notMeasured = true) ∧ t.run = none ∧
      t.clock = s.clock ∧ t.queue = s.queue ∧ t.tables = s.tables ∧ t.pedals = s.pedals ∧ t.keyGap = s.keyGap ∧
      t.link = s.link ∧ t.localTime = s.localTime ∧ t.rlin = s.rlin ∧ t.tableRead = s.tableRead ∧
      (∀ bytes, c = .sensorBadFrame bytes → t.snin = afterBadFrame bytes) ∧
      (c = .lossWindowExpiry → t.snin = s.snin) ∧
      e.sensor = t.sensor ∧ e.captureFifo = t.captureFifo ∧ e.capture = t.capture ∧ e.run = none ∧
      e.reports = reporting.reports ∧ e.sticky = reporting.sticky ∧ e.replay = s.replay ∧ SameBase e t ∧
      (∀ k : Key,
        let d := s.drive[k]
        (rested d → e.drive[k] = DriveContext.clear) ∧
        (¬rested d → ¬probing k →
          e.drive[k] =
            if d.state = .releasing then
              { measured d with
                sensorlessTimer := match d.releaseSent with
                  | none => d.sensorlessTimer
                  | some sent => some (sent + 100000) }
            else measured d) ∧
        (probing k →
          (d.stage = .waiting → e.drive[k] = DriveContext.clear ∧
            e.rail = { s.rail with waiting := s.rail.waiting.filter fun r => !isPushOf k r.cmd }) ∧
          ∀ channel level, d.stage = .sent → d.job = some (.probe channel level) →
            e.drive[k] =
              { d with
                state := .releasing, rearmed := false, pushTimer := none, measuring := false
                notMeasured := d.measuring || d.notMeasured
                gateTimer := if d.measuring = true then none else d.gateTimer } ∧
            e.rail = { s.rail with waiting := s.rail.waiting ++ [⟨.release k channel, now⟩] })) ∧
      (s.run = none → e.rail = s.rail) ∧
      ∀ r, s.run = some r →
        (r.phase = .probing → r.taken = false → rested s.drive[r.current] →
          e.rail =
            { s.rail with
              state := if s.rail.state = .parked then .waking else s.rail.state
              waiting := (s.rail.waiting.filter fun q => !isPushOf r.current q.cmd) ++
                if s.rail.state = .parked then [⟨.unpark, now⟩] else [] }) ∧
        (¬probing r.current → ¬(r.phase = .probing ∧ r.taken = false ∧ rested s.drive[r.current]) →
          e.rail = s.rail)

/-- The routing of a crossing of a key 1..88 (R124, R47, R120): to the drive context while it is not Idle; else to the
capture context when the role is Capture or Both; else to none. It carries PT less the sensor delay, modulo 2^32. A
frame of a lost link that does not bring it up is counted and not delivered. -/
def Obligations.CrossingsAreRouted : Prop :=
  ∀ (s : State) (k : Key) (tag note : Byte) (c : Instr) (x : Crossing), note.toNat = k.val + 1 →
    s.snin = ByteIn.start →
    ((∃ stamp, c = .keyTrip note .k1 .down stamp tag ∧ x = .k1Down) ∨
      (∃ stamp, c = .keyTrip note .k1 .up stamp tag ∧ x = .k1Up) ∨
      (∃ stamp, c = .keyTrip note .k2 .down stamp tag ∧ x = .k2Down) ∨
      (∃ stamp, c = .keyTrip note .k2 .up stamp tag ∧ x = .k2Up) ∨
      (∃ stamp, c = .hammerTrip note .g1 stamp tag ∧ x = .g1 stamp) ∨
      (∃ stamp, c = .hammerTrip note .g2 stamp tag ∧ x = .g2 stamp)) →
    let e : State := { s with sensor := ⟨true, 0, 0, some (s.localTime + 10000)⟩ }
    let time := s.clock.pt - BitVec.ofNat 32 s.tables.config.sensorDelay
    let delivered := s.sensor.up = true ∨ 1 ≤ s.sensor.goodCount
    let role := (s.tables.keyMap[k]).role
    (¬delivered →
      ∃ t, exec c s = .next t ∧
        AfterService { s with sensor := { s.sensor with goodCount := s.sensor.goodCount + 1 } } t) ∧
    (delivered → (s.drive[k]).state ≠ .idle →
      exec c s = .next (railService (driveCrossing k x time e))) ∧
    (delivered → (s.drive[k]).state = .idle → role = .capture ∨ role = .both →
      exec c s = .next (railService (captureCrossing k x time e))) ∧
    (delivered → (s.drive[k]).state = .idle → role = .replay ∨ role = .muted →
      ∃ t, exec c s = .next t ∧ AfterService e t)

/-- What a capture context does with a crossing, and what it offers (R127 to R134), and the expiry of its gate timer
(R129). The new state is that of the table of R130. A first-stroke event that fits is queued and announces its key; a
Restrike Note-On is queued only for an announced key; a Note-Off is queued for an announced key and ends that; each only
in Running or Held with capture on. One that does not fit is dropped with CaptureOverrun and the key gap mark. A
crossing that the table gives no effect changes nothing; the gate timer does nothing before its time or outside Gated
(log entries 1, 9). -/
def Obligations.CaptureContextsFollowKeys : Prop :=
  (∀ s : State,
    capturing s = true ↔ (s.clock.part = .running ∨ s.clock.part = .held) ∧ s.tables.config.captureEnable = true) ∧
  ∀ (s : State) (k : Key) (time : PT) (stamp : Stamp),
    let c := s.capture[k]
    let held := decide (s.clock.part = .held)
    let room := fun n => s.captureFifo.length + announcedKeys s + n ≤ 128
    let put := fun (c' : CaptureContext) => { s with capture := s.capture.set k.val c' k.isLt }
    let gated := { c with state := .gated, g1 := some (stamp, time), gateTimer := some (s.localTime + 60000) }
    let first := fun (c' : CaptureContext) (ev : CaptureEvent) =>
      if capturing s = false then put c'
      else if room 2 then
        { put { c' with announced := true } with captureFifo := s.captureFifo ++ [ev], keyGap := false }
      else { put c' with sticky := { s.sticky with captureOverrun := true }, keyGap := true }
    let restrike := fun (c' : CaptureContext) (ev : CaptureEvent) =>
      if capturing s = false ∨ c.announced = false then put c'
      else if room 1 then { put c' with captureFifo := s.captureFifo ++ [ev], keyGap := false }
      else { put c' with sticky := { s.sticky with captureOverrun := true }, keyGap := true }
    let rest :=
      if capturing s = true ∧ c.announced = true then
        { put CaptureContext.clear with captureFifo := s.captureFifo ++ [.noteOff k time .keyUp] }
      else put { CaptureContext.clear with announced := c.announced }
    (c.state = .rest → captureCrossing k .k1Down time s = put { c with state := .descending } ∧
      ∀ x, x ≠ .k1Down → captureCrossing k x time s = s) ∧
    (c.state = .descending →
      captureCrossing k (.g1 stamp) time s = put { gated with restrike := false } ∧
      captureCrossing k .k2Down time s = first { c with state := .quiet } (.silent k time s.keyGap held) ∧
      captureCrossing k .k1Up time s = put { CaptureContext.clear with announced := c.announced } ∧
      ∀ x ∈ [.k1Down, .k2Up, .g2 stamp], captureCrossing k x time s = s) ∧
    (c.state = .gated →
      captureCrossing k (.g1 stamp) time s = put gated ∧ captureCrossing k .k1Up time s = rest ∧
      (∀ x ∈ [.k1Down, .k2Down, .k2Up], captureCrossing k x time s = s) ∧
      ∀ g1 t1, c.g1 = some (g1, t1) →
        let down := { c with state := .down, remembered := none, g1 := none, gateTimer := none }
        let spacing := (s.tables.cal[k]).gateSpacing
        let ev := CaptureEvent.noteOn k time (hammerSpeed spacing g1 stamp) c.restrike (speedClamped spacing g1 stamp)
          s.keyGap held
        captureCrossing k (.g2 stamp) time s = if c.restrike = true then restrike down ev else first down ev) ∧
    (c.state = .down ∨ c.state = .quiet →
      captureCrossing k .k2Up time s = put { c with state := .rearmed, remembered := some c.state } ∧
      captureCrossing k .k1Up time s = rest ∧
      ∀ x, x ≠ .k2Up → x ≠ .k1Up → captureCrossing k x time s = s) ∧
    (c.state = .rearmed →
      captureCrossing k (.g1 stamp) time s = put { gated with restrike := true } ∧
      captureCrossing k .k1Up time s = rest ∧
      (∀ m, c.remembered = some m →
        captureCrossing k .k2Down time s = put { c with state := m, remembered := none }) ∧
      ∀ x ∈ [.k1Down, .k2Up, .g2 stamp], captureCrossing k x time s = s) ∧
    (∀ d, c.state = .gated → c.gateTimer = some d →
      (s.localTime < d → exec (.captureGateTimeout k) s = .next s) ∧
      (d ≤ s.localTime → ∀ g1 t1, c.g1 = some (g1, t1) →
        (c.restrike = false →
          exec (.captureGateTimeout k) s =
            .next (first { c with state := .quiet, g1 := none, gateTimer := none } (.silent k t1 s.keyGap held))) ∧
        ∀ m, c.restrike = true → c.remembered = some m →
          exec (.captureGateTimeout k) s =
            .next (put { c with state := m, remembered := none, g1 := none, gateTimer := none }))) ∧
    (c.state ≠ .gated → exec (.captureGateTimeout k) s = .next s)

/-- What a driven key's crossings do (R87, R89, R90, R92, R94, R95, R96, R102, R103), for a context that waits for no
Restart's Release All: a G1 after the sending ends the push, with Hold for a strike and Release for a probe, and is
recorded by an open measurement; on a Faulted rail it is recorded alone. A measurement that carries the NotMeasured mark
is closed and reported at that push end (R96), and takes no G2 before it (log entry 12). A G2 after a G1 closes a
measurement as arrived, and without one does nothing; K2 up and down set and clear re-armed while Releasing; K1 up then
closes a measurement still open, NoArrival, or NotMeasured when it carries the mark (log entry 12), and makes the
context Idle with its rest notice (`becomeIdle` of `ProbesAreCarriedOut`). -/
def Obligations.DriveContextsFollowKeys : Prop :=
  ∀ (s : State) (k : Key) (time : PT) (stamp : Stamp),
    let d := s.drive[k]
    let put := fun (d' : DriveContext) => { s with drive := s.drive.set k.val d' k.isLt }
    let noted := if d.measuring = true then { d with g1 := some stamp } else d
    let unmarked := d.measuring = false ∨ d.notMeasured = false
    (d.restarting = true → ∀ x, driveCrossing k x time s = s) ∧
    (d.restarting = false →
      (d.state = .pushing → d.stage = .waiting → ∀ x, driveCrossing k x time s = s) ∧
      (d.state = .pushing → d.stage = .sent →
        (s.rail.state = .faulted → driveCrossing k (.g1 stamp) time s = put noted) ∧
        (s.rail.state ≠ .faulted →
          (∀ st, d.job = some (.strike st) →
            (unmarked →
              driveCrossing k (.g1 stamp) time s =
                requestRail (.hold k st.channel (s.tables.cal[k]).holdLevel)
                  (put { noted with state := .holding, pushTimer := none })) ∧
            (¬unmarked →
              driveCrossing k (.g1 stamp) time s =
                addReport
                  (driveReport st (d.issue.getD 0) st.level 0 0 { strikeFlags st with notMeasured := true })
                  (requestRail (.hold k st.channel (s.tables.cal[k]).holdLevel)
                    (put
                      { noted with state := .holding, pushTimer := none, measuring := false, gateTimer := none })))) ∧
          ∀ channel level, d.job = some (.probe channel level) →
            let released := { noted with state := .releasing, rearmed := false, pushTimer := none }
            (unmarked → driveCrossing k (.g1 stamp) time s = requestRail (.release k channel) (put released)) ∧
            (¬unmarked →
              driveCrossing k (.g1 stamp) time s =
                requestRail (.release k channel) (put { released with measuring := false, gateTimer := none })))) ∧
      (d.state = .holding ∨ d.state = .releasing → driveCrossing k (.g1 stamp) time s = put noted) ∧
      (d.state ≠ .idle → (d.state = .pushing → d.stage = .sent) →
        (d.measuring = false ∨ d.notMeasured = true ∨ d.g1 = none → driveCrossing k (.g2 stamp) time s = s) ∧
        ∀ g1, d.measuring = true → d.notMeasured = false → d.g1 = some g1 →
          driveCrossing k (.g2 stamp) time s = closeMeasurement k (.arrived g1 stamp time) s) ∧
      (d.state = .releasing →
        driveCrossing k .k2Up time s = put { d with rearmed := true } ∧
        driveCrossing k .k2Down time s = put { d with rearmed := false } ∧
        driveCrossing k .k1Down time s = s ∧
        (d.measuring = false → driveCrossing k .k1Up time s = becomeIdle k s) ∧
        (d.measuring = true →
          driveCrossing k .k1Up time s =
            becomeIdle k (closeMeasurement k (if d.notMeasured = true then .notMeasured else .noArrival) s)) ∧
        ((∀ c, s.run = some c → c.current ≠ k) →
          let idle := { put DriveContext.clear with capture := s.capture.set k.val CaptureContext.clear k.isLt }
          (d.measuring = false → driveCrossing k .k1Up time s = idle) ∧
          ∀ st, d.measuring = true → d.job = some (.strike st) →
            driveCrossing k .k1Up time s =
              addReport
                (driveReport st (d.issue.getD 0) st.level 0 0
                  (if d.notMeasured = true then { strikeFlags st with notMeasured := true }
                    else { strikeFlags st with noArrival := true })) idle)) ∧
      (d.state = .pushing ∨ d.state = .holding →
        driveCrossing k .k1Down time s = s ∧ driveCrossing k .k1Up time s = s ∧
        driveCrossing k .k2Down time s = s ∧ driveCrossing k .k2Up time s = s))

/-- A PedalSample that is delivered (R114, R116, R117, R51): the three pedals in order, each raw value converted and
held; in Running and Held with capture on, a pedal moved by its deadband or to an end stop offers an event, queued with
the pedal's gap mark and the Held flag when one entry beyond the announced reserve is free, else dropped with the gap
mark and CaptureOverrun. -/
def Obligations.PedalSamplesAreTaken : Prop :=
  (∀ s : State,
    (inPerformance s = true ↔ s.clock.part = .running ∨ s.clock.part = .held) ∧
    (capturing s = true ↔ (s.clock.part = .running ∨ s.clock.part = .held) ∧ s.tables.config.captureEnable = true)) ∧
  (∀ (s : State) (tag : Byte) (a b c : BitVec 16), s.snin = ByteIn.start → s.sensor.up = true ∨ 1 ≤ s.sensor.goodCount →
    let e : State := { s with sensor := ⟨true, 0, 0, some (s.localTime + 10000)⟩ }
    let time := s.clock.pt - BitVec.ofNat 32 s.tables.config.sensorDelay
    exec (.pedalSample a b c tag) s = .next (pedalRaw time 2 c (pedalRaw time 1 b (pedalRaw time 0 a e)))) ∧
  ∀ (s : State) (time : PT) (p : Pedal) (raw : BitVec 16),
    let r := s.tables.pedal[p]
    let old := s.pedals[p]
    let now := interpolate r.curve raw.toNat
    let put := fun (c : PedalCapture) => { s with pedals := s.pedals.set p.val c p.isLt }
    let moved := (r.deadband : Int) ≤ |(now : Int) - old.reported| ∨ (now = 0 ∨ now = 1023) ∧ old.reported ≠ now
    pedalRaw time p raw s =
      if capturing s = true ∧ moved then
        if s.captureFifo.length + announcedKeys s + 1 ≤ 128 then
          { put ⟨now, now, false⟩ with
            captureFifo := s.captureFifo ++ [.pedal p time now old.gap (decide (s.clock.part = .held))] }
        else
          { put ⟨now, old.reported, true⟩ with sticky := { s.sticky with captureOverrun := true } }
      else put ⟨now, old.reported, old.gap⟩

/-! ## Timers of the drive and pedal contexts (05, 06) -/

/-- The timers of a drive context and of a pedal's rate gap (R89, R91, R92, R93, R95, R98, R102, R107, R108). At the
push timer a measurement that carries the NotMeasured mark is closed and reported with the push (R96). The gate timer
closes the open measurement of a strike or a probe, NoArrival, or NotMeasured when it carries the mark (log entry 12).
The rest and the sensorless release timer make a Releasing context Idle, a measurement still open closed first, at the
sensorless one too by the model's reading (log entries 12, 22). In a context that waits for a Restart's Release All
these two go on running, the model's reading (log entry 19). Each timer does nothing before its time or in a state it
does not belong to (log entries 1, 9). The position a rate gap's end issues waits at the rail beyond the command (R109,
R112; log entry 4). -/
def Obligations.DriveTimersExpire : Prop :=
  (∀ (s : State) (k : Key),
    let d := s.drive[k]
    let put := fun (d' : DriveContext) => { s with drive := s.drive.set k.val d' k.isLt }
    let due := fun (timer : Option Nat) => ∃ n, timer = some n ∧ n ≤ s.localTime
    let gives := fun (c : Instr) (e : State) => ∃ t, exec c s = .next t ∧ AfterService e t
    let unmarked := d.measuring = false ∨ d.notMeasured = false
    let outcome := if d.notMeasured = true then MeasOutcome.notMeasured else .noArrival
    let flags := fun (st : Strike) =>
      if d.notMeasured = true then { strikeFlags st with notMeasured := true }
      else { strikeFlags st with noArrival := true }
    (d.state = .pushing → d.stage = .sent → due d.pushTimer →
      (s.rail.state = .faulted → gives (.pushTimerExpiry k) (put { d with pushTimer := none })) ∧
      (s.rail.state ≠ .faulted →
        (∀ st, d.job = some (.strike st) →
          let hold := requestRail (.hold k st.channel (s.tables.cal[k]).holdLevel)
          (unmarked → gives (.pushTimerExpiry k) (hold (put { d with state := .holding, pushTimer := none }))) ∧
          (¬unmarked →
            gives (.pushTimerExpiry k)
              (addReport (driveReport st (d.issue.getD 0) st.level 0 0 { strikeFlags st with notMeasured := true })
                (hold
                  (put { d with state := .holding, pushTimer := none, measuring := false, gateTimer := none }))))) ∧
        ∀ channel level, d.job = some (.probe channel level) →
          let released := { d with state := .releasing, rearmed := false, pushTimer := none }
          (unmarked → gives (.pushTimerExpiry k) (requestRail (.release k channel) (put released))) ∧
          (¬unmarked →
            gives (.pushTimerExpiry k)
              (requestRail (.release k channel) (put { released with measuring := false, gateTimer := none }))))) ∧
    (d.state ≠ .pushing ∨ d.stage ≠ .sent ∨ ¬due d.pushTimer → exec (.pushTimerExpiry k) s = .next s) ∧
    (due d.gateTimer →
      (d.measuring = false → exec (.gateTimerExpiry k) s = .next (put { d with gateTimer := none })) ∧
      (∀ channel level, d.measuring = true → d.job = some (.probe channel level) →
        exec (.gateTimerExpiry k) s = .next (closeMeasurement k outcome s)) ∧
      ∀ st, d.measuring = true → d.job = some (.strike st) →
        exec (.gateTimerExpiry k) s =
          .next (addReport (driveReport st (d.issue.getD 0) st.level 0 0 (flags st))
            (put { d with gateTimer := none, measuring := false }))) ∧
    (¬due d.gateTimer → exec (.gateTimerExpiry k) s = .next s) ∧
    (∀ c timer, c = .restTimerExpiry k ∧ timer = d.restTimer ∨
        c = .sensorlessReleaseTimer k ∧ timer = d.sensorlessTimer →
      (d.state ≠ .releasing ∨ ¬due timer → exec c s = .next s) ∧
      (d.state = .releasing → due timer →
        (d.measuring = false → gives c (becomeIdle k s)) ∧
        (d.measuring = true → gives c (becomeIdle k (closeMeasurement k outcome s))) ∧
        ((∀ run, s.run = some run → run.current ≠ k) →
          let idle := { put DriveContext.clear with capture := s.capture.set k.val CaptureContext.clear k.isLt }
          (d.measuring = false → gives c idle) ∧
          ∀ st, d.measuring = true → d.job = some (.strike st) →
            gives c (addReport (driveReport st (d.issue.getD 0) st.level 0 0 (flags st)) idle))))) ∧
  ∀ (s : State) (p : Pedal),
    let c := s.replay[p]
    let put := fun (c' : PedalReplay) => { s with replay := s.replay.set p.val c' p.isLt }
    let elapsed := ∀ t ∈ c.lastSent, t + (s.tables.pedal[p]).rateGap * 1000 ≤ s.localTime
    (c.state = .spacing → elapsed → exec (.rateGapEnd p) s = .next (put { c with state := .ready })) ∧
    (∀ position, c.state = .waiting → c.waiting = some position → elapsed →
      (pedalAvailable s.rail p = true →
        exec (.rateGapEnd p) s =
          .next (requestRail (.pedalSet p) (put { c with state := .requested, commanded := position, waiting := none }))) ∧
      (pedalAvailable s.rail p = false →
        exec (.rateGapEnd p) s = .next (put { c with state := .ready, commanded := position, waiting := none }))) ∧
    (c.state = .ready ∨ c.state = .requested ∨ ¬elapsed → exec (.rateGapEnd p) s = .next s)

/-! ## The Rail Link (08) -/

/-- The waiting list and its order (R140, R142, R143, R150). A request stands at the tail with its moment; a request for
Push, Hold or PedalSet on a Parked rail is followed by Unpark, and the rail is Waking; a wake alone does the same, and
nothing on a rail that is not Parked (R72). The command taken next is one that waits and that the rail state lets go,
and no other such goes before it: lower class first, then the earlier request, then the lower channel, key channels
before pedals, and in class 1 Release All before Unpark before Park; none is taken when none may go. A frame of the
pass-through queue goes only when no command of the list may, and not in Waking or Faulted (R153). -/
def Obligations.RailTakesInOrder : Prop :=
  let cls := fun (c : RailCmd) =>
    match c with
    | .releaseAll _ _ => 1
    | .park => 1
    | .unpark => 1
    | .push _ _ _ => 2
    | .hold _ _ _ => 3
    | .release _ _ => 4
    | .pedalSet _ => 5
    | .passThrough _ => 6
  let rank := fun (c : RailCmd) =>
    match c with
    | .releaseAll _ _ => 0
    | .unpark => 1
    | .park => 2
    | .push _ channel _ => channel
    | .hold _ channel _ => channel
    | .release _ channel => channel
    | .pedalSet p => 89 + p.val
    | .passThrough _ => 0
  let goes := fun (rs : RailState) (c : RailCmd) =>
    match rs with
    | .active => True
    | .off => True
    | .parked => (∃ a b, c = .releaseAll a b) ∨ c = .unpark ∨ (∃ k ch, c = .release k ch) ∨ ∃ p, c = .passThrough p
    | .waking => (∃ a b, c = .releaseAll a b) ∨ c = .unpark
    | .faulted => ∃ restart, c = .releaseAll true restart
  (∀ (s : State) (c : RailCmd),
    let e : State := { s with rail := { s.rail with waiting := s.rail.waiting ++ [⟨c, s.localTime⟩] } }
    let wakes := (∃ k ch l, c = .push k ch l) ∨ (∃ k ch l, c = .hold k ch l) ∨ ∃ p, c = .pedalSet p
    (s.rail.state = .parked → wakes →
      requestRail c s =
        { e with
          rail :=
            { e.rail with state := .waking, waiting := e.rail.waiting ++ [⟨.unpark, s.localTime⟩] } }) ∧
    (s.rail.state ≠ .parked ∨ ¬wakes → requestRail c s = e) ∧
    (s.rail.state = .parked →
      wake s =
        { s with
          rail := { s.rail with state := .waking, waiting := s.rail.waiting ++ [⟨.unpark, s.localTime⟩] } }) ∧
    (s.rail.state ≠ .parked → wake s = s)) ∧
  (∀ r : Rail,
    (nextRequest r = none ↔ ∀ q ∈ r.waiting, ¬goes r.state q.cmd) ∧
    ∀ q, nextRequest r = some q →
      q ∈ r.waiting ∧ goes r.state q.cmd ∧
        ∀ o ∈ r.waiting, goes r.state o.cmd →
          cls q.cmd < cls o.cmd ∨
            cls q.cmd = cls o.cmd ∧ (q.time < o.time ∨ q.time = o.time ∧ rank q.cmd ≤ rank o.cmd)) ∧
  ∀ (start : Nat) (s : State),
    (s.rail.tx.isSome = true ∨ 4 ≤ s.rail.inFlight.length → railServiceAt start s = s) ∧
    (s.rail.tx = none → s.rail.inFlight.length < 4 → nextRequest s.rail = none →
      (s.rail.passQueue = [] ∨ s.rail.state = .waking ∨ s.rail.state = .faulted → railServiceAt start s = s) ∧
      ∀ p rest, s.rail.passQueue = p :: rest →
        s.rail.state = .active ∨ s.rail.state = .off ∨ s.rail.state = .parked →
        railServiceAt start s =
          { s with
            rail :=
              { s.rail with
                passQueue := rest
                inFlight := s.rail.inFlight ++ [⟨s.rail.seq, .passThrough p, false⟩]
                seq := s.rail.seq + 1
                tx := some ⟨⟨0x68, s.rail.seq.setWidth 8, p⟩, start, true⟩ } })

/-- What the taking of the next command `q` comes to, with a slot free (R140, R144). A command that goes leaves the
list, gets the counter's number, enters the in-flight list, and its frame begins on RLOUT, the number in its Tag; a
Push, Hold or PedalSet reloads the park timer (R149). A strike's Push is judged for lateness against PT (R46, R88):
above the late limit it is not sent, the strike is reported Missed, the context Idle with its rest notice, and the next
command is taken; from 100 on it is marked Late; when it goes, issue PT, push and gate timers, the open measurement,
marked NotMeasured under sensor loss, and trim eligibility, set in Running alone, are recorded. A probe's Push goes
unjudged, trim eligibility clear (R104). A Release sent is recorded by a Releasing context that has none yet, its rest
timer started, its sensorless timer too under sensor loss (R91, R93; log entry 15), and so it is by every such context
at a Release All (R101, R156), but that a Restart's makes every context Idle, with no report and no rest notice (R103,
R156), withdraws what waits for each that was not, and tells the run, which ends its rest wait or has its probe request
taken (R104, R163; log entry 13). A PedalSet takes the commanded position and starts the rate gap (R107, R108). A Park
goes in Active with the park conditions, else it is dropped and the timer reloaded (R149). -/
def Obligations.RailCommandsAreSent : Prop :=
  (∀ s : State, railService s = railServiceAt (12 * s.localTime) s) ∧
  ∀ (start : Nat) (s : State) (q : Request), s.rail.tx = none → s.rail.inFlight.length < 4 →
    nextRequest s.rail = some q →
    let w : State := { s with rail := { s.rail with waiting := s.rail.waiting.erase q } }
    let t := railServiceAt start s
    let now := s.localTime
    let reload := some (now + if s.tables.config.park = 0 then 1200000000 else s.tables.config.park * 5000000)
    let gone := fun (kind : Byte) (payload : List Byte) (e : State) =>
      { e with
        rail :=
          { e.rail with
            inFlight := s.rail.inFlight ++ [⟨s.rail.seq, q.cmd, false⟩]
            seq := s.rail.seq + 1
            tx := some ⟨⟨kind, s.rail.seq.setWidth 8, payload⟩, start, true⟩ } }
    let awake := fun (e : State) => { e with rail := { e.rail with parkTimer := reload } }
    let put := fun (k : Key) (d : DriveContext) => { w with drive := s.drive.set k.val d k.isLt }
    let sentRelease := fun (d : DriveContext) =>
      if d.state = .releasing ∧ d.releaseSent = none then
        { d with
          releaseSent := some now
          restTimer := some (now + 400000)
          sensorlessTimer := if s.sensor.up = true then d.sensorlessTimer else some (now + 100000) }
      else d
    let sentPush := fun (k : Key) (trim : Bool) (job : DriveJob) =>
      { s.drive[k] with
        job := some job
        stage := .sent
        issue := some s.clock.pt
        sentAt := some now
        pushTimer := some (now + (s.tables.cal[k]).pushLimit * 1000)
        gateTimer := some (now + ((s.tables.cal[k]).pushLimit + 60) * 1000)
        measuring := true
        g1 := none
        notMeasured := !s.sensor.up
        trimEligible := trim }
    (∀ k channel level, q.cmd = .push k channel level →
      let bytes := put8 channel ++ put16 level
      (∀ st, (s.drive[k]).job = some (.strike st) →
        let late := if earlier st.planned s.clock.pt = true then (s.clock.pt - st.planned).toNat else 0
        let missed := addReport (driveReport st 0 0 0 0 { strikeFlags st with missed := true })
          { put k DriveContext.clear with capture := s.capture.set k.val CaptureContext.clear k.isLt }
        (s.tables.config.lateLimit < late → (∀ c, s.run = some c → c.current ≠ k) → t = railServiceAt start missed) ∧
        (late ≤ s.tables.config.lateLimit →
          t = awake (gone 0x61 bytes (put k (sentPush k (decide (s.clock.part = .running))
            (.strike { st with late := st.late || decide (100 ≤ late) })))))) ∧
      ∀ ch l, (s.drive[k]).job = some (.probe ch l) →
        t = awake (gone 0x61 bytes (put k (sentPush k false (.probe ch l))))) ∧
    (∀ k channel level, q.cmd = .hold k channel level → t = awake (gone 0x62 (put8 channel ++ put16 level) w)) ∧
    (∀ k channel, q.cmd = .release k channel →
      t = gone 0x63 (put8 channel) (put k (sentRelease s.drive[k]))) ∧
    (∀ recovery, q.cmd = .releaseAll recovery false → t = gone 0x64 [] { w with drive := s.drive.map sentRelease }) ∧
    (∀ recovery, q.cmd = .releaseAll recovery true →
      let idle := gone 0x64 []
        { w with
          drive := Vector.replicate 88 DriveContext.clear
          rail :=
            { w.rail with
              waiting := w.rail.waiting.filter fun r =>
                match r.cmd with
                | .push k _ _ => decide ((s.drive[k]).state = .idle)
                | .hold k _ _ => decide ((s.drive[k]).state = .idle)
                | .release k _ => decide ((s.drive[k]).state = .idle)
                | _ => true } }
      ((∀ c, s.run = some c →
          (s.drive[c.current]).state = .idle ∨ c.phase = .settling ∨ c.phase = .probing ∧ c.taken = true) →
        t = idle) ∧
      ∀ c, s.run = some c → (s.drive[c.current]).state ≠ .idle →
        (c.phase = .awaitingRest →
          t = { idle with run := some { c with phase := .settling, timer := some (now + 150000) } }) ∧
        ∀ p, c.phase = .probing → c.taken = false → c.probes[c.index]? = some p →
          t =
            { requestRail (.push c.current c.channel p.level)
                { idle with
                  drive :=
                    idle.drive.set c.current.val
                      { DriveContext.clear with state := .pushing, job := some (.probe c.channel p.level) }
                      c.current.isLt
                  capture := s.capture.set c.current.val CaptureContext.clear c.current.isLt
                  captureFifo := s.captureFifo ++
                    if (s.capture[c.current]).announced = true then [.noteOff c.current s.clock.pt .drive] else [] } with
              run := some { c with taken := true } }) ∧
    (∀ p, q.cmd = .pedalSet p →
      t = awake (gone 0x65 (put8 (p.val + 1) ++ put16 (s.replay[p]).commanded)
        { w with
          replay := s.replay.set p.val { s.replay[p] with state := .spacing, lastSent := some now } p.isLt })) ∧
    (q.cmd = .unpark → t = gone 0x67 [] w) ∧
    (q.cmd = .park →
      let mayPark := s.rail.state = .active ∧ (∀ k : Key, (s.drive[k]).state = .idle) ∧
        (∀ p : Pedal, (s.replay[p]).commanded = 0) ∧ s.run = none ∧
        ∀ r ∈ w.rail.waiting, (∀ k c l, r.cmd ≠ .push k c l) ∧ (∀ k c l, r.cmd ≠ .hold k c l) ∧ ∀ p, r.cmd ≠ .pedalSet p
      (mayPark →
        t = gone 0x66 [] { w with rail := { w.rail with state := .parked } }) ∧
      (¬mayPark → t = railServiceAt start (awake w)))

/-- Pass-through frames and Rail Replies (R153, R155): each is stored while there is room, 8 frames and 4 replies, and
is otherwise discarded with PassThroughLost. -/
def Obligations.PassThroughsAndRepliesAreStored : Prop :=
  ∀ (s : State) (tag : Byte) (p : List Byte),
    let e : State := { s with link := { s.link with badCount := 0 } }
    (AtFrame s →
      ∃ t, exec (.railPassThrough tag p) s = .next t ∧
        AfterService
          (if s.rail.passQueue.length < 8 then
            { e with rail := { s.rail with passQueue := s.rail.passQueue ++ [p] } }
          else { e with sticky := { s.sticky with passThroughLost := true } }) t) ∧
    (s.rlin = ByteIn.start →
      exec (.railReply p tag) s =
        .next (if s.rail.replies.length < 4 then
            { s with rail := { s.rail with replies := s.rail.replies ++ [p] } }
          else { s with sticky := { s.sticky with passThroughLost := true } }))

/-- An Ack with no payload that carries the number of the oldest entry, transmitted in full, removes it; the next
entry's window starts when its frame has been transmitted (R145, R146). Unpark's ends Waking, Channel Enable's replaces
the mask, Rail Power's sets or clears the power flag and moves the rail to or from Off, a recovery Release All's ends
Faulted (R149, R151, R152, R154, R157). The mask of a Channel Enable is its 12 bytes behind the kind byte, most
significant first: bit k − 1 for channel k, bits 88 to 90 for P1 to P3, the five highest ignored; one of another length
is not applied. -/
def Obligations.AcksAreTaken : Prop :=
  (∀ (s : State) (tag : Byte) (o : InFlight) (rest : List InFlight), s.rail.inFlight = o :: rest →
    s.rlin = ByteIn.start → o.transmitted = true → tag = o.seq.setWidth 8 →
    let window := match rest with
      | [] => none
      | n :: _ => if n.transmitted = true then some s.localTime else none
    let rail := { s.rail with inFlight := rest, window := window }
    let active : State :=
      { s with
        rail :=
          { rail with state := .active, parkTimer := some (s.localTime + parkLength s.tables.config.park) } }
    let gives := fun e => ∃ t, exec (.ack tag []) s = .next t ∧ AfterService e t
    (o.cmd = .unpark → gives (if s.rail.state = .waking then active else { s with rail := rail })) ∧
    (∀ recovery restart, o.cmd = .releaseAll recovery restart →
      gives (if recovery = true ∧ s.rail.state = .faulted then
          if s.rail.powerOff = true then { s with rail := { rail with state := .off } } else active
        else { s with rail := rail })) ∧
    (∀ p, o.cmd = .passThrough p →
      (∀ m, channelMask? p = some m → gives { s with rail := { rail with mask := m } }) ∧
      (p = [2, 0] →
        gives { s with
          rail := { rail with powerOff := true, state := if s.rail.state = .faulted then .faulted else .off } }) ∧
      (p = [2, 1] →
        gives (if s.rail.state = .off then { active with rail := { active.rail with powerOff := false } }
          else { s with rail := { rail with powerOff := false } })) ∧
      (channelMask? p = none → p ≠ [2, 0] → p ≠ [2, 1] → gives { s with rail := rail })) ∧
    (o.cmd = .park ∨ (∃ k ch l, o.cmd = .push k ch l) ∨ (∃ k ch l, o.cmd = .hold k ch l) ∨
        (∃ k ch, o.cmd = .release k ch) ∨ (∃ p, o.cmd = .pedalSet p) →
      gives { s with rail := rail })) ∧
  ∀ (p : List Byte) (m : BitVec 91),
    channelMask? p = some m ↔
      p.length = 13 ∧ p.head? = some 1 ∧ ∀ n < 91, m.getLsbD n = (p.getD (12 - n / 8) 0).getLsbD (n % 8)

/-- A rail fault (R147, R146, R148, R12, R111, R103, R167): taken on an Ack that does not match, outside Faulted or with
a recovery in flight, on an unexpected frame outside Faulted, and on the expiry of the oldest entry's window. The rail
is Faulted with RailFault set and both lists cleared, the frame in transmission ending alone; a Park that waited reloads
the park timer (R149). Every context that waits for a Restart's Release All is Idle (R103), one driven only since the
Restart is not, the model's reading (log entry 13). A Running or Held part is Faulted with cause RailFault, its queue
flushed (R82), trim eligibility clear (R97), its announced keys closed at PT in ascending order with cause Fault (R137).
The pedals lose what waited. A run is aborted with its Aborted result (R167; kind byte: log entry 29): a Waiting Push's
context is Idle; a sent one's is Releasing, a marked measurement closed (log entry 12), and the Release of that abort is
the one request that then waits. In Faulted with nothing in flight an Ack or an unexpected frame does nothing, and at
any time a bad frame moves the receiver alone (R141). Frames are those met at the receiver's place (log entry 20); a
window acts at its end alone (log entries 1, 9). -/
def Obligations.RailFaultsAreTaken : Prop :=
  (∀ (s : State) (c : Instr), RunOnlyStopped s → ProbeDriven s →
    ((∃ tag p, c = .ack tag p ∧ s.rlin = ByteIn.start ∧
        match s.rail.inFlight with
        | [] => s.rail.state ≠ .faulted
        | o :: _ => p ≠ [] ∨ o.transmitted = false ∨ tag ≠ o.seq.setWidth 8) ∨
      (∃ kind tag p, c = .railUnexpectedFrame kind tag p ∧ s.rlin = ByteIn.start ∧ s.rail.state ≠ .faulted) ∨
      (c = .acknowledgementWindow ∧ ∃ o rest w, s.rail.inFlight = o :: rest ∧ s.rail.window = some w ∧
        w + (if o.cmd = .unpark then 50000 else 1000) ≤ s.localTime)) →
    let now := s.localTime
    let gapOut := fun (p : Pedal) =>
      (s.replay[p]).lastSent.all fun us => decide (us + (s.tables.pedal[p]).rateGap * 1000 ≤ s.localTime)
    let flagged : State := { s with sticky := { s.sticky with railFault := true } }
    let reporting := match s.run with
      | none => flagged
      | some r => addReport (.calibration { note := r.current.val + 1, kind := r.kind, aborted := true }) flagged
    let left := fun (d : DriveContext) =>
      if d.restarting = true then DriveContext.clear
      else if inPerformance s = true then { d with trimEligible := false }
      else d
    ∃ t, exec c s = .next t ∧ t.rail.state = .faulted ∧ t.sticky.railFault = true ∧ t.rail.inFlight = [] ∧
      t.rail.window = none ∧ (∀ r ∈ t.rail.waiting, ∃ k channel, r.cmd = .release k channel) ∧
      t.rail.mask = s.rail.mask ∧ t.rail.powerOff = s.rail.powerOff ∧ t.rail.seq = s.rail.seq ∧
      t.rail.passQueue = s.rail.passQueue ∧ t.rail.replies = s.rail.replies ∧
      t.rail.tx = s.rail.tx.map (fun x => { x with live := false }) ∧
      t.rail.parkTimer =
        (if (s.rail.waiting.any fun r => decide (r.cmd = .park)) = true then
          some (now + if s.tables.config.park = 0 then 1200000000 else s.tables.config.park * 5000000)
        else s.rail.parkTimer) ∧
      t.clock =
        (if inPerformance s = true then
          { s.clock with part := .faulted, cause := .railFault, linkLoss := none }
        else s.clock) ∧
      t.queue =
        (if inPerformance s = true then
          ⟨[], s.queue.intake.map fun r => { r with isOpen := false }, s.queue.nextOrder,
            (s.queue.actions.filter isStrike).length⟩
        else s.queue) ∧
      t.captureFifo = s.captureFifo ++
        (if inPerformance s = true then
          ((List.finRange 88).filter fun k => (s.capture[k]).announced).map fun k => .noteOff k s.clock.pt .fault
        else []) ∧
      (inPerformance s = true → ∀ k : Key, t.capture[k] = { s.capture[k] with announced := false }) ∧
      t.reports = reporting.reports ∧ t.sticky = reporting.sticky ∧
      (s.run = none → t.rail.waiting = [] ∧ (∀ k : Key, t.drive[k] = left s.drive[k]) ∧
        (inPerformance s = false → t.capture = s.capture)) ∧
      (∀ r, s.run = some r →
        let k := r.current
        let d := s.drive[k]
        let probing := r.phase = .probing ∧ r.taken = true ∧ d.state = .pushing ∧ d.restarting = false
        (∀ j : Key, j ≠ k → t.drive[j] = left s.drive[j] ∧ t.capture[j] = s.capture[j]) ∧
        (¬probing → t.rail.waiting = [] ∧ t.drive[k] = left d ∧ t.capture[k] = s.capture[k]) ∧
        (probing → d.stage = .waiting →
          t.rail.waiting = [] ∧ t.drive[k] = DriveContext.clear ∧ t.capture[k] = CaptureContext.clear) ∧
        ∀ channel level, probing → d.stage = .sent → d.job = some (.probe channel level) →
          t.rail.waiting = [⟨.release k channel, now⟩] ∧ t.capture[k] = s.capture[k] ∧
          t.drive[k] =
            { d with
              state := .releasing, rearmed := false, pushTimer := none
              measuring := d.measuring && !d.notMeasured
              gateTimer := if d.measuring = true ∧ d.notMeasured = true then none else d.gateTimer }) ∧
      (∀ p : Pedal, t.replay[p] =
        match (s.replay[p]).state with
        | .requested => { s.replay[p] with state := if gapOut p = true then .ready else .spacing }
        | .waiting => { s.replay[p] with state := .spacing, waiting := none }
        | .ready => s.replay[p]
        | .spacing => s.replay[p]) ∧
      t.run = none ∧ t.tables = s.tables ∧ t.sensor = s.sensor ∧ t.link = s.link ∧ t.pedals = s.pedals ∧
      t.keyGap = s.keyGap ∧ t.tableRead = s.tableRead ∧ t.localTime = now) ∧
  ∀ s : State,
    (∀ bytes, ∃ place, exec (.railBadFrame bytes) s = .next { s with rlin := place }) ∧
    (s.rail.state = .faulted → s.rlin = ByteIn.start →
      (∀ kind tag p, exec (.railUnexpectedFrame kind tag p) s = .next s) ∧
      (s.rail.inFlight = [] → ∀ tag p, ∃ t, exec (.ack tag p) s = .next t ∧ AfterService s t)) ∧
    (s.rail.inFlight = [] ∨ s.rail.window = none → exec .acknowledgementWindow s = .next s) ∧
    ∀ o rest w, s.rail.inFlight = o :: rest → s.rail.window = some w →
      s.localTime < w + (if o.cmd = .unpark then 50000 else 1000) → exec .acknowledgementWindow s = .next s

/-- The end of a frame on RLOUT (R143, R145, R146): at 12 Mbit/s, ten bit times a byte (R140), taken at the first whole
µs not before its last stop bit (moments on the line are counted in twelfths of a µs; log entry 5), the transmitter
becomes idle, the newest entry of the list has been transmitted in full, and the window of an entry that is then the
oldest and has none starts; a frame whose command a fault cleared ends alone. The next command is taken, its frame
beginning where the last one ended (`railServiceAt` of `RailCommandsAreSent`); on an idle transmitter one that may go is
taken (log entry 4). The park timer (R149): on its expiry in Active with the park conditions Park is requested and the
timer stands still, else it is reloaded. Neither acts before its time (log entries 1, 9). -/
def Obligations.RailTimersExpire : Prop :=
  ∀ s : State,
    (s.rail.tx = none → exec .railTransmitEnd s = .next (railService s)) ∧
    (∀ x, s.rail.tx = some x →
      let ends := x.start + (7 + x.frame.payload.length) * 10
      let elapsed := ends ≤ 12 * s.localTime
      let sent := s.rail.inFlight.modify (s.rail.inFlight.length - 1) fun o => { o with transmitted := true }
      (¬elapsed → exec .railTransmitEnd s = .next s) ∧
      (elapsed → x.live = false →
        exec .railTransmitEnd s = .next (railServiceAt ends { s with rail := { s.rail with tx := none } })) ∧
      (elapsed → x.live = true →
        exec .railTransmitEnd s =
          .next (railServiceAt ends
            { s with
              rail :=
                { s.rail with
                  tx := none
                  inFlight := sent
                  window :=
                    match s.rail.window, sent with
                    | some w, _ => some w
                    | none, [] => none
                    | none, o :: _ => if o.transmitted = true then some s.localTime else none } }))) ∧
    (s.rail.parkTimer = none ∨ (∃ d, s.rail.parkTimer = some d ∧ s.localTime < d) → exec .parkTimer s = .next s) ∧
    ∀ d, s.rail.parkTimer = some d → d ≤ s.localTime →
      let mayPark := s.rail.state = .active ∧ (∀ k : Key, (s.drive[k]).state = .idle) ∧
        (∀ p : Pedal, (s.replay[p]).commanded = 0) ∧ s.run = none ∧
        ∀ r ∈ s.rail.waiting, (∀ k c l, r.cmd ≠ .push k c l) ∧ (∀ k c l, r.cmd ≠ .hold k c l) ∧
          ∀ p, r.cmd ≠ .pedalSet p
      (mayPark →
        ∃ t, exec .parkTimer s = .next t ∧
          AfterService
            { s with
              rail :=
                { s.rail with
                  parkTimer := none
                  waiting := s.rail.waiting ++ [⟨.park, s.localTime⟩] } } t) ∧
      (¬mayPark →
        ∃ t, exec .parkTimer s = .next t ∧
          AfterService
            { s with
              rail :=
                { s.rail with
                  parkTimer :=
                    some (s.localTime +
                      if s.tables.config.park = 0 then 1200000000 else s.tables.config.park * 5000000) } } t)
end

