-- ==== Sys2Proof/Laws/State.lean ====
section
/-! SUPPORT. The small lemmas of the state updates: for each named update, what each field of the state is after it. -/

namespace Sys2Proof.Machine

/-! ## setDrive -/

@[simp] theorem setDrive_pending (k : Key) (c : DriveContext) (s : State) : (setDrive k c s).pending = s.pending := rfl
@[simp] theorem setDrive_tieBreak (k : Key) (c : DriveContext) (s : State) : (setDrive k c s).tieBreak = s.tieBreak := rfl
@[simp] theorem setDrive_localTime (k : Key) (c : DriveContext) (s : State) : (setDrive k c s).localTime = s.localTime := rfl
@[simp] theorem setDrive_rateSel (k : Key) (c : DriveContext) (s : State) : (setDrive k c s).rateSel = s.rateSel := rfl
@[simp] theorem setDrive_roleSel (k : Key) (c : DriveContext) (s : State) : (setDrive k c s).roleSel = s.roleSel := rfl
@[simp] theorem setDrive_clock (k : Key) (c : DriveContext) (s : State) : (setDrive k c s).clock = s.clock := rfl
@[simp] theorem setDrive_tables (k : Key) (c : DriveContext) (s : State) : (setDrive k c s).tables = s.tables := rfl
@[simp] theorem setDrive_tableRead (k : Key) (c : DriveContext) (s : State) : (setDrive k c s).tableRead = s.tableRead := rfl
@[simp] theorem setDrive_queue (k : Key) (c : DriveContext) (s : State) : (setDrive k c s).queue = s.queue := rfl
@[simp] theorem setDrive_reports (k : Key) (c : DriveContext) (s : State) : (setDrive k c s).reports = s.reports := rfl
@[simp] theorem setDrive_replay (k : Key) (c : DriveContext) (s : State) : (setDrive k c s).replay = s.replay := rfl
@[simp] theorem setDrive_pedals (k : Key) (c : DriveContext) (s : State) : (setDrive k c s).pedals = s.pedals := rfl
@[simp] theorem setDrive_sensor (k : Key) (c : DriveContext) (s : State) : (setDrive k c s).sensor = s.sensor := rfl
@[simp] theorem setDrive_snin (k : Key) (c : DriveContext) (s : State) : (setDrive k c s).snin = s.snin := rfl
@[simp] theorem setDrive_capture (k : Key) (c : DriveContext) (s : State) : (setDrive k c s).capture = s.capture := rfl
@[simp] theorem setDrive_captureFifo (k : Key) (c : DriveContext) (s : State) : (setDrive k c s).captureFifo = s.captureFifo := rfl
@[simp] theorem setDrive_keyGap (k : Key) (c : DriveContext) (s : State) : (setDrive k c s).keyGap = s.keyGap := rfl
@[simp] theorem setDrive_rail (k : Key) (c : DriveContext) (s : State) : (setDrive k c s).rail = s.rail := rfl
@[simp] theorem setDrive_rlin (k : Key) (c : DriveContext) (s : State) : (setDrive k c s).rlin = s.rlin := rfl
@[simp] theorem setDrive_run (k : Key) (c : DriveContext) (s : State) : (setDrive k c s).run = s.run := rfl
@[simp] theorem setDrive_link (k : Key) (c : DriveContext) (s : State) : (setDrive k c s).link = s.link := rfl
@[simp] theorem setDrive_sticky (k : Key) (c : DriveContext) (s : State) : (setDrive k c s).sticky = s.sticky := rfl
@[simp] theorem setDrive_drive (k : Key) (c : DriveContext) (s : State) : (setDrive k c s).drive = s.drive.set k.val c k.isLt := rfl
theorem setDrive_get (k : Key) (c : DriveContext) (s : State) (j : Key) :
    (setDrive k c s).drive[j] = if j = k then c else s.drive[j] := by
  simp only [setDrive, Fin.getElem_fin, Vector.getElem_set, Fin.ext_iff, eq_comm]

/-! ## setCapture -/

@[simp] theorem setCapture_pending (k : Key) (c : CaptureContext) (s : State) : (setCapture k c s).pending = s.pending := rfl
@[simp] theorem setCapture_tieBreak (k : Key) (c : CaptureContext) (s : State) : (setCapture k c s).tieBreak = s.tieBreak := rfl
@[simp] theorem setCapture_localTime (k : Key) (c : CaptureContext) (s : State) : (setCapture k c s).localTime = s.localTime := rfl
@[simp] theorem setCapture_rateSel (k : Key) (c : CaptureContext) (s : State) : (setCapture k c s).rateSel = s.rateSel := rfl
@[simp] theorem setCapture_roleSel (k : Key) (c : CaptureContext) (s : State) : (setCapture k c s).roleSel = s.roleSel := rfl
@[simp] theorem setCapture_clock (k : Key) (c : CaptureContext) (s : State) : (setCapture k c s).clock = s.clock := rfl
@[simp] theorem setCapture_tables (k : Key) (c : CaptureContext) (s : State) : (setCapture k c s).tables = s.tables := rfl
@[simp] theorem setCapture_tableRead (k : Key) (c : CaptureContext) (s : State) : (setCapture k c s).tableRead = s.tableRead := rfl
@[simp] theorem setCapture_queue (k : Key) (c : CaptureContext) (s : State) : (setCapture k c s).queue = s.queue := rfl
@[simp] theorem setCapture_drive (k : Key) (c : CaptureContext) (s : State) : (setCapture k c s).drive = s.drive := rfl
@[simp] theorem setCapture_reports (k : Key) (c : CaptureContext) (s : State) : (setCapture k c s).reports = s.reports := rfl
@[simp] theorem setCapture_replay (k : Key) (c : CaptureContext) (s : State) : (setCapture k c s).replay = s.replay := rfl
@[simp] theorem setCapture_pedals (k : Key) (c : CaptureContext) (s : State) : (setCapture k c s).pedals = s.pedals := rfl
@[simp] theorem setCapture_sensor (k : Key) (c : CaptureContext) (s : State) : (setCapture k c s).sensor = s.sensor := rfl
@[simp] theorem setCapture_snin (k : Key) (c : CaptureContext) (s : State) : (setCapture k c s).snin = s.snin := rfl
@[simp] theorem setCapture_captureFifo (k : Key) (c : CaptureContext) (s : State) : (setCapture k c s).captureFifo = s.captureFifo := rfl
@[simp] theorem setCapture_keyGap (k : Key) (c : CaptureContext) (s : State) : (setCapture k c s).keyGap = s.keyGap := rfl
@[simp] theorem setCapture_rail (k : Key) (c : CaptureContext) (s : State) : (setCapture k c s).rail = s.rail := rfl
@[simp] theorem setCapture_rlin (k : Key) (c : CaptureContext) (s : State) : (setCapture k c s).rlin = s.rlin := rfl
@[simp] theorem setCapture_run (k : Key) (c : CaptureContext) (s : State) : (setCapture k c s).run = s.run := rfl
@[simp] theorem setCapture_link (k : Key) (c : CaptureContext) (s : State) : (setCapture k c s).link = s.link := rfl
@[simp] theorem setCapture_sticky (k : Key) (c : CaptureContext) (s : State) : (setCapture k c s).sticky = s.sticky := rfl
@[simp] theorem setCapture_capture (k : Key) (c : CaptureContext) (s : State) : (setCapture k c s).capture = s.capture.set k.val c k.isLt := rfl
theorem setCapture_get (k : Key) (c : CaptureContext) (s : State) (j : Key) :
    (setCapture k c s).capture[j] = if j = k then c else s.capture[j] := by
  simp only [setCapture, Fin.getElem_fin, Vector.getElem_set, Fin.ext_iff, eq_comm]

/-! ## setReplay -/

@[simp] theorem setReplay_pending (k : Pedal) (c : PedalReplay) (s : State) : (setReplay k c s).pending = s.pending := rfl
@[simp] theorem setReplay_tieBreak (k : Pedal) (c : PedalReplay) (s : State) : (setReplay k c s).tieBreak = s.tieBreak := rfl
@[simp] theorem setReplay_localTime (k : Pedal) (c : PedalReplay) (s : State) : (setReplay k c s).localTime = s.localTime := rfl
@[simp] theorem setReplay_rateSel (k : Pedal) (c : PedalReplay) (s : State) : (setReplay k c s).rateSel = s.rateSel := rfl
@[simp] theorem setReplay_roleSel (k : Pedal) (c : PedalReplay) (s : State) : (setReplay k c s).roleSel = s.roleSel := rfl
@[simp] theorem setReplay_clock (k : Pedal) (c : PedalReplay) (s : State) : (setReplay k c s).clock = s.clock := rfl
@[simp] theorem setReplay_tables (k : Pedal) (c : PedalReplay) (s : State) : (setReplay k c s).tables = s.tables := rfl
@[simp] theorem setReplay_tableRead (k : Pedal) (c : PedalReplay) (s : State) : (setReplay k c s).tableRead = s.tableRead := rfl
@[simp] theorem setReplay_queue (k : Pedal) (c : PedalReplay) (s : State) : (setReplay k c s).queue = s.queue := rfl
@[simp] theorem setReplay_drive (k : Pedal) (c : PedalReplay) (s : State) : (setReplay k c s).drive = s.drive := rfl
@[simp] theorem setReplay_reports (k : Pedal) (c : PedalReplay) (s : State) : (setReplay k c s).reports = s.reports := rfl
@[simp] theorem setReplay_pedals (k : Pedal) (c : PedalReplay) (s : State) : (setReplay k c s).pedals = s.pedals := rfl
@[simp] theorem setReplay_sensor (k : Pedal) (c : PedalReplay) (s : State) : (setReplay k c s).sensor = s.sensor := rfl
@[simp] theorem setReplay_snin (k : Pedal) (c : PedalReplay) (s : State) : (setReplay k c s).snin = s.snin := rfl
@[simp] theorem setReplay_capture (k : Pedal) (c : PedalReplay) (s : State) : (setReplay k c s).capture = s.capture := rfl
@[simp] theorem setReplay_captureFifo (k : Pedal) (c : PedalReplay) (s : State) : (setReplay k c s).captureFifo = s.captureFifo := rfl
@[simp] theorem setReplay_keyGap (k : Pedal) (c : PedalReplay) (s : State) : (setReplay k c s).keyGap = s.keyGap := rfl
@[simp] theorem setReplay_rail (k : Pedal) (c : PedalReplay) (s : State) : (setReplay k c s).rail = s.rail := rfl
@[simp] theorem setReplay_rlin (k : Pedal) (c : PedalReplay) (s : State) : (setReplay k c s).rlin = s.rlin := rfl
@[simp] theorem setReplay_run (k : Pedal) (c : PedalReplay) (s : State) : (setReplay k c s).run = s.run := rfl
@[simp] theorem setReplay_link (k : Pedal) (c : PedalReplay) (s : State) : (setReplay k c s).link = s.link := rfl
@[simp] theorem setReplay_sticky (k : Pedal) (c : PedalReplay) (s : State) : (setReplay k c s).sticky = s.sticky := rfl
@[simp] theorem setReplay_replay (k : Pedal) (c : PedalReplay) (s : State) : (setReplay k c s).replay = s.replay.set k.val c k.isLt := rfl
theorem setReplay_get (k : Pedal) (c : PedalReplay) (s : State) (j : Pedal) :
    (setReplay k c s).replay[j] = if j = k then c else s.replay[j] := by
  simp only [setReplay, Fin.getElem_fin, Vector.getElem_set, Fin.ext_iff, eq_comm]

/-! ## setPedal -/

@[simp] theorem setPedal_pending (k : Pedal) (c : PedalCapture) (s : State) : (setPedal k c s).pending = s.pending := rfl
@[simp] theorem setPedal_tieBreak (k : Pedal) (c : PedalCapture) (s : State) : (setPedal k c s).tieBreak = s.tieBreak := rfl
@[simp] theorem setPedal_localTime (k : Pedal) (c : PedalCapture) (s : State) : (setPedal k c s).localTime = s.localTime := rfl
@[simp] theorem setPedal_rateSel (k : Pedal) (c : PedalCapture) (s : State) : (setPedal k c s).rateSel = s.rateSel := rfl
@[simp] theorem setPedal_roleSel (k : Pedal) (c : PedalCapture) (s : State) : (setPedal k c s).roleSel = s.roleSel := rfl
@[simp] theorem setPedal_clock (k : Pedal) (c : PedalCapture) (s : State) : (setPedal k c s).clock = s.clock := rfl
@[simp] theorem setPedal_tables (k : Pedal) (c : PedalCapture) (s : State) : (setPedal k c s).tables = s.tables := rfl
@[simp] theorem setPedal_tableRead (k : Pedal) (c : PedalCapture) (s : State) : (setPedal k c s).tableRead = s.tableRead := rfl
@[simp] theorem setPedal_queue (k : Pedal) (c : PedalCapture) (s : State) : (setPedal k c s).queue = s.queue := rfl
@[simp] theorem setPedal_drive (k : Pedal) (c : PedalCapture) (s : State) : (setPedal k c s).drive = s.drive := rfl
@[simp] theorem setPedal_reports (k : Pedal) (c : PedalCapture) (s : State) : (setPedal k c s).reports = s.reports := rfl
@[simp] theorem setPedal_replay (k : Pedal) (c : PedalCapture) (s : State) : (setPedal k c s).replay = s.replay := rfl
@[simp] theorem setPedal_sensor (k : Pedal) (c : PedalCapture) (s : State) : (setPedal k c s).sensor = s.sensor := rfl
@[simp] theorem setPedal_snin (k : Pedal) (c : PedalCapture) (s : State) : (setPedal k c s).snin = s.snin := rfl
@[simp] theorem setPedal_capture (k : Pedal) (c : PedalCapture) (s : State) : (setPedal k c s).capture = s.capture := rfl
@[simp] theorem setPedal_captureFifo (k : Pedal) (c : PedalCapture) (s : State) : (setPedal k c s).captureFifo = s.captureFifo := rfl
@[simp] theorem setPedal_keyGap (k : Pedal) (c : PedalCapture) (s : State) : (setPedal k c s).keyGap = s.keyGap := rfl
@[simp] theorem setPedal_rail (k : Pedal) (c : PedalCapture) (s : State) : (setPedal k c s).rail = s.rail := rfl
@[simp] theorem setPedal_rlin (k : Pedal) (c : PedalCapture) (s : State) : (setPedal k c s).rlin = s.rlin := rfl
@[simp] theorem setPedal_run (k : Pedal) (c : PedalCapture) (s : State) : (setPedal k c s).run = s.run := rfl
@[simp] theorem setPedal_link (k : Pedal) (c : PedalCapture) (s : State) : (setPedal k c s).link = s.link := rfl
@[simp] theorem setPedal_sticky (k : Pedal) (c : PedalCapture) (s : State) : (setPedal k c s).sticky = s.sticky := rfl
@[simp] theorem setPedal_pedals (k : Pedal) (c : PedalCapture) (s : State) : (setPedal k c s).pedals = s.pedals.set k.val c k.isLt := rfl
theorem setPedal_get (k : Pedal) (c : PedalCapture) (s : State) (j : Pedal) :
    (setPedal k c s).pedals[j] = if j = k then c else s.pedals[j] := by
  simp only [setPedal, Fin.getElem_fin, Vector.getElem_set, Fin.ext_iff, eq_comm]

/-! ## setCal -/

@[simp] theorem setCal_pending (k : Key) (c : CalRecord) (s : State) : (setCal k c s).pending = s.pending := rfl
@[simp] theorem setCal_tieBreak (k : Key) (c : CalRecord) (s : State) : (setCal k c s).tieBreak = s.tieBreak := rfl
@[simp] theorem setCal_localTime (k : Key) (c : CalRecord) (s : State) : (setCal k c s).localTime = s.localTime := rfl
@[simp] theorem setCal_rateSel (k : Key) (c : CalRecord) (s : State) : (setCal k c s).rateSel = s.rateSel := rfl
@[simp] theorem setCal_roleSel (k : Key) (c : CalRecord) (s : State) : (setCal k c s).roleSel = s.roleSel := rfl
@[simp] theorem setCal_clock (k : Key) (c : CalRecord) (s : State) : (setCal k c s).clock = s.clock := rfl
@[simp] theorem setCal_tableRead (k : Key) (c : CalRecord) (s : State) : (setCal k c s).tableRead = s.tableRead := rfl
@[simp] theorem setCal_queue (k : Key) (c : CalRecord) (s : State) : (setCal k c s).queue = s.queue := rfl
@[simp] theorem setCal_drive (k : Key) (c : CalRecord) (s : State) : (setCal k c s).drive = s.drive := rfl
@[simp] theorem setCal_reports (k : Key) (c : CalRecord) (s : State) : (setCal k c s).reports = s.reports := rfl
@[simp] theorem setCal_replay (k : Key) (c : CalRecord) (s : State) : (setCal k c s).replay = s.replay := rfl
@[simp] theorem setCal_pedals (k : Key) (c : CalRecord) (s : State) : (setCal k c s).pedals = s.pedals := rfl
@[simp] theorem setCal_sensor (k : Key) (c : CalRecord) (s : State) : (setCal k c s).sensor = s.sensor := rfl
@[simp] theorem setCal_snin (k : Key) (c : CalRecord) (s : State) : (setCal k c s).snin = s.snin := rfl
@[simp] theorem setCal_capture (k : Key) (c : CalRecord) (s : State) : (setCal k c s).capture = s.capture := rfl
@[simp] theorem setCal_captureFifo (k : Key) (c : CalRecord) (s : State) : (setCal k c s).captureFifo = s.captureFifo := rfl
@[simp] theorem setCal_keyGap (k : Key) (c : CalRecord) (s : State) : (setCal k c s).keyGap = s.keyGap := rfl
@[simp] theorem setCal_rail (k : Key) (c : CalRecord) (s : State) : (setCal k c s).rail = s.rail := rfl
@[simp] theorem setCal_rlin (k : Key) (c : CalRecord) (s : State) : (setCal k c s).rlin = s.rlin := rfl
@[simp] theorem setCal_run (k : Key) (c : CalRecord) (s : State) : (setCal k c s).run = s.run := rfl
@[simp] theorem setCal_link (k : Key) (c : CalRecord) (s : State) : (setCal k c s).link = s.link := rfl
@[simp] theorem setCal_sticky (k : Key) (c : CalRecord) (s : State) : (setCal k c s).sticky = s.sticky := rfl

/-! ## setIntake -/

@[simp] theorem setIntake_pending (k : Key) (c : IntakeRecord) (s : State) : (setIntake k c s).pending = s.pending := rfl
@[simp] theorem setIntake_tieBreak (k : Key) (c : IntakeRecord) (s : State) : (setIntake k c s).tieBreak = s.tieBreak := rfl
@[simp] theorem setIntake_localTime (k : Key) (c : IntakeRecord) (s : State) : (setIntake k c s).localTime = s.localTime := rfl
@[simp] theorem setIntake_rateSel (k : Key) (c : IntakeRecord) (s : State) : (setIntake k c s).rateSel = s.rateSel := rfl
@[simp] theorem setIntake_roleSel (k : Key) (c : IntakeRecord) (s : State) : (setIntake k c s).roleSel = s.roleSel := rfl
@[simp] theorem setIntake_clock (k : Key) (c : IntakeRecord) (s : State) : (setIntake k c s).clock = s.clock := rfl
@[simp] theorem setIntake_tables (k : Key) (c : IntakeRecord) (s : State) : (setIntake k c s).tables = s.tables := rfl
@[simp] theorem setIntake_tableRead (k : Key) (c : IntakeRecord) (s : State) : (setIntake k c s).tableRead = s.tableRead := rfl
@[simp] theorem setIntake_drive (k : Key) (c : IntakeRecord) (s : State) : (setIntake k c s).drive = s.drive := rfl
@[simp] theorem setIntake_reports (k : Key) (c : IntakeRecord) (s : State) : (setIntake k c s).reports = s.reports := rfl
@[simp] theorem setIntake_replay (k : Key) (c : IntakeRecord) (s : State) : (setIntake k c s).replay = s.replay := rfl
@[simp] theorem setIntake_pedals (k : Key) (c : IntakeRecord) (s : State) : (setIntake k c s).pedals = s.pedals := rfl
@[simp] theorem setIntake_sensor (k : Key) (c : IntakeRecord) (s : State) : (setIntake k c s).sensor = s.sensor := rfl
@[simp] theorem setIntake_snin (k : Key) (c : IntakeRecord) (s : State) : (setIntake k c s).snin = s.snin := rfl
@[simp] theorem setIntake_capture (k : Key) (c : IntakeRecord) (s : State) : (setIntake k c s).capture = s.capture := rfl
@[simp] theorem setIntake_captureFifo (k : Key) (c : IntakeRecord) (s : State) : (setIntake k c s).captureFifo = s.captureFifo := rfl
@[simp] theorem setIntake_keyGap (k : Key) (c : IntakeRecord) (s : State) : (setIntake k c s).keyGap = s.keyGap := rfl
@[simp] theorem setIntake_rail (k : Key) (c : IntakeRecord) (s : State) : (setIntake k c s).rail = s.rail := rfl
@[simp] theorem setIntake_rlin (k : Key) (c : IntakeRecord) (s : State) : (setIntake k c s).rlin = s.rlin := rfl
@[simp] theorem setIntake_run (k : Key) (c : IntakeRecord) (s : State) : (setIntake k c s).run = s.run := rfl
@[simp] theorem setIntake_link (k : Key) (c : IntakeRecord) (s : State) : (setIntake k c s).link = s.link := rfl
@[simp] theorem setIntake_sticky (k : Key) (c : IntakeRecord) (s : State) : (setIntake k c s).sticky = s.sticky := rfl

/-! ## queueEvent -/

@[simp] theorem queueEvent_pending (e : CaptureEvent) (s : State) : (queueEvent e s).pending = s.pending := rfl
@[simp] theorem queueEvent_tieBreak (e : CaptureEvent) (s : State) : (queueEvent e s).tieBreak = s.tieBreak := rfl
@[simp] theorem queueEvent_localTime (e : CaptureEvent) (s : State) : (queueEvent e s).localTime = s.localTime := rfl
@[simp] theorem queueEvent_rateSel (e : CaptureEvent) (s : State) : (queueEvent e s).rateSel = s.rateSel := rfl
@[simp] theorem queueEvent_roleSel (e : CaptureEvent) (s : State) : (queueEvent e s).roleSel = s.roleSel := rfl
@[simp] theorem queueEvent_clock (e : CaptureEvent) (s : State) : (queueEvent e s).clock = s.clock := rfl
@[simp] theorem queueEvent_tables (e : CaptureEvent) (s : State) : (queueEvent e s).tables = s.tables := rfl
@[simp] theorem queueEvent_tableRead (e : CaptureEvent) (s : State) : (queueEvent e s).tableRead = s.tableRead := rfl
@[simp] theorem queueEvent_queue (e : CaptureEvent) (s : State) : (queueEvent e s).queue = s.queue := rfl
@[simp] theorem queueEvent_drive (e : CaptureEvent) (s : State) : (queueEvent e s).drive = s.drive := rfl
@[simp] theorem queueEvent_reports (e : CaptureEvent) (s : State) : (queueEvent e s).reports = s.reports := rfl
@[simp] theorem queueEvent_replay (e : CaptureEvent) (s : State) : (queueEvent e s).replay = s.replay := rfl
@[simp] theorem queueEvent_pedals (e : CaptureEvent) (s : State) : (queueEvent e s).pedals = s.pedals := rfl
@[simp] theorem queueEvent_sensor (e : CaptureEvent) (s : State) : (queueEvent e s).sensor = s.sensor := rfl
@[simp] theorem queueEvent_snin (e : CaptureEvent) (s : State) : (queueEvent e s).snin = s.snin := rfl
@[simp] theorem queueEvent_capture (e : CaptureEvent) (s : State) : (queueEvent e s).capture = s.capture := rfl
@[simp] theorem queueEvent_keyGap (e : CaptureEvent) (s : State) : (queueEvent e s).keyGap = s.keyGap := rfl
@[simp] theorem queueEvent_rail (e : CaptureEvent) (s : State) : (queueEvent e s).rail = s.rail := rfl
@[simp] theorem queueEvent_rlin (e : CaptureEvent) (s : State) : (queueEvent e s).rlin = s.rlin := rfl
@[simp] theorem queueEvent_run (e : CaptureEvent) (s : State) : (queueEvent e s).run = s.run := rfl
@[simp] theorem queueEvent_link (e : CaptureEvent) (s : State) : (queueEvent e s).link = s.link := rfl
@[simp] theorem queueEvent_sticky (e : CaptureEvent) (s : State) : (queueEvent e s).sticky = s.sticky := rfl

/-! ## respond -/

@[simp] theorem respond_pending (r : Response) (s : State) : (respond r s).pending = s.pending := rfl
@[simp] theorem respond_tieBreak (r : Response) (s : State) : (respond r s).tieBreak = s.tieBreak := rfl
@[simp] theorem respond_localTime (r : Response) (s : State) : (respond r s).localTime = s.localTime := rfl
@[simp] theorem respond_rateSel (r : Response) (s : State) : (respond r s).rateSel = s.rateSel := rfl
@[simp] theorem respond_roleSel (r : Response) (s : State) : (respond r s).roleSel = s.roleSel := rfl
@[simp] theorem respond_clock (r : Response) (s : State) : (respond r s).clock = s.clock := rfl
@[simp] theorem respond_tables (r : Response) (s : State) : (respond r s).tables = s.tables := rfl
@[simp] theorem respond_tableRead (r : Response) (s : State) : (respond r s).tableRead = s.tableRead := rfl
@[simp] theorem respond_queue (r : Response) (s : State) : (respond r s).queue = s.queue := rfl
@[simp] theorem respond_drive (r : Response) (s : State) : (respond r s).drive = s.drive := rfl
@[simp] theorem respond_reports (r : Response) (s : State) : (respond r s).reports = s.reports := rfl
@[simp] theorem respond_replay (r : Response) (s : State) : (respond r s).replay = s.replay := rfl
@[simp] theorem respond_pedals (r : Response) (s : State) : (respond r s).pedals = s.pedals := rfl
@[simp] theorem respond_sensor (r : Response) (s : State) : (respond r s).sensor = s.sensor := rfl
@[simp] theorem respond_snin (r : Response) (s : State) : (respond r s).snin = s.snin := rfl
@[simp] theorem respond_capture (r : Response) (s : State) : (respond r s).capture = s.capture := rfl
@[simp] theorem respond_captureFifo (r : Response) (s : State) : (respond r s).captureFifo = s.captureFifo := rfl
@[simp] theorem respond_keyGap (r : Response) (s : State) : (respond r s).keyGap = s.keyGap := rfl
@[simp] theorem respond_rail (r : Response) (s : State) : (respond r s).rail = s.rail := rfl
@[simp] theorem respond_rlin (r : Response) (s : State) : (respond r s).rlin = s.rlin := rfl
@[simp] theorem respond_run (r : Response) (s : State) : (respond r s).run = s.run := rfl
@[simp] theorem respond_sticky (r : Response) (s : State) : (respond r s).sticky = s.sticky := rfl

/-! ## reloadPark -/

@[simp] theorem reloadPark_pending (s : State) : (reloadPark s).pending = s.pending := rfl
@[simp] theorem reloadPark_tieBreak (s : State) : (reloadPark s).tieBreak = s.tieBreak := rfl
@[simp] theorem reloadPark_localTime (s : State) : (reloadPark s).localTime = s.localTime := rfl
@[simp] theorem reloadPark_rateSel (s : State) : (reloadPark s).rateSel = s.rateSel := rfl
@[simp] theorem reloadPark_roleSel (s : State) : (reloadPark s).roleSel = s.roleSel := rfl
@[simp] theorem reloadPark_clock (s : State) : (reloadPark s).clock = s.clock := rfl
@[simp] theorem reloadPark_tables (s : State) : (reloadPark s).tables = s.tables := rfl
@[simp] theorem reloadPark_tableRead (s : State) : (reloadPark s).tableRead = s.tableRead := rfl
@[simp] theorem reloadPark_queue (s : State) : (reloadPark s).queue = s.queue := rfl
@[simp] theorem reloadPark_drive (s : State) : (reloadPark s).drive = s.drive := rfl
@[simp] theorem reloadPark_reports (s : State) : (reloadPark s).reports = s.reports := rfl
@[simp] theorem reloadPark_replay (s : State) : (reloadPark s).replay = s.replay := rfl
@[simp] theorem reloadPark_pedals (s : State) : (reloadPark s).pedals = s.pedals := rfl
@[simp] theorem reloadPark_sensor (s : State) : (reloadPark s).sensor = s.sensor := rfl
@[simp] theorem reloadPark_snin (s : State) : (reloadPark s).snin = s.snin := rfl
@[simp] theorem reloadPark_capture (s : State) : (reloadPark s).capture = s.capture := rfl
@[simp] theorem reloadPark_captureFifo (s : State) : (reloadPark s).captureFifo = s.captureFifo := rfl
@[simp] theorem reloadPark_keyGap (s : State) : (reloadPark s).keyGap = s.keyGap := rfl
@[simp] theorem reloadPark_rlin (s : State) : (reloadPark s).rlin = s.rlin := rfl
@[simp] theorem reloadPark_run (s : State) : (reloadPark s).run = s.run := rfl
@[simp] theorem reloadPark_link (s : State) : (reloadPark s).link = s.link := rfl
@[simp] theorem reloadPark_sticky (s : State) : (reloadPark s).sticky = s.sticky := rfl

/-! ## withdraw -/

@[simp] theorem withdraw_pending (p : RailCmd → Bool) (s : State) : (withdraw p s).pending = s.pending := rfl
@[simp] theorem withdraw_tieBreak (p : RailCmd → Bool) (s : State) : (withdraw p s).tieBreak = s.tieBreak := rfl
@[simp] theorem withdraw_localTime (p : RailCmd → Bool) (s : State) : (withdraw p s).localTime = s.localTime := rfl
@[simp] theorem withdraw_rateSel (p : RailCmd → Bool) (s : State) : (withdraw p s).rateSel = s.rateSel := rfl
@[simp] theorem withdraw_roleSel (p : RailCmd → Bool) (s : State) : (withdraw p s).roleSel = s.roleSel := rfl
@[simp] theorem withdraw_clock (p : RailCmd → Bool) (s : State) : (withdraw p s).clock = s.clock := rfl
@[simp] theorem withdraw_tables (p : RailCmd → Bool) (s : State) : (withdraw p s).tables = s.tables := rfl
@[simp] theorem withdraw_tableRead (p : RailCmd → Bool) (s : State) : (withdraw p s).tableRead = s.tableRead := rfl
@[simp] theorem withdraw_queue (p : RailCmd → Bool) (s : State) : (withdraw p s).queue = s.queue := rfl
@[simp] theorem withdraw_drive (p : RailCmd → Bool) (s : State) : (withdraw p s).drive = s.drive := rfl
@[simp] theorem withdraw_reports (p : RailCmd → Bool) (s : State) : (withdraw p s).reports = s.reports := rfl
@[simp] theorem withdraw_replay (p : RailCmd → Bool) (s : State) : (withdraw p s).replay = s.replay := rfl
@[simp] theorem withdraw_pedals (p : RailCmd → Bool) (s : State) : (withdraw p s).pedals = s.pedals := rfl
@[simp] theorem withdraw_sensor (p : RailCmd → Bool) (s : State) : (withdraw p s).sensor = s.sensor := rfl
@[simp] theorem withdraw_snin (p : RailCmd → Bool) (s : State) : (withdraw p s).snin = s.snin := rfl
@[simp] theorem withdraw_capture (p : RailCmd → Bool) (s : State) : (withdraw p s).capture = s.capture := rfl
@[simp] theorem withdraw_captureFifo (p : RailCmd → Bool) (s : State) : (withdraw p s).captureFifo = s.captureFifo := rfl
@[simp] theorem withdraw_keyGap (p : RailCmd → Bool) (s : State) : (withdraw p s).keyGap = s.keyGap := rfl
@[simp] theorem withdraw_rlin (p : RailCmd → Bool) (s : State) : (withdraw p s).rlin = s.rlin := rfl
@[simp] theorem withdraw_run (p : RailCmd → Bool) (s : State) : (withdraw p s).run = s.run := rfl
@[simp] theorem withdraw_link (p : RailCmd → Bool) (s : State) : (withdraw p s).link = s.link := rfl
@[simp] theorem withdraw_sticky (p : RailCmd → Bool) (s : State) : (withdraw p s).sticky = s.sticky := rfl

theorem setCal_cal (k : Key) (c : CalRecord) (s : State) :
    (setCal k c s).tables = { s.tables with cal := s.tables.cal.set k.val c k.isLt } := rfl

theorem setIntake_queue (k : Key) (c : IntakeRecord) (s : State) :
    (setIntake k c s).queue = { s.queue with intake := s.queue.intake.set k.val c k.isLt } := rfl

theorem queueEvent_captureFifo (e : CaptureEvent) (s : State) :
    (queueEvent e s).captureFifo = s.captureFifo ++ [e] := rfl

theorem respond_link (r : Response) (s : State) :
    (respond r s).link = { s.link with responses := s.link.responses ++ [r] } := rfl

theorem reloadPark_rail (s : State) :
    (reloadPark s).rail = { s.rail with parkTimer := some (s.localTime + parkLength s.tables.config.park) } := rfl

theorem withdraw_rail (p : RailCmd → Bool) (s : State) :
    (withdraw p s).rail = { s.rail with waiting := s.rail.waiting.filter fun r => !p r.cmd } := rfl

end Sys2Proof.Machine
end

