-- ==== Sys2Proof/Laws/Frame.lean ====
section
/-! SUPPORT. What the operations of the replay side leave alone: one lemma for each, over the fields that no drive, pedal,
rail or calibration operation writes, and one for the Action Queue. -/

namespace Sys2Proof.Machine

/-- The fields that the operations on the contexts, the reports, the captured events and the rail's lists leave alone. -/
structure Outer where
  pending : List Instr
  tieBreak : Nat
  localTime : Nat
  rateSel : StrapLevel
  roleSel : StrapLevel
  clock : Clock
  tables : Tables
  tableRead : Option TableRead
  pedals : Vector PedalCapture 3
  sensor : SensorLink
  snin : ByteIn
  keyGap : Bool
  rlin : ByteIn
  link : Link
  mask : BitVec 91
  powerOff : Bool
  replies : List (List Byte)

/-- Those fields of a state. -/
def outer (s : State) : Outer :=
  ⟨s.pending, s.tieBreak, s.localTime, s.rateSel, s.roleSel, s.clock, s.tables, s.tableRead, s.pedals, s.sensor, s.snin,
    s.keyGap, s.rlin, s.link, s.rail.mask, s.rail.powerOff, s.rail.replies⟩

/-- Agreement on those fields and on the queue, spelled out. -/
theorem outer_eq_iff (s t : State) :
    outer t = outer s ↔ SameBase s t ∧ t.clock = s.clock ∧ t.rail.mask = s.rail.mask ∧
      t.rail.powerOff = s.rail.powerOff ∧ t.rail.replies = s.rail.replies := by
  simp only [outer, Outer.mk.injEq, SameBase]
  tauto

/-! ## Shared operations (Ops) -/

@[simp] theorem addReport_outer (r : Report) (s : State) : outer (addReport r s) = outer s := by
  unfold addReport; split <;> rfl
@[simp] theorem addReport_queue (r : Report) (s : State) : (addReport r s).queue = s.queue := by
  unfold addReport; split <;> rfl
@[simp] theorem addReports_outer (rs : List Report) (s : State) : outer (addReports rs s) = outer s := by
  unfold addReports; induction rs generalizing s with
  | nil => rfl
  | cons r rs ih => simp [ih]
@[simp] theorem addReports_queue (rs : List Report) (s : State) : (addReports rs s).queue = s.queue := by
  unfold addReports; induction rs generalizing s with
  | nil => rfl
  | cons r rs ih => simp [ih]
@[simp] theorem setDrive_outer (k : Key) (c : DriveContext) (s : State) : outer (setDrive k c s) = outer s := rfl
@[simp] theorem setCapture_outer (k : Key) (c : CaptureContext) (s : State) : outer (setCapture k c s) = outer s := rfl
@[simp] theorem setReplay_outer (p : Pedal) (c : PedalReplay) (s : State) : outer (setReplay p c s) = outer s := rfl
@[simp] theorem queueEvent_outer (e : CaptureEvent) (s : State) : outer (queueEvent e s) = outer s := rfl
@[simp] theorem reloadPark_outer (s : State) : outer (reloadPark s) = outer s := rfl
@[simp] theorem withdraw_outer (p : RailCmd → Bool) (s : State) : outer (withdraw p s) = outer s := rfl
@[simp] theorem wake_outer (s : State) : outer (wake s) = outer s := by unfold wake; split <;> rfl
@[simp] theorem wake_queue (s : State) : (wake s).queue = s.queue := by unfold wake; split <;> rfl
@[simp] theorem requestRail_outer (c : RailCmd) (s : State) : outer (requestRail c s) = outer s := by
  unfold requestRail; split
  · rw [wake_outer]; rfl
  · rfl
@[simp] theorem requestRail_queue (c : RailCmd) (s : State) : (requestRail c s).queue = s.queue := by
  unfold requestRail; split
  · rw [wake_queue]
  · rfl
@[simp] theorem requestReleaseAll_outer (b c : Bool) (s : State) : outer (requestReleaseAll b c s) = outer s := by
  unfold requestReleaseAll; split <;> rfl
@[simp] theorem requestReleaseAll_queue (b c : Bool) (s : State) : (requestReleaseAll b c s).queue = s.queue := by
  unfold requestReleaseAll; split <;> rfl
@[simp] theorem releaseEverything_outer (c : Bool) (s : State) : outer (releaseEverything c s) = outer s := by
  unfold releaseEverything; split
  · rw [requestReleaseAll_outer]; rfl
  · rw [requestReleaseAll_outer]
@[simp] theorem releaseEverything_queue (c : Bool) (s : State) : (releaseEverything c s).queue = s.queue := by
  unfold releaseEverything; split <;> simp

/-! ## Capture notices -/

@[simp] theorem restNotice_outer (k : Key) (s : State) : outer (restNotice k s) = outer s := rfl
@[simp] theorem restNotice_queue (k : Key) (s : State) : (restNotice k s).queue = s.queue := rfl
@[simp] theorem driveNotice_outer (k : Key) (s : State) : outer (driveNotice k s) = outer s := by
  unfold driveNotice; split <;> rfl
@[simp] theorem driveNotice_queue (k : Key) (s : State) : (driveNotice k s).queue = s.queue := by
  unfold driveNotice; split <;> rfl
@[simp] theorem closeAnnounced_outer (c : ClosingCause) (s : State) : outer (closeAnnounced c s) = outer s := rfl
@[simp] theorem closeAnnounced_queue (c : ClosingCause) (s : State) : (closeAnnounced c s).queue = s.queue := rfl
@[simp] theorem captureLoss_outer (s : State) : outer (captureLoss s) = outer s := rfl
@[simp] theorem captureLoss_queue (s : State) : (captureLoss s).queue = s.queue := rfl

/-! ## Calibration steps of a drive context -/

@[simp] theorem beginSettle_outer (c : CalContext) (s : State) : outer (beginSettle c s) = outer s := rfl
@[simp] theorem beginSettle_queue (c : CalContext) (s : State) : (beginSettle c s).queue = s.queue := rfl
@[simp] theorem probeRecorded_outer (c : CalContext) (k : Key) (a : Bool) (v l : Nat) (s : State) :
    outer (probeRecorded c k a v l s) = outer s := by unfold probeRecorded; rw [addReport_outer]; rfl
@[simp] theorem probeRecorded_queue (c : CalContext) (k : Key) (a : Bool) (v l : Nat) (s : State) :
    (probeRecorded c k a v l s).queue = s.queue := by unfold probeRecorded; rw [addReport_queue]
@[simp] theorem probeOutcome_outer (k : Key) (d : DriveContext) (o : MeasOutcome) (s : State) :
    outer (probeOutcome k d o s) = outer s := by unfold probeOutcome; (repeat' split) <;> simp
@[simp] theorem probeOutcome_queue (k : Key) (d : DriveContext) (o : MeasOutcome) (s : State) :
    (probeOutcome k d o s).queue = s.queue := by unfold probeOutcome; (repeat' split) <;> simp
@[simp] theorem withRun_outer (r : Option CalContext) (s : State) : outer { s with run := r } = outer s := rfl
@[simp] theorem takeProbe_outer (c : CalContext) (s : State) : outer (takeProbe c s) = outer s := by
  simp only [takeProbe]; rw [withRun_outer]; simp
@[simp] theorem takeProbe_queue (c : CalContext) (s : State) : (takeProbe c s).queue = s.queue := by
  unfold takeProbe; simp
@[simp] theorem idleReport_outer (k : Key) (s : State) : outer (idleReport k s) = outer s := by
  unfold idleReport; (repeat' split) <;> simp
@[simp] theorem idleReport_queue (k : Key) (s : State) : (idleReport k s).queue = s.queue := by
  unfold idleReport; (repeat' split) <;> simp

/-! ## Measurement and Idle -/

theorem closeMeasurement_outer (k : Key) (o : MeasOutcome) (s : State) (h : ∀ a b t, o ≠ .arrived a b t) :
    outer (closeMeasurement k o s) = outer s := by
  unfold closeMeasurement strikeClosed
  cases o <;> simp_all
  all_goals split <;> simp
@[simp] theorem applyTrim_queue (d : DriveContext) (st : Strike) (l : Int) (s : State) :
    (applyTrim d st l s).queue = s.queue := by simp only [applyTrim]; split <;> simp
@[simp] theorem closeMeasurement_queue (k : Key) (o : MeasOutcome) (s : State) :
    (closeMeasurement k o s).queue = s.queue := by
  unfold closeMeasurement strikeClosed
  cases o <;> simp_all <;> split <;> simp
@[simp] theorem closeOpen_outer (k : Key) (s : State) : outer (closeOpen k s) = outer s := by
  unfold closeOpen; simp only; split
  · apply closeMeasurement_outer; split <;> simp
  · rfl
@[simp] theorem closeOpen_queue (k : Key) (s : State) : (closeOpen k s).queue = s.queue := by
  unfold closeOpen; simp only; split <;> simp
@[simp] theorem closeMarked_outer (k : Key) (s : State) : outer (closeMarked k s) = outer s := by
  unfold closeMarked; simp only; split
  · apply closeMeasurement_outer; simp
  · rfl
@[simp] theorem closeMarked_queue (k : Key) (s : State) : (closeMarked k s).queue = s.queue := by
  unfold closeMarked; simp only; split <;> simp
@[simp] theorem becomeIdle_outer (k : Key) (s : State) : outer (becomeIdle k s) = outer s := by simp [becomeIdle]
@[simp] theorem becomeIdle_queue (k : Key) (s : State) : (becomeIdle k s).queue = s.queue := by simp [becomeIdle]
@[simp] theorem comeToRest_outer (k : Key) (s : State) : outer (comeToRest k s) = outer s := by simp [comeToRest]
@[simp] theorem comeToRest_queue (k : Key) (s : State) : (comeToRest k s).queue = s.queue := by simp [comeToRest]

/-! ## Strikes and releases -/

@[simp] theorem takeStrike_outer (time : PT) (st : Strike) (s : State) : outer (takeStrike time st s) = outer s := by
  unfold takeStrike; simp only; split <;> simp
@[simp] theorem takeStrike_queue (time : PT) (st : Strike) (s : State) : (takeStrike time st s).queue = s.queue := by
  unfold takeStrike; simp only; split <;> simp
@[simp] theorem beginRelease_outer (k : Key) (s : State) : outer (beginRelease k s) = outer s := by
  unfold beginRelease; simp only; simp
@[simp] theorem beginRelease_queue (k : Key) (s : State) : (beginRelease k s).queue = s.queue := by
  unfold beginRelease; simp only; simp
@[simp] theorem endPush_outer (k : Key) (s : State) : outer (endPush k s) = outer s := by
  unfold endPush; simp only; split <;> simp
@[simp] theorem endPush_queue (k : Key) (s : State) : (endPush k s).queue = s.queue := by
  unfold endPush; simp only; split <;> simp
@[simp] theorem giveUpPush_outer (k : Key) (s : State) : outer (giveUpPush k s) = outer s := by
  unfold giveUpPush; simp only; split <;> simp
@[simp] theorem giveUpPush_queue (k : Key) (s : State) : (giveUpPush k s).queue = s.queue := by
  unfold giveUpPush; simp only; split <;> simp
@[simp] theorem releaseKey_outer (k : Key) (s : State) : outer (releaseKey k s) = outer s := by
  unfold releaseKey; simp only; (repeat' split) <;> simp
@[simp] theorem releaseKey_queue (k : Key) (s : State) : (releaseKey k s).queue = s.queue := by
  unfold releaseKey; simp only; (repeat' split) <;> simp

/-! ## Pedals -/

@[simp] theorem issuePosition_outer (p : Pedal) (n : Nat) (s : State) : outer (issuePosition p n s) = outer s := by
  unfold issuePosition; split <;> simp
@[simp] theorem issuePosition_queue (p : Pedal) (n : Nat) (s : State) : (issuePosition p n s).queue = s.queue := by
  unfold issuePosition; split <;> simp
@[simp] theorem pedalAction_outer (p : Pedal) (n : Nat) (s : State) : outer (pedalAction p n s) = outer s := by
  unfold pedalAction; split <;> simp
@[simp] theorem pedalAction_queue (p : Pedal) (n : Nat) (s : State) : (pedalAction p n s).queue = s.queue := by
  unfold pedalAction; split <;> simp
@[simp] theorem endGap_outer (p : Pedal) (s : State) : outer (endGap p s) = outer s := by
  unfold endGap; split <;> simp
@[simp] theorem endGap_queue (p : Pedal) (s : State) : (endGap p s).queue = s.queue := by
  unfold endGap; split <;> simp
@[simp] theorem endGapIfOver_outer (p : Pedal) (s : State) : outer (endGapIfOver p s) = outer s := by
  unfold endGapIfOver; split <;> simp
@[simp] theorem endGapIfOver_queue (p : Pedal) (s : State) : (endGapIfOver p s).queue = s.queue := by
  unfold endGapIfOver; split <;> simp
@[simp] theorem pedalToRest_outer (p : Pedal) (s : State) : outer (pedalToRest p s) = outer s := by
  unfold pedalToRest; (repeat' split) <;> simp
@[simp] theorem pedalToRest_queue (p : Pedal) (s : State) : (pedalToRest p s).queue = s.queue := by
  unfold pedalToRest; (repeat' split) <;> simp
@[simp] theorem pedalsToRest_outer (s : State) : outer (pedalsToRest s) = outer s := by
  simp [pedalsToRest, allPedals, List.finRange]
@[simp] theorem pedalsToRest_queue (s : State) : (pedalsToRest s).queue = s.queue := by
  simp [pedalsToRest, allPedals, List.finRange]
@[simp] theorem pedalFault_outer (p : Pedal) (s : State) : outer (pedalFault p s) = outer s := by
  unfold pedalFault; split <;> simp
@[simp] theorem pedalFault_queue (p : Pedal) (s : State) : (pedalFault p s).queue = s.queue := by
  unfold pedalFault; split <;> simp
@[simp] theorem pedalsFault_outer (s : State) : outer (pedalsFault s) = outer s := by
  simp [pedalsFault, allPedals, List.finRange]
@[simp] theorem pedalsFault_queue (s : State) : (pedalsFault s).queue = s.queue := by
  simp [pedalsFault, allPedals, List.finRange]

/-! ## The rail -/

@[simp] theorem transmit_outer (start : Nat) (c : RailCmd) (s : State) : outer (transmit start c s) = outer s := rfl
@[simp] theorem transmit_queue (start : Nat) (c : RailCmd) (s : State) : (transmit start c s).queue = s.queue := rfl
@[simp] theorem withDrive_outer (d : Vector DriveContext 88) (s : State) : outer { s with drive := d } = outer s := rfl
@[simp] theorem allIdle_outer (s : State) : outer (allIdle s) = outer s := by
  unfold allIdle; simp only; (repeat' split) <;> simp
@[simp] theorem allIdle_queue (s : State) : (allIdle s).queue = s.queue := by
  unfold allIdle; simp only; (repeat' split) <;> simp
@[simp] theorem releaseAllSent_outer (restart : Bool) (s : State) : outer (releaseAllSent restart s) = outer s := by
  unfold releaseAllSent; split <;> simp
@[simp] theorem releaseAllSent_queue (restart : Bool) (s : State) : (releaseAllSent restart s).queue = s.queue := by
  unfold releaseAllSent; split <;> simp
@[simp] theorem recordSending_outer (c : RailCmd) (s : State) : outer (recordSending c s) = outer s := by
  cases c <;> (try simp [recordSending]); all_goals rfl
@[simp] theorem recordSending_queue (c : RailCmd) (s : State) : (recordSending c s).queue = s.queue := by
  unfold recordSending; split <;> simp
@[simp] theorem sendCommand_outer (start : Nat) (c : RailCmd) (s : State) : outer (sendCommand start c s) = outer s := by
  simp [sendCommand]
@[simp] theorem sendCommand_queue (start : Nat) (c : RailCmd) (s : State) : (sendCommand start c s).queue = s.queue := by
  simp [sendCommand]
@[simp] theorem missAtIssue_outer (k : Key) (st : Strike) (s : State) : outer (missAtIssue k st s) = outer s := by
  simp [missAtIssue]
@[simp] theorem missAtIssue_queue (k : Key) (st : Strike) (s : State) : (missAtIssue k st s).queue = s.queue := by
  simp [missAtIssue]
@[simp] theorem markContextLate_outer (k : Key) (st : Strike) (s : State) :
    outer (markContextLate k st s) = outer s := by simp [markContextLate]
@[simp] theorem markContextLate_queue (k : Key) (st : Strike) (s : State) :
    (markContextLate k st s).queue = s.queue := by simp [markContextLate]

/-- The state a taking leads to. -/
def Taking.state : Taking → State
  | .sent s => s
  | .dropped s => s

@[simp] theorem takeCommand_outer (start : Nat) (c : RailCmd) (s : State) : outer (takeCommand start c s).state = outer s := by
  unfold takeCommand; repeat' split
  all_goals simp [Taking.state]
@[simp] theorem takeCommand_queue (start : Nat) (c : RailCmd) (s : State) : (takeCommand start c s).state.queue = s.queue := by
  unfold takeCommand; repeat' split
  all_goals simp [Taking.state]
@[simp] theorem takePassThrough_outer (start : Nat) (s : State) : outer (takePassThrough start s) = outer s := by
  unfold takePassThrough sendPassThrough; repeat' split
  all_goals (try rw [sendCommand_outer]); rfl
@[simp] theorem takePassThrough_queue (start : Nat) (s : State) : (takePassThrough start s).queue = s.queue := by
  unfold takePassThrough sendPassThrough; repeat' split
  all_goals simp

/-- The Rail Controller's taking of commands leaves the outer fields and the queue alone. -/
theorem railTake_frame (start n : Nat) (s : State) :
    outer (railTake start n s) = outer s ∧ (railTake start n s).queue = s.queue := by
  induction n generalizing s with
  | zero => exact ⟨rfl, rfl⟩
  | succ n ih =>
    unfold railTake
    split
    · cases hq : nextRequest s.rail with
      | none => simp
      | some q =>
        simp only
        have ho := takeCommand_outer start q.cmd { s with rail := { s.rail with waiting := s.rail.waiting.erase q } }
        have hq := takeCommand_queue start q.cmd { s with rail := { s.rail with waiting := s.rail.waiting.erase q } }
        split
        · next s' h => rw [h] at ho hq; exact ⟨ho, hq⟩
        · next s' h =>
          rw [h] at ho hq
          exact ⟨(ih s').1.trans ho, (ih s').2.trans hq⟩
    · simp
@[simp] theorem railServiceAt_outer (start : Nat) (s : State) : outer (railServiceAt start s) = outer s :=
  (railTake_frame _ _ s).1
@[simp] theorem railServiceAt_queue (start : Nat) (s : State) : (railServiceAt start s).queue = s.queue :=
  (railTake_frame _ _ s).2
@[simp] theorem railService_outer (s : State) : outer (railService s) = outer s := railServiceAt_outer _ s
@[simp] theorem railService_queue (s : State) : (railService s).queue = s.queue := railServiceAt_queue _ s

/-- With the transmitter busy, or nothing waiting, no command is taken. -/
theorem railServiceAt_quiet (start : Nat) (s : State) (h : RailQuiet s) : railServiceAt start s = s := by
  unfold railServiceAt railTake
  rcases h with h | ⟨hw, hp⟩
  · have : slotFree s.rail = false := by simp [slotFree, Option.isSome_iff_ne_none.mp h]
    simp [this]
  · split
    · simp [nextRequest, hw, takePassThrough, hp]
    · rfl

/-- What the Rail Controller's taking of commands can do, whenever its frame begins. -/
theorem railServiceAt_frame (start : Nat) (e : State) : ServiceFrame e (railServiceAt start e) := by
  have h := (outer_eq_iff e (railServiceAt start e)).mp (railServiceAt_outer start e)
  exact ⟨h.1, h.2.1, railServiceAt_queue start e, h.2.2.1, h.2.2.2.1, h.2.2.2.2, railServiceAt_quiet start e⟩

/-- The end of a command: what the Rail Controller's taking of commands can do. -/
theorem railService_after (e : State) : AfterService e (railService e) := ⟨rfl, railServiceAt_frame _ e⟩

end Sys2Proof.Machine
end

