-- ==== Sys2Proof/Laws/Exec.lean ====
section
/-! SUPPORT. What the wrappers of the commands do: the step on a command, delivery in Locked, a timer that is due, and the
end of a command by the Rail Controller's service. -/

namespace Sys2Proof.Machine

/-- A meaning that ends with the rail's service leads to a state that agrees with the one before the service. -/
theorem after_of_service {o : Out} {e s : State} (h : o = .next (railService s)) (he : s = e) :
    ∃ t, o = .next t ∧ AfterService e t :=
  ⟨railService s, h, he ▸ railService_after s⟩

/-- A deadline is due exactly when it runs and its moment is not later than now. -/
theorem timerDue_iff (now : Nat) (d : Option Nat) : timerDue now d = true ↔ ∃ x, d = some x ∧ x ≤ now := by
  cases d <;> simp [timerDue]

/-- A good frame met by a receiver Locked at a frame is acted on with the bad count 0 (R175, R178). -/
theorem deliver_atFrame {s : State} (f : Frame) (act : State → State) (h : AtFrame s) :
    deliver f act s = act (goodFrame s) := by simp [deliver, atFrame, h.1, h.2]

/-- A receiver that is not Locked at a frame takes the bytes of a good one as it stands (log entry 6). -/
theorem deliver_elsewhere {s : State} (f : Frame) (act : State → State) (h : ¬AtFrame s) :
    deliver f act s = feed (encodeFrame f) s := by
  unfold deliver
  rw [if_neg]
  simpa [atFrame] using h

/-- A good frame on SNIN met at the receiver's place is acted on (R120). -/
theorem sninFrame_atPlace {s : State} (f : Frame) (act : State → State) (h : s.snin = ByteIn.start) :
    sninFrame f act s = act s := if_pos h

/-- A good frame on RLIN met at the receiver's place is acted on (R141). -/
theorem rlinFrame_atPlace {s : State} (f : Frame) (act : State → State) (h : s.rlin = ByteIn.start) :
    rlinFrame f act s = act s := if_pos h

/-- A request that is taken is acted on. -/
theorem deliver_taken {s : State} (f : Frame) (act : State → State) (h : RequestTaken s) :
    deliver f (unlessFull act) s = act (goodFrame s) := by
  have hr : (goodFrame s).link.responses.length < 16 := h.2
  rw [deliver_atFrame f _ h.1, unlessFull, if_pos hr]

/-- An answer after the bad count was cleared. -/
theorem respond_goodFrame (r : Response) (s : State) : respond r (goodFrame s) = answered r s := rfl

/-- In Running and Held, performance events are taken. -/
theorem inPerformance_iff (s : State) :
    inPerformance s = true ↔ s.clock.part = .running ∨ s.clock.part = .held := by simp [inPerformance]

end Sys2Proof.Machine
end

