-- ==== Sys2Proof/Laws/Capture.lean ====
section
/-! SUPPORT. What the offers of the Capture Engine come to, one lemma for each: on the state with one capture context
written, when it is announced as the key was. -/

namespace Sys2Proof.Machine

@[simp] theorem setCapture_self (k : Key) (c : CaptureContext) (s : State) : (setCapture k c s).capture[k] = c := by
  simp

@[simp] theorem setCapture_capturing (k : Key) (c : CaptureContext) (s : State) :
    capturing (setCapture k c s) = capturing s := rfl

/-- Replacing an entry by one equal in a test keeps the number of entries that pass it. -/
theorem filter_set_length {α : Type} (p : α → Bool) (l : List α) (i : Nat) (a : α) (hi : i < l.length)
    (h : p l[i] = p a) : ((l.set i a).filter p).length = (l.filter p).length := by
  induction l generalizing i with
  | nil => simp at hi
  | cons b l ih =>
    cases i with
    | zero =>
      simp only [List.getElem_cons_zero] at h
      simp only [List.set_cons_zero, List.filter_cons, h]
      split <;> rfl
    | succ i =>
      simp only [List.getElem_cons_succ, List.length_cons, Nat.add_lt_add_iff_right] at h hi
      simp only [List.set_cons_succ, List.filter_cons]
      split <;> simp [ih i hi h]

/-- Writing a context announced as it was keeps the number of announced keys. -/
theorem announcedKeys_setCapture (k : Key) (c : CaptureContext) (s : State)
    (h : c.announced = (s.capture[k]).announced) : announcedKeys (setCapture k c s) = announcedKeys s := by
  unfold announcedKeys setCapture
  simp only [Vector.toList_set]
  exact filter_set_length CaptureContext.announced _ _ _ (by simp) (by simpa using h.symm)

theorem captureFits_setCapture (n : Nat) (k : Key) (c : CaptureContext) (s : State)
    (h : c.announced = (s.capture[k]).announced) :
    captureFits n (setCapture k c s) = decide (s.captureFifo.length + announcedKeys s + n ≤ 128) := by
  unfold captureFits
  rw [announcedKeys_setCapture k c s h]
  rfl

/-- The offer of a first-stroke event (R131, R132, R133): nothing while captured events are not queued; queued with its key
announced when two entries are free; else dropped. -/
theorem offerFirst_setCapture (k : Key) (c : CaptureContext) (event : Bool → Bool → CaptureEvent) (s : State)
    (h : c.announced = (s.capture[k]).announced) :
    offerFirst k event (setCapture k c s) =
      if capturing s = false then setCapture k c s
      else if s.captureFifo.length + announcedKeys s + 2 ≤ 128 then
        { setCapture k { c with announced := true } s with
          captureFifo := s.captureFifo ++ [event s.keyGap (decide (s.clock.part = .held))], keyGap := false }
      else { setCapture k c s with sticky := { s.sticky with captureOverrun := true }, keyGap := true } := by
  simp only [offerFirst, setCapture_capturing, captureFits_setCapture _ k c s h, setCapture_self, decide_eq_true_eq]
  cases capturing s <;> simp
  split
  · simp [queueEvent, setCapture]; rfl
  · simp [dropKeyEvent, setCapture]

/-- The offer of a Restrike Note-On (R132, R133, R134): only for an announced key, and it needs one free entry. -/
theorem offerRestrike_setCapture (k : Key) (c : CaptureContext) (event : Bool → Bool → CaptureEvent) (s : State)
    (h : c.announced = (s.capture[k]).announced) :
    offerRestrike k event (setCapture k c s) =
      if capturing s = false ∨ (s.capture[k]).announced = false then setCapture k c s
      else if s.captureFifo.length + announcedKeys s + 1 ≤ 128 then
        { setCapture k c s with
          captureFifo := s.captureFifo ++ [event s.keyGap (decide (s.clock.part = .held))], keyGap := false }
      else { setCapture k c s with sticky := { s.sticky with captureOverrun := true }, keyGap := true } := by
  simp only [offerRestrike, setCapture_capturing, captureFits_setCapture _ k c s h, setCapture_self, h]
  cases capturing s
  · simp
  cases (s.capture[k]).announced
  · simp
  by_cases hr : s.captureFifo.length + announcedKeys s + 1 ≤ 128
  · simp only [hr]
    simp [queueEvent, setCapture]; rfl
  · simp only [hr]
    simp [dropKeyEvent, setCapture]

/-- The offer of a Note-Off by a K1 up (R131, R132): queued for an announced key, which ends being announced. -/
theorem offerNoteOff_atRest (k : Key) (time : PT) (s : State) :
    offerNoteOff k time (setCapture k (atRest s.capture[k]) s) =
      if capturing s = true ∧ (s.capture[k]).announced = true then
        { setCapture k CaptureContext.clear s with captureFifo := s.captureFifo ++ [.noteOff k time .keyUp] }
      else setCapture k { CaptureContext.clear with announced := (s.capture[k]).announced } s := by
  simp only [offerNoteOff, setCapture_capturing, setCapture_self, atRest]
  by_cases hc : capturing s = true ∧ (s.capture[k]).announced = true
  · rw [if_pos (by simpa using hc), if_pos hc]
    simp [queueEvent, setCapture, CaptureContext.clear]
  · rw [if_neg (by simpa using hc), if_neg hc]

end Sys2Proof.Machine
end

