-- ==== Sys2Proof/Laws/Drive.lean ====
section
/-! SUPPORT. What the operations on one drive context come to, and what requests and reports leave of the contexts. -/

namespace Sys2Proof.Machine

@[simp] theorem setDrive_self (k : Key) (c : DriveContext) (s : State) : (setDrive k c s).drive[k] = c := by
  simp

@[simp] theorem setDrive_setDrive (k : Key) (c d : DriveContext) (s : State) :
    setDrive k d (setDrive k c s) = setDrive k d s := by simp [setDrive]

/-! ## What reports and requests leave alone -/

@[simp] theorem addReport_drive (r : Report) (s : State) : (addReport r s).drive = s.drive := by
  unfold addReport; split <;> rfl
@[simp] theorem addReport_run (r : Report) (s : State) : (addReport r s).run = s.run := by
  unfold addReport; split <;> rfl
@[simp] theorem addReport_capture (r : Report) (s : State) : (addReport r s).capture = s.capture := by
  unfold addReport; split <;> rfl
@[simp] theorem addReport_captureFifo (r : Report) (s : State) : (addReport r s).captureFifo = s.captureFifo := by
  unfold addReport; split <;> rfl
@[simp] theorem addReport_replay (r : Report) (s : State) : (addReport r s).replay = s.replay := by
  unfold addReport; split <;> rfl
@[simp] theorem addReport_rail (r : Report) (s : State) : (addReport r s).rail = s.rail := by
  unfold addReport; split <;> rfl

@[simp] theorem wake_drive (s : State) : (wake s).drive = s.drive := by unfold wake; split <;> rfl
@[simp] theorem wake_run (s : State) : (wake s).run = s.run := by unfold wake; split <;> rfl
@[simp] theorem wake_capture (s : State) : (wake s).capture = s.capture := by unfold wake; split <;> rfl
@[simp] theorem wake_captureFifo (s : State) : (wake s).captureFifo = s.captureFifo := by unfold wake; split <;> rfl
@[simp] theorem wake_reports (s : State) : (wake s).reports = s.reports := by unfold wake; split <;> rfl
@[simp] theorem wake_replay (s : State) : (wake s).replay = s.replay := by unfold wake; split <;> rfl
@[simp] theorem wake_sticky (s : State) : (wake s).sticky = s.sticky := by unfold wake; split <;> rfl

@[simp] theorem requestRail_drive (c : RailCmd) (s : State) : (requestRail c s).drive = s.drive := by
  unfold requestRail; split <;> simp
@[simp] theorem requestRail_run (c : RailCmd) (s : State) : (requestRail c s).run = s.run := by
  unfold requestRail; split <;> simp
@[simp] theorem requestRail_capture (c : RailCmd) (s : State) : (requestRail c s).capture = s.capture := by
  unfold requestRail; split <;> simp
@[simp] theorem requestRail_captureFifo (c : RailCmd) (s : State) :
    (requestRail c s).captureFifo = s.captureFifo := by unfold requestRail; split <;> simp
@[simp] theorem requestRail_reports (c : RailCmd) (s : State) : (requestRail c s).reports = s.reports := by
  unfold requestRail; split <;> simp
@[simp] theorem requestRail_replay (c : RailCmd) (s : State) : (requestRail c s).replay = s.replay := by
  unfold requestRail; split <;> simp
@[simp] theorem requestRail_sticky (c : RailCmd) (s : State) : (requestRail c s).sticky = s.sticky := by
  unfold requestRail; split <;> simp

/-! ## One context -/

/-- A G1 taken by a context writes its stamp into an open measurement and nothing else (R94). -/
theorem recordG1_eq (k : Key) (stamp : Stamp) (s : State) :
    recordG1 k stamp s =
      setDrive k (if (s.drive[k]).measuring = true then { s.drive[k] with g1 := some stamp } else s.drive[k]) s := by
  unfold recordG1
  simp only
  split
  · rfl
  · simp [setDrive]

/-- A key that is not the current note of a run means nothing to the run when it comes to rest (R163). -/
theorem idleReport_other (k : Key) (s : State) (h : ∀ c, s.run = some c → c.current ≠ k) : idleReport k s = s := by
  unfold idleReport
  split
  · rfl
  · next c hc => rw [if_neg (h c hc)]

/-- A context that becomes Idle, of a key that is not the current note of a run: cleared, with its capture context at Rest
(R91, R125). -/
theorem becomeIdle_other (k : Key) (s : State) (h : ∀ c, s.run = some c → c.current ≠ k) :
    becomeIdle k s = setCapture k CaptureContext.clear (setDrive k DriveContext.clear s) :=
  idleReport_other k _ h

/-- No measurement that carries the NotMeasured mark is open: nothing closes (R96; log entry 12). -/
theorem closeMarked_unmarked (k : Key) (s : State)
    (h : (s.drive[k]).measuring = false ∨ (s.drive[k]).notMeasured = false) : closeMarked k s = s := by
  unfold closeMarked
  simp only
  rw [if_neg]
  rcases h with h | h <;> rw [h] <;> simp

/-- With no measurement open, nothing closes (R95). -/
theorem closeOpen_closed (k : Key) (s : State) (h : (s.drive[k]).measuring = false) : closeOpen k s = s := by
  unfold closeOpen
  simp only
  rw [h, if_neg Bool.false_ne_true]

/-- The drive notice: the key's capture context at Rest, an announced key closed with cause Drive (R124). -/
theorem driveNotice_eq (k : Key) (s : State) :
    driveNotice k s =
      { setCapture k CaptureContext.clear s with
        captureFifo :=
          if (s.capture[k]).announced = true then s.captureFifo ++ [.noteOff k s.clock.pt .drive]
          else s.captureFifo } := by
  unfold driveNotice
  split <;> rfl

end Sys2Proof.Machine
end

