-- ==== Sys2Proof/Laws/Queue.lean ====
section
/-! SUPPORT. What the operations of the Action Queue leave alone, and what a hand-over, a deferral and an entry into the
queue come to. -/

namespace Sys2Proof.Machine

/-! ## Frames -/

@[simp] theorem withQueue_outer (q : ActionQueue) (s : State) : outer { s with queue := q } = outer s := rfl
@[simp] theorem enqueue_outer (t : PT) (b : ActionBody) (s : State) : outer (enqueue t b s) = outer s := by
  unfold enqueue; simp only; rw [wake_outer]; rfl
@[simp] theorem deferStrike_outer (a : Action) (st : Strike) (own : Option PT) (s : State) :
    outer (deferStrike a st own s) = outer s := by
  unfold deferStrike
  simp only
  generalize (_ || _ : Bool) = b
  cases b
  · rfl
  · exact addReport_outer _ _
@[simp] theorem handOver_outer (a : Action) (s : State) : outer (handOver a s) = outer s := by
  unfold handOver; (repeat' split) <;> simp

/-- The hand-over of due actions leaves the outer fields alone (R75). -/
@[simp] theorem handOverDue_outer (n : Nat) (s : State) : outer (handOverDue n s) = outer s := by
  induction n generalizing s with
  | zero => rfl
  | succ n ih =>
    unfold handOverDue
    split
    · rfl
    · split
      · rw [ih, handOver_outer, withQueue_outer]
      · rfl
@[simp] theorem dueNow_outer (s : State) : outer (dueNow s) = outer s := handOverDue_outer _ s
@[simp] theorem admitKey_outer (k : Key) (c : Nat) (t : PT) (s : State) : outer (admitKey k c t s) = outer s := by
  unfold admitKey openKey setIntake implicitRelease
  rw [withQueue_outer]
  split <;> simp
@[simp] theorem refuseForRoom_outer (st : Strike) (m : Bool) (s : State) : outer (refuseForRoom st m s) = outer s := by
  unfold refuseForRoom; rw [addReport_outer]; rfl
@[simp] theorem admitStrike_outer (st : Strike) (j : Judgement) (t : PT) (s : State) :
    outer (admitStrike st j t s) = outer s := by
  unfold admitStrike; (repeat' split) <;> simp
@[simp] theorem takeTarget_outer (k : Key) (t : PT) (s : State) : outer (takeTarget k t s) = outer s := rfl
@[simp] theorem intakeStrike_outer (k : Key) (c : Nat) (f : NoteOnFields) (s : State) :
    outer (intakeStrike k c f s) = outer s := by unfold intakeStrike; split <;> simp
@[simp] theorem intakeNoteOn_outer (f : NoteOnFields) (s : State) : outer (intakeNoteOn f s) = outer s := by
  unfold intakeNoteOn; (repeat' split) <;> simp
@[simp] theorem closeKey_outer (k : Key) (c : Nat) (t : PT) (s : State) : outer (closeKey k c t s) = outer s := by
  unfold closeKey; simp only; rw [enqueue_outer]; rfl
@[simp] theorem intakeNoteOff_outer (n : Nat) (t : PT) (s : State) : outer (intakeNoteOff n t s) = outer s := by
  unfold intakeNoteOff; (repeat' split) <;> simp
@[simp] theorem intakePedal_outer (f : PedalTargetFields) (s : State) : outer (intakePedal f s) = outer s := by
  unfold intakePedal; (repeat' split) <;> first | rfl | simp

/-! ## Hand-over -/

/-- Nothing is handed over from an empty queue, outside Running, or while the head is not due (R75, R77). -/
theorem handOverDue_none (n : Nat) (s : State) (h : NoneDue s) : handOverDue n s = s := by
  cases n with
  | zero => rfl
  | succ n =>
    unfold handOverDue
    split
    · rfl
    · next a rest hq =>
      rw [if_neg]
      rintro ⟨hp, hd⟩
      have := h hp a (by simp [hq])
      rw [hd] at this
      cases this

theorem dueNow_none (s : State) (h : NoneDue s) : dueNow s = s := handOverDue_none _ s h

/-- What an action that enters the queue does (R72, R73, R74): it is numbered, placed by its time among the actions already
there, a Release becoming the own Release of its key's strikes, and the rail is woken. -/
theorem enqueue_queue (t : PT) (b : ActionBody) (s : State) :
    (enqueue t b s).queue =
      { s.queue with
        actions :=
          insertAction s.clock.pt ⟨t, s.queue.nextOrder, b⟩ (noteRelease ⟨t, s.queue.nextOrder, b⟩ s.queue.actions)
        nextOrder := s.queue.nextOrder + 1 } := by
  simp [enqueue]

/-- A queue grows by one entry at each insertion (R69). -/
@[simp] theorem insertAction_length (pt : PT) (a : Action) (as : List Action) :
    (insertAction pt a as).length = as.length + 1 := by
  induction as with
  | nil => rfl
  | cons b as ih => unfold insertAction; split <;> simp [ih]
@[simp] theorem giveRelease_time (k : Key) (t : PT) (a : Action) : (giveRelease k t a).time = a.time := by
  unfold giveRelease; (repeat' split) <;> rfl
@[simp] theorem noteRelease_length (a : Action) (as : List Action) : (noteRelease a as).length = as.length := by
  unfold noteRelease; split <;> simp

end Sys2Proof.Machine
end

