-- ==== Sys2Proof/Laws/Rail.lean ====
section
/-! SUPPORT. What one taking of a rail command comes to: the bound on the commands looked at plays no part, so that the taking
of commands goes on with the next command when one is dropped unsent (R143, R144). -/

namespace Sys2Proof.Machine

/-! ## The request taken next -/

theorem firstOf_mem (l : List Request) (b : Option Request) (q : Request) (h : l.foldl firstOf b = some q) :
    q ∈ l ∨ b = some q := by
  induction l generalizing b with
  | nil => exact Or.inr h
  | cons a l ih =>
    rcases ih _ h with h1 | h1
    · simp [h1]
    · unfold firstOf at h1
      (repeat' split at h1) <;> simp_all

/-- The request taken next waits (R143). -/
theorem nextRequest_mem {r : Rail} {q : Request} (h : nextRequest r = some q) : q ∈ r.waiting := by
  rcases firstOf_mem _ _ _ h with h | h
  · exact (List.mem_filter.mp h).1
  · cases h

/-! ## The commands looked at -/

/-- A bound on the commands that can still be dropped: those that wait, with the Push and the Unpark of a calibration probe
whose request has not been taken. -/
def takings (s : State) : Nat :=
  s.rail.waiting.length +
    (match s.run with
      | none => 0
      | some c => if c.phase = .probing ∧ c.taken = false then 2 else 0)

theorem takings_addReport (r : Report) (s : State) : takings (addReport r s) = takings s := by
  simp [takings]

theorem takings_idleReport (k : Key) (s : State) : takings (idleReport k s) ≤ takings s := by
  unfold idleReport
  split
  · exact le_rfl
  · next c hc =>
    split
    · cases hp : c.phase with
      | awaitingRest => simp [beginSettle, takings]
      | settling => exact le_rfl
      | probing =>
        cases ht : c.taken with
        | true => exact le_rfl
        | false =>
          simp only [takings, hc, hp, ht, takeProbe, requestRail, wakesRail, wake, driveNotice_eq, setDrive]
          simp only [if_true, Bool.false_eq_true, if_false]
          split <;> simp
    · exact le_rfl

theorem takings_becomeIdle (k : Key) (s : State) : takings (becomeIdle k s) ≤ takings s :=
  takings_idleReport k (restNotice k (setDrive k DriveContext.clear s))

/-- A command dropped unsent leaves no more to be looked at (R88, R149). -/
theorem takings_dropped {start : Nat} {c : RailCmd} {s s' : State} (h : takeCommand start c s = .dropped s') :
    takings s' ≤ takings s := by
  cases c with
  | push k channel level =>
    simp only [takeCommand] at h
    split at h
    · cases h
    · split at h
      · cases h
        exact (takings_becomeIdle k _).trans (takings_addReport _ s).le
      · cases h
  | park =>
    simp only [takeCommand] at h
    split at h <;> cases h
    simp [takings, reloadPark]
  | _ => simp [takeCommand] at h

/-- The bound on the commands looked at plays no part once it exceeds what can be dropped. -/
theorem railTake_bound (start : Nat) (n m : Nat) (s : State) (hn : takings s < n) (hm : takings s < m) :
    railTake start n s = railTake start m s := by
  induction n generalizing m s with
  | zero => omega
  | succ n ih =>
    cases m with
    | zero => omega
    | succ m =>
      simp only [railTake]
      split
      · cases hq : nextRequest s.rail with
        | none => rfl
        | some q =>
          simp only
          cases ht : takeCommand start q.cmd { s with rail := { s.rail with waiting := s.rail.waiting.erase q } } with
          | sent s' => rfl
          | dropped s' =>
            have hl := List.length_erase_of_mem (nextRequest_mem hq)
            have hp := List.length_pos_of_mem (nextRequest_mem hq)
            have hd : takings s' < takings s := by
              refine (takings_dropped ht).trans_lt ?_
              simp only [takings, hl]
              omega
            exact ih m s' (by omega) (by omega)
      · rfl

theorem takings_le (s : State) : takings s ≤ s.rail.waiting.length + 2 := by
  unfold takings
  split
  · omega
  · split <;> omega

/-- What the taking of commands comes to, with a slot free and a command to go: the command sent, or, when it is dropped
unsent, the taking of the next (R143, R144). -/
theorem railServiceAt_next {start : Nat} {s : State} {q : Request} (hf : slotFree s.rail = true)
    (hq : nextRequest s.rail = some q) :
    railServiceAt start s =
      match takeCommand start q.cmd { s with rail := { s.rail with waiting := s.rail.waiting.erase q } } with
      | .sent s' => s'
      | .dropped s' => railServiceAt start s' := by
  have look : ∀ n, railTake start (n + 1) s =
      match takeCommand start q.cmd { s with rail := { s.rail with waiting := s.rail.waiting.erase q } } with
      | .sent s' => s'
      | .dropped s' => railTake start n s' := fun n => by
    rw [railTake, if_pos hf]
    exact hq ▸ rfl
  rw [railServiceAt, look]
  cases ht : takeCommand start q.cmd { s with rail := { s.rail with waiting := s.rail.waiting.erase q } } with
  | sent s' => rfl
  | dropped s' =>
    have hp := List.length_pos_of_mem (nextRequest_mem hq)
    have hl := List.length_erase_of_mem (nextRequest_mem hq)
    have hd : takings s' ≤ (s.rail.waiting.erase q).length + 2 := (takings_dropped ht).trans (takings_le _)
    have hb := takings_le s'
    simp only [railServiceAt]
    by_cases hz : s'.rail.waiting.length = 0
    · -- Nothing waits any more: the first look ends the taking.
      have hn : nextRequest s'.rail = none := by
        simp [nextRequest, List.eq_nil_of_length_eq_zero hz]
      have ends : ∀ n, railTake start (n + 1) s' = if slotFree s'.rail then takePassThrough start s' else s' :=
        fun n => by simp only [railTake, hn]
      rw [ends, ends]
    · exact railTake_bound start _ _ s' (by omega) (by omega)

end Sys2Proof.Machine
end

