-- ==== Sys2Proof/Laws/Receiver.lean ====
section
/-! SUPPORT. What one examination of the bytes the receiver has taken comes to: the bound on the frames examined plays no
part (R173, R174). -/

namespace Sys2Proof.Machine

/-- A frame found good has bytes of its own: fewer stand behind it. -/
theorem judge_good_length {bs rest : List Byte} {f : Frame} (h : judge bs = .good f rest) : rest.length < bs.length := by
  unfold judge at h
  (repeat' split at h) <;> try cases h
  simp only at h
  split at h <;> cases h
  simp only [List.length_drop, List.length_cons]; omega

/-- Nothing is decided with no byte taken. -/
@[simp] theorem judge_nil : judge [] = .needMore := rfl

/-- A candidate found good in Hunt leaves fewer bytes (R173). -/
theorem huntScan_found_length {bs rest : List Byte} (h : huntScan bs = .found rest) : rest.length < bs.length := by
  induction bs with
  | nil => simp [huntScan] at h
  | cons b bs ih =>
    unfold huntScan at h
    cases hj : judge (b :: bs) with
    | good f r =>
      rw [hj] at h
      simp only [HuntResult.found.injEq] at h
      exact h ▸ judge_good_length hj
    | needMore =>
      rw [hj] at h
      simp only at h
      split at h
      · cases h
      · exact (ih h).trans (by simp)
    | noSync => rw [hj] at h; exact (ih h).trans (by simp)
    | overLength => rw [hj] at h; exact (ih h).trans (by simp)
    | badCheck r => rw [hj] at h; exact (ih h).trans (by simp)

/-- The bound on the frames examined plays no part once it exceeds the bytes taken. -/
theorem receive_bound (n m : Nat) (s : State) (hn : s.link.buffer.length < n) (hm : s.link.buffer.length < m) :
    receive n s = receive m s := by
  induction n generalizing m s with
  | zero => omega
  | succ n ih =>
    cases m with
    | zero => omega
    | succ m =>
      have bad : ∀ v, judge s.link.buffer = v → v ≠ .needMore →
          receive n { s with link := { s.link with rx := .hunt, buffer := s.link.buffer.drop 1 } } =
            receive m { s with link := { s.link with rx := .hunt, buffer := s.link.buffer.drop 1 } } := by
        rintro v hv hne
        have : s.link.buffer ≠ [] := by rintro h; rw [h] at hv; exact hne hv.symm
        have := List.length_pos_of_ne_nil this
        apply ih <;> simp only [List.length_drop] <;> omega
      unfold receive
      cases hr : s.link.rx with
      | locked => rfl
      | hunt =>
        simp only
        cases hs : huntScan s.link.buffer with
        | waiting kept => rfl
        | found rest =>
          have := huntScan_found_length hs
          exact ih m _ (by simp only; omega) (by simp only; omega)
      | verify =>
        simp only
        cases hj : judge s.link.buffer with
        | needMore => rfl
        | good f rest => rfl
        | noSync => exact bad _ hj (by simp)
        | overLength => exact bad _ hj (by simp)
        | badCheck r => exact bad _ hj (by simp)

/-- Bytes taken are examined under any bound that exceeds them. -/
theorem feed_eq (bytes : List Byte) (s : State) (n : Nat) (h : s.link.buffer.length + bytes.length < n) :
    feed bytes s = receive n { s with link := { s.link with buffer := s.link.buffer ++ bytes } } := by
  unfold feed
  apply receive_bound <;> simp only [List.length_append] <;> omega

end Sys2Proof.Machine
end

