-- ==== Sys2Proof/Tests/Slice0.lean ====
section
/-! SUPPORT. Tests of the model against figures the manual works out, and for each statement with hypotheses a state and
operands that meet them. No test proves a statement. -/

open Sys2Proof Sys2Proof.Machine

namespace Sys2Proof.Tests

-- One theorem at a time: each is evaluated by the kernel.
set_option Elab.async false

/-! ## States the tests start from -/

/-- The Configuration Record of the worked cases: capture, replay and auto-trim on, else the defaults (03, 04). -/
def config : ConfigRecord := ⟨true, true, 2000, 30, 24, true, 0⟩

/-- Local time 1 s, PT 96,000, the receiver Locked, the Sensor Link up, the PT unit at its end. -/
def inState (part : PartState) : State :=
  { State.reset with
    localTime := 1000000
    clock := ⟨96000, part, .none, none, 999990⟩
    tables := { State.reset.tables with config := config }
    sensor := ⟨true, 0, 0, some 1005000⟩
    link := { State.reset.link with rx := .locked, lastStatus := some 1000000 } }

def running : State := inState .running
def held : State := inState .held
def stopped : State := inState .stopped
def unconfigured : State := inState .unconfigured
def faulted : State := { inState .faulted with rail := { State.reset.rail with state := .faulted } }

/-- The state a command leaves. -/
def after (c : Instr) (s : State) : State :=
  match exec c s with
  | .next t => t
  | _ => s

def later (us : Nat) (s : State) : State := { s with localTime := s.localTime + us }
def atPt (pt : PT) (s : State) : State := { s with clock := { s.clock with pt := pt } }

/-- Sixteen pending Responses. -/
def full (s : State) : State :=
  { s with link := { s.link with responses := List.replicate 16 ⟨0x18, 0, .done, .clock 0⟩ } }

/-- Fifteen pending Responses: one more is taken. -/
def nearlyFull (s : State) : State :=
  { s with link := { s.link with responses := List.replicate 15 ⟨0x18, 0, .done, .clock 0⟩ } }

/-- A Note-On: note, speed in mm/s, target, event. -/
def noteOnBytes (note speed : Nat) (target : PT) (event : Nat) : List Byte :=
  put8 note ++ put16 speed ++ put32 target.toNat ++ put16 event

/-- A Note-Off: note, target. -/
def noteOffBytes (note : Nat) (target : PT) : List Byte := put8 note ++ put32 target.toNat

/-- A Pedal Target: pedal, position, target. -/
def pedalBytesOf (pedal : Nat) (target : PT) (position : Nat) : List Byte :=
  put8 pedal ++ put32 target.toNat ++ put16 position

/-! ## WellFormed: one ill-formed command for each check -/

theorem test_refuses_long_payload : wellFormed (.noteOn 0 (List.replicate 125 0)) = false := by decide +kernel
theorem test_accepts_longest_payload : wellFormed (.noteOn 0 (List.replicate 124 0)) = true := by decide +kernel
theorem test_refuses_known_kind_as_unknown : wellFormed (.unknown 0x18 0 []) = false := by decide +kernel
theorem test_refuses_good_frame_as_crc_error : wellFormed (.crcError (encodeFrame ⟨0x18, 1,
    []⟩)) = false := by decide +kernel
theorem test_refuses_good_frame_as_framing_error :
    wellFormed (.framingError (encodeFrame ⟨0x18, 1, []⟩)) = false := by decide +kernel
theorem test_refuses_note_0 : wellFormed (.keyTrip 0 .k1 .down 0 5) = false := by decide +kernel
theorem test_refuses_note_89 : wellFormed (.hammerTrip 89 .g1 0 5) = false := by decide +kernel
theorem test_refuses_ack_as_unexpected : wellFormed (.railUnexpectedFrame 0x70 0 []) = false := by
  decide +kernel
theorem test_refuses_good_frame_as_bad :
    wellFormed (.sensorBadFrame (encodeFrame ⟨0x50, 1, []⟩)) = false ∧
      wellFormed (.railBadFrame (encodeFrame ⟨0x70, 1, []⟩)) = false := by decide +kernel
theorem test_refuses_valid_content_as_discarded : wellFormed (.discardedSensorFrame 0x50 1 []) = false := by
  decide +kernel

/-! ## The envelope (10) -/

/-- R172: the Check over the ASCII digits 1 to 9. -/
theorem test_crc : crc16 [0x31, 0x32, 0x33, 0x34, 0x35, 0x36, 0x37, 0x38, 0x39] = 0x29B1 := by decide +kernel

/-- 10, the receiver from power-on, last row: Length 200 is over the limit of 124. -/
theorem test_length_200 : judge [0xA7, 0x3C, 0x18, 200, 0] = .overLength := by decide +kernel

/-- No row of the table gives bits. -/
theorem test_decode_none : decodeTableWord 8 0 = none := by decide +kernel

/-! ## Arithmetic: the worked cases of 03 -/

/-- Key 40's record in 03, Worked cases. -/
def key40 : CalRecord := { defaultCal with levelOffset := 12, ceiling := 960, leadTrim := -350 }

/-- Level, T1, U, Clamped and Ceiling of a strike on key 40. -/
def figures (speed : Nat) : Nat × Nat × Nat × Bool × Bool :=
  let st := computeStrike key40 39 40 speed 1000000 311
  (st.level, st.lead, ptUnits st.lead, st.clamped, st.ceiling)

theorem test_strike_1800 : figures 1800 = (499, 17350, 1735, false, false) := by decide +kernel
theorem test_strike_30 : figures 30 = (192, 41650, 4165, true, false) := by decide +kernel
theorem test_strike_200 : figures 200 = (192, 41650, 4165, false, false) := by decide +kernel
theorem test_strike_501 : figures 501 = (272, 30633, 3063, false, false) := by decide +kernel
theorem test_strike_5400 : figures 5400 = (960, 11379, 1138, false, true) := by decide +kernel
theorem test_strike_6000 : figures 6000 = (960, 11250, 1125, true, true) := by decide +kernel
theorem test_planned : (computeStrike key40 39 40 1800 1000000 311).planned = 998265 := by decide +kernel

/-- R41: half-way between 31,000 and 30,965 is 30,982.5, rounded to 30,983. -/
theorem test_half_rounds_up : roundDiv (2 * 30982 + 1) 2 = 30983 ∧ roundDiv (-151) 2 = -75 := by decide +kernel

theorem test_intake_normal : judgeIntake 850000 1000000 1735 2000 = .normal := by decide +kernel
theorem test_intake_late : judgeIntake 999000 1000000 1735 2000 = .late ∧
    judgeIntake 1000000 1000000 1735 2000 = .late := by
  decide +kernel
theorem test_intake_missed : judgeIntake 1000300 1000000 1735 2000 = .missed := by decide +kernel
theorem test_intake_wrap :
    judgeIntake 4294966000 500 1735 2000 = .normal ∧ before 500 1735 = 4294966061 := by decide +kernel
theorem test_intake_far_target :
    judgeIntake 100000 2147584648 1735 5000 = .missed ∧ placed 100000 2147584648 0 = 100000 := by decide +kernel

theorem test_placed_release : ptUnits 8000 = 800 ∧ placed 850000 1000000 800 = 999200 := by decide +kernel
theorem test_placed_release_rounded : ptUnits 8005 = 801 ∧ placed 850000 1000000 801 = 999199 := by decide +kernel
theorem test_placed_release_late : placed 999500 1000000 800 = 999500 := by decide +kernel
theorem test_placed_pedal :
    placed 2999000 3000000 (ptUnits 25000) = 2999000 ∧
      placed 2999000 3010000 (ptUnits 25005) = 3007499 := by decide +kernel

theorem test_late_at_issue : latenessAtIssue 998265 1000200 = 1935 ∧
    latenessAtIssue 998265 1000300 = 2035 := by decide +kernel

theorem test_speed : hammerSpeed 3000 20000 21666 = 1801 ∧ hammerSpeed 3000 65000 1200 = 1728 := by decide +kernel
theorem test_speed_clamped :
    hammerSpeed 3000 4000 4000 = 6000 ∧ speedClamped 3000 4000 4000 = true ∧ hammerSpeed 3000 100 65100 = 50 ∧
      speedClamped 3000 100 65100 = true ∧ speedClamped 3000 20000 21666 = false := by decide +kernel

theorem test_crossing_time : crossingTime 10 30 = 4294967276 := by decide +kernel
theorem test_latency : measuredLatency 1000060 998265 = 17950 := by decide +kernel
theorem test_trim :
    trimmed (-350) 600 = -275 ∧ trimmed (-350) (-605) = -425 ∧ trimmed (-350) 7 = -350 ∧
      trimmed (-1990) (-600) = -2000 ∧ trimErrorOk 25000 = false := by decide +kernel
theorem test_pedal_curve :
    [0, 2000, 4095, 30, 100, 130, 150, 20].map (interpolate defaultPedalCurve) = [0, 499, 1023, 7, 25, 32, 37, 5] := by
  decide +kernel

/-! ## One command on a small state -/

/-- E1 of 04: Note-On 40, 1400 mm/s, target 100,000, event 101. -/
def noteOn40 : Instr := .noteOn 0 (noteOnBytes 40 1400 100000 101)

/-- The word written out byte by byte from R56's layout is the same command. -/
theorem test_noteOn_layout : noteOn40 = .noteOn 0 [0x28, 0x05, 0x78, 0x00, 0x01, 0x86, 0xA0, 0x00,
    0x65] := by decide +kernel

/-- Running, with the strike of E1 queued and key 40 open. -/
def struck : State := after noteOn40 running

/-- E1: Strike 40a at 98,050, the free count 510 (04). -/
theorem test_noteOn : struck.queue.actions.map (·.time) = [98050] ∧ freeCount struck.queue = 510 := by decide +kernel

/-- E2: Release 40a at 101,000, the free count still 510 (04). -/
theorem test_noteOff :
    let t := after (.noteOff 0 (noteOffBytes 40 101000)) struck
    t.queue.actions.map (·.time) = [98050, 101000] ∧ freeCount t.queue = 510 := by decide +kernel

/-- E6: an open key 41 of gap 20,000 µs: Release 41a, Implicit, 102,500; Strike 41b 102,550 (04). -/
theorem test_noteOn_open :
    let key41 := setCal 40 { defaultCal with repGap := 20000 } (setIntake 40 ⟨true, some 101500⟩ running)
    let t := after (.noteOn 0 (noteOnBytes 41 1400 104500 104)) key41
    t.queue.actions.map (·.time) = [102500, 102550] ∧ freeCount t.queue = 509 := by decide +kernel

/-- E11: Pedal 3 at 102,500 (04). -/
theorem test_pedalTarget :
    (after (.pedalTarget 0 (pedalBytesOf 3 105000 800)) running).queue.actions =
      [⟨102500, 0, .pedal 2 800⟩] := by decide +kernel

/-- R56: a pedal of 0 or 4 discards the Pedal Target. -/
theorem test_pedalTarget_4 :
    (after (.pedalTarget 0 (pedalBytesOf 4 105000 800)) running).sticky.eventsDiscarded = true := by decide +kernel

/-- The strike is due at 98,050 (04): after the tick from 98,049 its Push is sent. -/
def pushed : State := after .ptTick (atPt 98049 struck)

theorem test_ptTick :
    pushed.clock.pt = 98050 ∧ pushed.queue.actions = [] ∧ (pushed.drive[39]).state = .pushing ∧
      (pushed.drive[39]).stage = .sent ∧ (pushed.drive[39]).issue = some 98050 ∧
      (pushed.drive[39]).actionTime = some 98050 := by decide +kernel

/-- R144: the Push is a frame of Kind 0x61 whose Tag is the sequence number, with channel 40 and level 420. -/
theorem test_push_frame : pushed.rail.tx.map (·.frame) = some ⟨0x61, 0, [40, 0x01, 0xA4]⟩ := by decide +kernel

/-- R4, R25: level 1 of ROLESEL gives keys 1..39 Capture and keys 40..88 Replay. -/
theorem test_powerOnReset :
    let t := after (.powerOnReset .level1 .level1) faulted
    t.clock.part = .unconfigured ∧ (t.tables.keyMap[38]).role = .capture ∧ (t.tables.keyMap[39]).role = .replay := by
  decide +kernel

/-- 01, the session from power-on: the late limit 9000 is clamped to 5000. -/
theorem test_configure :
    let t := after (.configure 3 [1, 1, 0x23, 0x28, 30, 24, 0, 0]) unconfigured
    t.tables.config = ⟨true, true, 5000, 30, 24, false, 0⟩ ∧ t.clock.part = .stopped ∧
      t.link.responses = [⟨0x10, 3, .done, .plain⟩] := by decide +kernel

/-- R6: transpose is a signed byte, clamped to −12..+12. -/
theorem test_configure_transpose :
    (after (.configure 3 [1, 1, 0, 0, 30, 24, 1, 0xF0]) stopped).tables.config.transpose = -12 := by decide +kernel

/-- R7, R115: a Start takes each pedal's position as its baseline. -/
theorem test_start :
    let t := after (.start 1 []) (setPedal 2 ⟨400, 10, true⟩ stopped)
    t.clock.part = .running ∧ t.pedals[2] = ⟨400, 400, false⟩ ∧ t.link.responses = [⟨0x11, 1, .done, .plain⟩] := by
  decide +kernel

/-- 01: Hold in Unconfigured is NotConfigured, in Stopped Busy. -/
theorem test_hold :
    (after (.hold 1 []) unconfigured).link.responses = [⟨0x12, 1, .notConfigured, .plain⟩] ∧
      (after (.hold 1 []) stopped).link.responses = [⟨0x12, 1, .busy, .plain⟩] := by decide +kernel

theorem test_resume : (after (.resume 1 []) held).clock.part = .running := by decide +kernel

/-- R9: a Stop is answered with the number of strikes it flushed; the last taken target stays (04, variant). -/
theorem test_stop :
    let t := after (.stop 1 []) struck
    t.clock.cause = .request ∧ t.link.responses = [⟨0x14, 1, .done, .flush 1⟩] ∧ freeCount t.queue = 512 ∧
      (t.queue.intake[39]).last = some 100000 := by decide +kernel

/-- R13, R157: a Stop in Faulted sends the recovery Release All. -/
theorem test_stop_faulted :
    let t := after (.stop 1 []) faulted
    t.clock.part = .stopped ∧ t.rail.inFlight = [⟨0, .releaseAll true false, false⟩] := by decide +kernel

/-- R14: a Restart keeps the sequence counter and the mask, and clears the last taken target. -/
theorem test_restart :
    let t := after (.restart 1 []) pushed
    t.clock.pt = 0 ∧ t.rail.seq = 1 ∧ (t.queue.intake[39]).last = none ∧
      (t.drive[39]).restarting = true := by decide +kernel

/-- The Releases of key 39, Idle, and of key 40, Pushing, wait for RLOUT. -/
def twoReleases : State := requestRail (.release 38 39) (requestRail (.release 39 40) pushed)

/-- R101, R103, R157: a Stop and a Restart withdraw what waits for the key that is not Idle, and keep the rest. -/
theorem test_release_of_idle_key_stays :
    (after (.stop 1 []) twoReleases).rail.waiting.map (·.cmd) =
        [.release 38 39, .releaseAll false false, .pedalSet 0, .pedalSet 1, .pedalSet 2] ∧
      (after (.restart 1 []) twoReleases).rail.waiting.map (·.cmd) =
        [.release 38 39, .releaseAll false true, .pedalSet 0, .pedalSet 1, .pedalSet 2] := by decide +kernel

/-- R103, R156: at a Restart's Release All a key driven only since the Restart is Idle too, its Push withdrawn and its
strike unreported; at a Stop's it is driven on. -/
theorem test_restart_releaseAll :
    let s (restart : Bool) : State :=
      after .railTransmitEnd
        (requestReleaseAll false restart
          (requestRail (.push 39 40 420) (setDrive 39 { pushed.drive[39] with stage := .waiting } running)))
    (s true).drive = Vector.replicate 88 DriveContext.clear ∧ (s true).rail.waiting = [] ∧ (s true).reports = [] ∧
      (s true).rail.tx.map (·.frame.kind) = some 0x64 ∧
      ((s false).drive[39]).state = .pushing ∧ (s false).rail.waiting.map (·.cmd) = [.push 39 40 420] := by
  decide +kernel

theorem test_clearErrors :
    (after (.clearErrors 1 []) { faulted with sticky := { railFault := true, queueFull := true } }).sticky = {} := by
  decide +kernel

/-- 01: Clock Set 500,000 in Stopped. -/
theorem test_clockSet : (after (.clockSet 1 [0x00, 0x07, 0xA1, 0x20]) stopped).clock.pt = 500000 := by decide +kernel

theorem test_clockLatch :
    (after (.clockLatch 1 []) held).link.responses = [⟨0x18, 1, .done, .clock 96000⟩] := by decide +kernel

/-- R178: an unknown Kind is answered with its Kind and Tag. -/
theorem test_unknown :
    (after (.unknown 0x55 9 [1]) running).link.responses = [⟨0x55, 9, .unknown, .plain⟩] := by decide +kernel

/-- R25, R29: two Key Map entries from index 1; the second asks for a channel that key 3 holds. -/
theorem test_tableWrite :
    let t := after (.tableWrite 2 [2, 1, 2, 0, 3, 3, 1]) stopped
    t.tables.keyMap[0] = ⟨0, .muted⟩ ∧ t.tables.keyMap[1] = ⟨2, .both⟩ ∧
      t.link.responses = [⟨0x20, 2, .invalid, .write 2 1⟩] := by decide +kernel

/-- R29: the Key Map is not written in Running. -/
theorem test_tableWrite_running :
    (after (.tableWrite 2 [2, 1, 1, 0, 3]) running).link.responses = [⟨0x20, 2, .busy, .write 1 1⟩] := by decide +kernel

/-- 02, table reads during a session: first 86, count 0. -/
theorem test_tableRead :
    (after (.tableRead 7 [1, 86, 0]) running).tableRead = some ⟨7, 1, 86, 88⟩ ∧
      (after (.tableRead 7 [2, 87, 5]) running).tableRead = some ⟨7, 2, 87, 91⟩ := by decide +kernel

/-- 02: Table Read, table 2, first 89, count 2: OutOfRange, 0, 2. -/
theorem test_tableRead_refused :
    (after (.tableRead 7 [2, 89, 2]) running).link.responses = [⟨0x21, 7, .outOfRange, .read 0 2⟩] := by decide +kernel

/-- R52, R161: a Quick run of key 40 pushes at the reference level 500. -/
def quickRun : State := after (.calibrateQuick 5 [40, 40]) stopped

theorem test_calibrateQuick :
    quickRun.rail.tx.map (·.frame) = some ⟨0x61, 0, [40, 0x01, 0xF4]⟩ ∧
      quickRun.link.responses = [⟨0x22, 5, .done, .plain⟩] := by decide +kernel

/-- R52: a Sweep's first probe is at its base; R158: a step of 0 is Invalid. -/
theorem test_calibrateSweep :
    (after (.calibrateSweep 5 [40, 40, 0x00, 0x64, 20, 3,
      1]) stopped).run.map (fun c => c.probes.map (·.level)) = some [100] ∧
      (after (.calibrateSweep 5 [40, 40, 0x00, 0x64, 0, 3, 1]) stopped).link.responses =
        [⟨0x23, 5, .invalid, .plain⟩] := by decide +kernel

/-- R153: a frame passes to the rail at once when it can. -/
theorem test_railPassThrough :
    (after (.railPassThrough 0 [1, 2, 3]) running).rail.tx.map (·.frame.payload) = some [1, 2, 3] := by decide +kernel

/-- 10, the receiver from power-on: 0x00, 0xA7, 0x55 leave Hunt; a good frame leads to Verify, and to Locked. -/
theorem test_hunt :
    let hunting := after (.hunt [0x00, 0xA7, 0x55]) State.reset
    hunting.link.rx = .hunt ∧ (after (.hunt (encodeFrame ⟨0x18, 1, []⟩)) hunting).link.rx = .verify := by decide +kernel

theorem test_verify :
    let s : State := { State.reset with link := { State.reset.link with rx := .verify } }
    (after (.verify (encodeFrame ⟨0x18, 2, []⟩)) s).link.rx = .locked := by decide +kernel

/-- A Start frame with a wrong Check. -/
def badStart : List Byte := [0xA7, 0x3C, 0x11, 0x00, 0x04, 0x00, 0x00]

/-- A Length of 125, with the first bytes of another frame behind it. -/
def overLength : List Byte := [0xA7, 0x3C, 0x50, 125, 0x00, 0xA7, 0xA7, 0x3C, 0x70]

/-- 10: F6 to F8 are counted, F9 leads to Hunt with the count 0 and the link-loss timer of 250 ms. -/
theorem test_crcError :
    let three : State := { running with link := { running.link with badCount := 3 } }
    (after (.crcError badStart) running).link.badCount = 1 ∧
      (after (.crcError badStart) three).link.rx = .hunt ∧ (after (.crcError badStart) three).link.badCount = 0 ∧
      (after (.crcError badStart) three).clock.linkLoss = some 1250000 := by decide +kernel

/-- 10: F12 leads to Hunt at once. -/
theorem test_framingError :
    let t := after (.framingError [0xA7, 0x3C, 0x18, 200, 0]) running
    t.link.rx = .hunt ∧ t.sticky.framingError = true ∧ t.sticky.crcError = false := by decide +kernel

/-- R175, R176: a byte left over in Locked is judged with the frame that follows it: no Sync stands at the receiver's
place. -/
theorem test_leftover_byte :
    let t := after (.clockLatch 1 []) (feed [0xA7] running)
    t.link.responses = [] ∧
      raisedFrame t .plin = [.frame .plin (.framingError (0xA7 :: encodeFrame ⟨0x18, 1, []⟩)) []] := by decide +kernel

/-- Running with the receiver in Hunt and the link-loss timer at 1.25 s. -/
def losing : State := after (.framingError [0x00, 0x00]) struck

theorem test_linkLossStop :
    let t := after .linkLossStop (later 250000 losing)
    t.clock.part = .stopped ∧ t.clock.cause = .linkLoss ∧
      (after .linkLossStop (later 249999 losing)) = later 249999 losing := by
  decide +kernel

/-- R181: a Response goes before a report. -/
theorem test_frameBoundary :
    let s := after (.clockLatch 1 []) (addReport (.probe ⟨40, 0, 500, true, 1801, 17000⟩) running)
    (after .frameBoundary s).link.tx.map (·.frame) = some (.response ⟨0x18, 1, .done,
      .clock 96000⟩) := by decide +kernel

/-- 10, one busy stretch of the transmitter: at 3 Mbit/s the Rail Reply that began at byte time 140 ends at byte time 150,
500.0 µs, and the Status frame chosen there begins then; its 25 bytes end at 583⅓ µs. -/
theorem test_busy_stretch :
    let s : State :=
      { running with
        link := { running.link with tx := some ⟨.railReply [1, 2, 3], 12005600, false⟩, lastStatus := some 999133 } }
    let t := after .frameBoundary (later 500 s)
    after .frameBoundary (later 499 s) = later 499 s ∧ t.link.lastStatus = some 1000500 ∧
      t.link.tx.map (fun x => (x.start, upFrameEnd t x)) = some (12000000 + 12 * 500, 12000000 + 4 * 1750) := by
  decide +kernel

/-- R183: a Status frame 1 ms after the last one was chosen, not earlier. -/
theorem test_statusSpacing :
    (after .statusSpacing (later 1000 running)).link.lastStatus = some 1001000 ∧
      after .statusSpacing (later 999 running) = later 999 running := by decide +kernel

/-- R120: a good frame restarts the loss window of 10 ms. -/
theorem test_idle : (after (.idle 0) running).sensor = ⟨true, 0, 0, some 1010000⟩ := by decide +kernel

theorem test_discardedSensorFrame :
    (after (.discardedSensorFrame 0x55 0 []) { running with sensor := ⟨false, 1, 0, none⟩ }).sensor = ⟨true, 0, 0,
      some 1010000⟩ := by
  decide +kernel

/-- R127: K1 down takes a captured key from Rest to Descending. -/
def descending : State := after (.keyTrip 30 .k1 .down 0 0) running

theorem test_keyTrip : (descending.capture[29]).state = .descending := by decide +kernel

/-- G1 of stamp 5,000. -/
def gated : State := after (.hammerTrip 30 .g1 5000 0) descending

/-- R48, R131: G2 of stamp 6,500 completes the stroke, 3000 × 1000 / 1,500 = 2,000 mm/s; the time is PT less 30. -/
theorem test_hammerTrip :
    (after (.hammerTrip 30 .g2 6500 0) gated).captureFifo =
      [.noteOn 29 95970 2000 false false false false] := by decide +kernel

/-- 06, half-pedalling: raw 60 is position 15, queued against 0; raw 30 is position 7, under the deadband of 8. -/
theorem test_pedalSample :
    (after (.pedalSample 0 0 60 0) running).captureFifo = [.pedal 2 95970 15 false false] ∧
      (after (.pedalSample 0 0 30 0) running).captureFifo = [] := by decide +kernel

/-- R120: the fourth bad frame in a row is the loss. -/
theorem test_sensorBadFrame :
    let t := after (.sensorBadFrame badStart) { running with sensor := ⟨true, 0, 3, some 1005000⟩ }
    t.sensor.up = false ∧ t.sticky.sensorLoss = true := by decide +kernel

/-- R120: after a Length over 124 the receiver scans for the next Sync, and the Idle frame found there stands ready. -/
theorem test_snin_scan :
    let t := after (.sensorBadFrame ([0xA7, 0x3C, 0x50, 125, 0xA7] ++ encodeFrame ⟨0x50, 1, []⟩)) running
    t.sensor.badCount = 1 ∧ raisedFrame t .snin = [.frame .snin (.idle 1) []] := by decide +kernel

theorem test_lossWindowExpiry :
    (after .lossWindowExpiry (later 5000 running)).sensor.up = false ∧
      after .lossWindowExpiry (later 4999 running) = later 4999 running := by decide +kernel

/-- R89: the push limit of 40 ms ends the push with Hold. -/
theorem test_pushTimerExpiry :
    ((after (.pushTimerExpiry 39) (later 40000 pushed)).drive[39]).state = .holding ∧
      ((after (.pushTimerExpiry 39) (later 39999 pushed)).drive[39]).state = .pushing := by decide +kernel

/-- R95: no G2 within 100 ms is NoArrival. -/
theorem test_gateTimerExpiry :
    (after (.gateTimerExpiry 39) (later 100000 pushed)).reports =
      [.strike ⟨101, 40, 40, 98050, 98050, 1400, 420, 0, 0, 0, { noArrival := true }⟩] := by decide +kernel

/-- Key 40 Releasing, its Release sent 0.6 s ago. -/
def releasing : State :=
  setDrive 39
    { DriveContext.clear with
      state := .releasing
      stage := .sent
      job := some (.strike (computeStrike key40 39 40 1800 1000000 311))
      releaseSent := some 400000
      restTimer := some 800000 } running

theorem test_restTimerExpiry : (after (.restTimerExpiry 39) releasing).drive[39] = DriveContext.clear := by
    decide +kernel

theorem test_sensorlessReleaseTimer :
    let s := setDrive 39 { releasing.drive[39] with sensorlessTimer := some 500000 } releasing
    (after (.sensorlessReleaseTimer 39) s).drive[39] = DriveContext.clear := by decide +kernel

/-- R129: 60 ms without a G2 make a Silent event with the time of the G1. -/
theorem test_captureGateTimeout :
    (after (.captureGateTimeout 29) (later 60000 gated)).captureFifo = [.silent 29 95970 false false] := by
      decide +kernel

/-- The Quick run's context in a phase, with its timer at 1 s. -/
def runIn (phase : ProbePhase) (probe : ProbeRecord) : State :=
  { stopped with
    run := some ⟨.quick, 39, 39, 0, 0, 0, 0, 39, 40, 0, phase, [probe], true, some 1000000⟩ }

theorem test_restWaitExpiry :
    (after .restWaitExpiry (runIn .awaitingRest ⟨500, true, 1801, 17000⟩)).run.map (fun c => (c.phase, c.timer)) =
      some (.settling, some 1150000) := by decide +kernel

/-- R55: 1,801 mm/s is not below the firm limit of 1,500: Curve A. 1,499 is: Curve B. -/
theorem test_settleExpiry :
    let t := after .settleExpiry (runIn .settling ⟨500, true, 1499, 17000⟩)
    (t.tables.cal[39]).selected = .b ∧ t.run = none ∧
      t.reports = [.calibration { note := 40, kind := .quick, curve := .b, speed := 1499 }] := by decide +kernel

/-- Pedal 3 with the position 510 waiting, its rate gap of 4 ms just over. -/
def gapping : State := setReplay 2 ⟨.waiting, 0, some 510, some 996000⟩ running

/-- 06, the rate gap: 4 ms after the sending the waiting position 510 is requested, and sent at the end of the moment. -/
theorem test_rateGapEnd :
    (after (.rateGapEnd 2) gapping).replay[2] = ⟨.requested, 510, none, some 996000⟩ ∧
      (after .railTransmitEnd (after (.rateGapEnd 2) gapping)).replay[2] = ⟨.spacing, 510, none, some 1000000⟩ := by
  decide +kernel

/-- R109: a pedal action due at the moment at which the gap ends replaces the position in the request. -/
theorem test_rateGapEnd_due :
    let s := { gapping with queue := { gapping.queue with actions := [⟨96001, 0, .pedal 2 700⟩] } }
    let t := after .ptTick (after (.rateGapEnd 2) s)
    t.replay[2] = ⟨.spacing, 700, none, some 1000000⟩ ∧ t.rail.tx.map (·.frame.payload) = some [3, 0x02, 0xBC] := by
  decide +kernel

/-- 08: an Ack naming 10 while the oldest entry is 9 is a fault; Ack 9 is not. -/
def nine : State :=
  { running with
    rail := { running.rail with inFlight := [⟨9, .hold 29 30 300, true⟩], window := some 999900, seq := 10 } }

theorem test_ack : (after (.ack 9 []) nine).rail.inFlight = [] ∧
    (after (.ack 9 []) nine).rail.state = .active := by decide +kernel

theorem test_ack_misordered :
    let t := after (.ack 10 []) nine
    t.rail.state = .faulted ∧ t.clock.part = .faulted ∧ t.clock.cause = .railFault ∧
      t.sticky.railFault = true := by decide +kernel

theorem test_railReply : (after (.railReply [7] 0) running).rail.replies = [[7]] := by decide +kernel

theorem test_railUnexpectedFrame : (after (.railUnexpectedFrame 0x50 0 []) running).rail.state = .faulted := by
    decide +kernel

/-- R141: a wrong Check sets no flag and leaves the receiver at the byte after the frame; a Length over 124 makes it scan. -/
theorem test_railBadFrame :
    after (.railBadFrame badStart) running = running ∧
      after (.railBadFrame overLength) running = { running with rlin := ⟨[0xA7, 0x3C, 0x70], false⟩ } := by decide +kernel

/-- R146: the window is 1 ms. -/
theorem test_acknowledgementWindow :
    (after .acknowledgementWindow (later 900 nine)).rail.state = .faulted ∧
      after .acknowledgementWindow (later 899 nine) = later 899 nine := by decide +kernel

/-- R143, R145: a Push of 10 bytes takes 8⅓ µs: its end is taken at 9 µs and not at 8 (log entry 5). -/
theorem test_railTransmitEnd :
    let t := after .railTransmitEnd (later 9 pushed)
    t.rail.tx = none ∧ t.rail.window = some 1000009 ∧
      after .railTransmitEnd (later 8 pushed) = later 8 pushed := by decide +kernel

/-- The Release that waits while the Push is sent begins where its frame ended, at 100 twelfths of a µs (log entry 5). -/
theorem test_frames_back_to_back :
    let t := after .railTransmitEnd (requestRail (.release 38 39) (later 9 pushed))
    t.rail.tx.map (fun x => (x.frame.kind, x.start)) = some (0x63, 12000100) := by decide +kernel

/-- 08, a park: 120 s after the last sending, Park is sent and the rail is Parked. -/
theorem test_parkTimer :
    let t := after .parkTimer (later 119000000 running)
    t.rail.state = .parked ∧ t.rail.tx.map (·.frame.kind) = some 0x66 := by decide +kernel

/-- The driven strike of 03 and 05: its G2 taken at PT 1,000,090 closes it with latency 17,950 and trim −275. -/
def measured : State :=
  setCal 39 key40
    (setDrive 39
      { DriveContext.clear with
        state := .holding
        stage := .sent
        job := some (.strike (computeStrike key40 39 40 1800 1000000 311))
        issue := some 998265
        sentAt := some 900000
        gateTimer := some 1083000
        measuring := true
        g1 := some 20000
        trimEligible := true } (atPt 1000090 running))

theorem test_measured :
    let t := after (.hammerTrip 40 .g2 21666 0) measured
    t.reports = [.strike ⟨311, 40, 40, 998265, 998265, 1800, 499, 1801, 17950, 0, {}⟩] ∧
      (t.tables.cal[39]).leadTrim = -275 := by decide +kernel

/-! ## Witnesses: for each statement with hypotheses, a state and operands that meet them -/

/-! ### The step and the machine -/

/-- Nothing due: the PT unit has just begun. -/
def quiet : State := { running with clock := { running.clock with unitStart := 1000000 } }

/-- A request left waiting with a slot free. -/
def leftWaiting : State := requestRail (.release 38 39) quiet

/-- Bytes behind which one more stands, on each line. -/
def withBytes (plin snin rlin : List Byte) : State :=
  { running with link := { running.link with buffer := plin }, snin := ⟨snin, false⟩, rlin := ⟨rlin, false⟩ }

/-- Nothing to take up; a request left waiting; one event due; several; and the frames whole on the lines. -/
theorem witness_IdleStepPassesTime :
    ((quiet.pending = [] ∧ raisedNow quiet = [] ∧ nextRequest quiet.rail = none ∧ quiet.rail.passQueue = []) ∧
      (leftWaiting.pending = [] ∧ raisedNow leftWaiting = [] ∧ leftWaiting.rail.tx = none ∧
        leftWaiting.rail.inFlight = [] ∧ nextRequest leftWaiting.rail ≠ none) ∧
      (running.pending = [] ∧ raisedNow running = [.event .ptTick]) ∧
      ((later 1000 running).pending = [] ∧ 2 ≤ (raisedNow (later 1000 running)).length) ∧
      (let s := withBytes (encodeFrame ⟨0x18, 1, []⟩ ++ [0xA7]) (encodeFrame ⟨0x50, 1, []⟩ ++ [0xA7])
          (encodeFrame ⟨0x70, 1, []⟩ ++ [0xA7]);
        s.link.rx = .locked ∧ raisedFrame s .plin ++ raisedFrame s .snin ++ raisedFrame s .rlin =
          [.frame .plin (.clockLatch 1 []) [0xA7], .frame .snin (.idle 1) [0xA7], .frame .rlin (.ack 1 []) [0xA7]]) ∧
      (withBytes (badStart ++ [0xA7]) [] []).link.buffer = badStart ++ [0xA7] ∧ judge badStart = .badCheck [] ∧
      judge [0x00, 0xA7] = .noSync ∧ judge [0xA7, 0x3C, 0x18, 125, 0] = .overLength) ∧
      exec .ptTick running = .next (after .ptTick running) :=
  ⟨by decide +kernel, rfl⟩

/-- On SNIN and RLIN, with the receiver at its place: a wrong Check with a byte behind it, a Length over 124, no Sync. -/
theorem witness_IdleStepPassesTime_bad :
    (let s := withBytes [] (badStart ++ [0xA7]) overLength;
      s.snin = ⟨badStart ++ [0xA7], false⟩ ∧ s.rlin = ⟨overLength, false⟩ ∧
        raisedFrame s .snin ++ raisedFrame s .rlin =
          [.frame .snin (.sensorBadFrame badStart) [0xA7], .frame .rlin (.railBadFrame overLength) []]) ∧
      let s := withBytes [] [0x00, 0xA7] (badStart ++ [0xA7])
      raisedFrame s .snin ++ raisedFrame s .rlin =
        [.frame .snin (.sensorBadFrame [0x00, 0xA7]) [], .frame .rlin (.railBadFrame badStart) [0xA7]] := by
  decide +kernel

/-- Events at the first moment at which they are due, and not one µs earlier. -/
theorem witness_IdleStepPassesTime_due :
    (dueEvents (later 5000 quiet) = [.ptTick, .lossWindowExpiry, .statusSpacing] ∧
        dueEvents (later 999 quiet) = [.ptTick] ∧ dueEvents (later 9 quiet) = []) ∧
      (dueOfRail (later 9 pushed) = [.railTransmitEnd] ∧ dueOfRail (later 8 pushed) = []) ∧
      (dueOfRail (later 900 nine) = [.acknowledgementWindow] ∧ dueOfRail (later 899 nine) = []) ∧
      (dueOfRail (later 119000000 running) = [.parkTimer] ∧ dueOfRail (later 118999999 running) = []) ∧
      (dueOfKey (later 40000 pushed) 39 = [.pushTimerExpiry 39] ∧ dueOfKey (later 39999 pushed) 39 = []) ∧
      (dueOfPedal gapping 2 = [.rateGapEnd 2] ∧ dueOfKey releasing 39 = [.restTimerExpiry 39]) ∧
      dueOfRun (runIn .awaitingRest ⟨500, true, 1801, 17000⟩) = [.restWaitExpiry] ∧
      dueOfRun (runIn .settling ⟨500, true, 1801, 17000⟩) = [.settleExpiry] := by decide +kernel

/-- No frame: nothing taken in Locked, a receiver out of Locked, one that scans. -/
theorem witness_IdleStepPassesTime_none :
    (running.link.rx = .locked ∧ judge running.link.buffer = .needMore ∧ State.reset.link.rx ≠ .locked) ∧
      judge running.snin.buffer = .needMore ∧ (ByteIn.mk [] true).scanning = true ∧
      judge running.rlin.buffer = .needMore := by decide +kernel

/-- Each way in which PT can change. -/
theorem witness_PtChangesOnly :
    (exec .ptTick running = .next (after .ptTick running) ∧ (after .ptTick running).clock.pt ≠ running.clock.pt) ∧
      (exec (.clockSet 0 [0, 0, 0, 1]) stopped = .next (after (.clockSet 0 [0, 0, 0, 1]) stopped) ∧
        (after (.clockSet 0 [0, 0, 0, 1]) stopped).clock.pt ≠ stopped.clock.pt) ∧
      (exec (.restart 0 []) running = .next (after (.restart 0 []) running) ∧
        (after (.restart 0 []) running).clock.pt ≠ running.clock.pt) ∧
      exec (.powerOnReset .float .float) running = .next (after (.powerOnReset .float .float) running) ∧
        (after (.powerOnReset .float .float) running).clock.pt ≠ running.clock.pt :=
  ⟨⟨rfl, by decide +kernel⟩, ⟨rfl, by decide +kernel⟩, ⟨rfl, by decide +kernel⟩, rfl, by decide +kernel⟩

/-- The command leads to its `after` state, and that differs in the part state. -/
abbrev ChangesPart (c : Instr) (s : State) : Prop :=
  exec c s = .next (after c s) ∧ (after c s).clock.part ≠ s.clock.part

/-- Each way in which the part state can change. -/
theorem witness_PartStateChangesOnly :
    ChangesPart (.configure 0 [1, 1, 0, 0, 30, 24, 1, 0]) unconfigured ∧ ChangesPart (.start 0 []) stopped ∧
      ChangesPart (.hold 0 []) running ∧ ChangesPart (.resume 0 []) held ∧ ChangesPart (.stop 0 []) running ∧
      ChangesPart (.stop 0 []) faulted ∧ ChangesPart (.restart 0 []) held ∧
      ChangesPart .linkLossStop (later 250000 losing) ∧ ChangesPart (.ack 10 []) nine ∧
      ChangesPart (.railUnexpectedFrame 0x50 0 []) running ∧ ChangesPart .acknowledgementWindow (later 900 nine) ∧
      ChangesPart (.powerOnReset .float .float) running :=
  ⟨⟨rfl, by decide +kernel⟩, ⟨rfl, by decide +kernel⟩, ⟨rfl, by decide +kernel⟩, ⟨rfl, by decide +kernel⟩,
    ⟨rfl, by decide +kernel⟩, ⟨rfl, by decide +kernel⟩, ⟨rfl, by decide +kernel⟩, ⟨rfl, by decide +kernel⟩,
    ⟨rfl, by decide +kernel⟩, ⟨rfl, by decide +kernel⟩, ⟨rfl, by decide +kernel⟩, ⟨rfl, by decide +kernel⟩⟩

/-- Each writer of a table, the table written. -/
theorem witness_TablesChangeOnly :
    (exec (.hammerTrip 40 .g2 21666 0) measured = .next (after (.hammerTrip 40 .g2 21666 0) measured) ∧
        (after (.hammerTrip 40 .g2 21666 0) measured).tables.cal ≠ measured.tables.cal) ∧
      (exec (.tableWrite 2 [2, 1, 1, 0, 3]) stopped = .next (after (.tableWrite 2 [2, 1, 1, 0, 3]) stopped) ∧
        (after (.tableWrite 2 [2, 1, 1, 0, 3]) stopped).tables.keyMap ≠ stopped.tables.keyMap) ∧
      exec (.configure 0 [0, 0, 0, 0, 0, 0, 0, 0]) stopped =
          .next (after (.configure 0 [0, 0, 0, 0, 0, 0, 0, 0]) stopped) ∧
        (after (.configure 0 [0, 0, 0, 0, 0, 0, 0, 0]) stopped).tables.config ≠ stopped.tables.config :=
  ⟨⟨rfl, by decide +kernel⟩, ⟨rfl, by decide +kernel⟩, rfl, by decide +kernel⟩

/-! ### Laws that every step keeps: a state that meets each, and a step from it -/

/-- The state a step leaves. -/
def stepped (s : State) : State :=
  match step s with
  | .next t => t
  | _ => s

/-- A command waits. -/
def next (c : Instr) (s : State) : State := { s with pending := [c] }

/-- Running with every store at its bound: 64 reports, 4 commands in flight, 8 frames and 4 replies, a Release All
waiting, a frame on RLOUT; an out-of-range Note-On is taken next. -/
def stored : State :=
  next (.noteOn 0 (noteOnBytes 89 1400 100000 1))
    { full running with
      reports := List.replicate 64 (.probe ⟨40, 0, 500, true, 1801, 17000⟩)
      rail :=
        { running.rail with
          inFlight := List.replicate 4 ⟨3, .hold 29 30 300, false⟩
          passQueue := List.replicate 8 []
          replies := List.replicate 4 []
          waiting := [⟨.releaseAll false false, 999000⟩]
          tx := some ⟨⟨0x62, 3, []⟩, 12000000, true⟩ } }

/-- 127 captured events and an announced key: 128 entries in use. -/
def capturedFull : State :=
  next (.keyTrip 31 .k2 .down 0 0)
    (setCapture 29 ⟨.down, none, true, false, none, none⟩
      (setCapture 30 ⟨.descending, none, false, false, none, none⟩
        { running with captureFifo := List.replicate 127 (.noteOff 50 95970 .keyUp) }))

theorem witness_StoresStayBounded :
    (ReportsBounded stored ∧ RailBounded stored ∧ OneReleaseAll stored ∧ ResponsesBounded stored ∧
        step stored = .next (stepped stored)) ∧
      CaptureBounded capturedFull ∧ step capturedFull = .next (stepped capturedFull) :=
  ⟨⟨by decide +kernel, by decide +kernel, by decide +kernel, by decide +kernel, rfl⟩, by decide +kernel, rfl⟩

/-- A Table Read completed with 16 Responses pending: its own is the 17th. -/
theorem witness_StoresStayBounded_responses :
    let s := full running
    let t := { s with link := { s.link with responses := s.link.responses ++ [⟨0x21, 7, .done, .read 88 0⟩] } }
    ResponsesBounded t ∧ t.link.responses.length = 17 := by decide +kernel

/-- A full Report FIFO, its oldest and the rest; one with room. -/
theorem witness_StoresStayBounded_reports :
    (∃ oldest rest, stored.reports = oldest :: rest ∧ stored.reports.length = 64) ∧ running.reports.length < 64 :=
  ⟨⟨_, _, rfl, rfl⟩, by decide +kernel⟩

/-- 510 actions and a pair of open keys: 512 entries in use; a strike at the edge of its ranges is queued. -/
def queueFull : State :=
  next (.noteOn 0 (noteOnBytes 42 1400 103000 1))
    { running with
      queue :=
        { running.queue with
          actions :=
            ⟨120000, 0, .strike ⟨39, 40, 120000, 6000, 1023, 65535, 1, 16, false, true, true⟩ none⟩ ::
              List.replicate 509 ⟨130000, 1, .pedal 2 800⟩
          intake := (running.queue.intake.set 39 ⟨true, some 120000⟩).set 40 ⟨true, none⟩
          nextOrder := 511 } }

theorem witness_QueueStaysBounded :
    QueueBounded queueFull ∧ StrikesInRange queueFull ∧ step queueFull = .next (stepped queueFull) :=
  ⟨by decide +kernel, by decide +kernel, rfl⟩

/-- A strike due in the next unit, the tick waiting. -/
def dueNext : State := next .ptTick (atPt 98049 struck)

theorem witness_TablesStayValid : TablesValid dueNext ∧ step dueNext = .next (stepped dueNext) :=
  ⟨by decide +kernel, rfl⟩

theorem witness_ClockLawsAreKept :
    (LinkLossRuns (next .ptTick losing) ∧ RunOnlyStopped (next .ptTick losing) ∧
        ZeroWhenUnconfigured (next .ptTick losing)) ∧
      step (next .ptTick losing) = .next (stepped (next .ptTick losing)) := ⟨by decide +kernel, rfl⟩

theorem witness_QueueStaysOrdered :
    (QueueOrdered dueNext ∧ NothingOverdue dueNext ∧ QuietOutsidePerformance dueNext) ∧
      step dueNext = .next (stepped dueNext) := ⟨by decide +kernel, rfl⟩

/-- Key 40 driven, key 30 Gated in capture, its G2 taken next. -/
def drivenAndGated : State :=
  next (.hammerTrip 30 .g2 6500 0) { gated with drive := pushed.drive }

theorem witness_CapturesStayFormed :
    DrivenKeysAtRest drivenAndGated ∧ CapturesFormed drivenAndGated ∧
      step drivenAndGated = .next (stepped drivenAndGated) := ⟨by decide +kernel, by decide +kernel, rfl⟩

/-- RLOUT is busy, so that the Push of the strike due waits; a PedalSet waits too. -/
def waitingPush : State :=
  next (.pushTimerExpiry 39)
    (after .ptTick
      (atPt 98049
        { setReplay 2 ⟨.requested, 800, none, none⟩ struck with
          rail :=
            { struck.rail with waiting := [⟨.pedalSet 2, 999000⟩], tx := some ⟨⟨0x62, 3, []⟩, 12000000, true⟩ } }))

theorem waitingPush_waiting :
    waitingPush.rail.waiting = [⟨.pedalSet 2, 999000⟩, ⟨.push 39 40 420, 1000000⟩] := by decide +kernel

theorem waitingPush_owned : PushesOwned waitingPush := by
  refine ⟨fun r hr => ?_, by decide +kernel⟩
  rw [waitingPush_waiting, List.mem_cons, List.mem_singleton] at hr
  rcases hr with rfl | rfl
  · trivial
  · exact ⟨by decide +kernel, by decide +kernel, Or.inl (by decide +kernel)⟩

theorem witness_RequestsStayOwned :
    PedalRequests waitingPush ∧ (PushesOwned waitingPush ∧ RunOnlyStopped waitingPush) ∧
      step waitingPush = .next (stepped waitingPush) :=
  ⟨by decide +kernel, ⟨waitingPush_owned, by decide +kernel⟩, rfl⟩

/-- A run in Probing whose push time-out is taken next. -/
theorem witness_RequestsStayOwned_probe :
    let s := next (.pushTimerExpiry 39) quickRun
    (ProbeDriven s ∧ RunOnlyStopped s) ∧ step s = .next (stepped s) ∧ drivesProbe s.drive[39] = true ∧
      ∃ c, s.run = some c ∧ c.phase = .probing ∧ c.taken = true ∧ (s.drive[c.current]).state = .pushing :=
  ⟨by decide +kernel, rfl, by decide +kernel, _, rfl, by decide +kernel⟩

theorem nothing_waits_owned (s : State) (h : s.rail.waiting = []) : PushesOwned s :=
  ⟨fun r hr => by simp [h] at hr, fun k => by simp [h]⟩

/-- A step that begins a Push frame, in Running and for a probe in Stopped. -/
theorem witness_PushesAreSentOnlyInPerformance :
    (PushesOwned dueNext ∧ RunOnlyStopped dueNext ∧ step dueNext = .next (stepped dueNext) ∧
      (stepped dueNext).rail.tx = some ⟨⟨0x61, 0, [40, 0x01, 0xA4]⟩, 12000000, true⟩ ∧ dueNext.rail.tx = none) ∧
      let probing := next (.calibrateQuick 5 [40, 40]) stopped
      PushesOwned probing ∧ RunOnlyStopped probing ∧ step probing = .next (stepped probing) ∧
        (stepped probing).rail.tx = some ⟨⟨0x61, 0, [40, 0x01, 0xF4]⟩, 12000000, true⟩ ∧ probing.rail.tx = none :=
  ⟨⟨nothing_waits_owned _ (by decide +kernel), by decide +kernel, rfl, by decide +kernel, by decide +kernel⟩,
    nothing_waits_owned _ (by decide +kernel), by decide +kernel, rfl, by decide +kernel, by decide +kernel⟩

/-! ### Arithmetic -/

/-- Default Curve A at its ends, at a point and between two points. -/
theorem witness_CurvesInterpolate :
    ((curvePoints defaultCurveA).map (·.x)).Pairwise (· < ·) ∧ 200 ≤ defaultCurveA.p1.x ∧ defaultCurveA.p8.x ≤ 5600 ∧
      (curvePoints defaultCurveA)[3]? = some ⟨1400, 420⟩ ∧ (curvePoints defaultCurveA)[4]? = some ⟨2000, 520⟩ ∧
      (1400 ≤ 1800 ∧ 1800 < 2000) ∧ 1400 ≤ 1400 ∧ 1999 < 2000 := by decide +kernel

/-- A target ahead by exactly U is not late; the greatest U; a target past by one unit, and at the half range. -/
theorem witness_IntakeIsJudged :
    (1735 ≤ 6554 ∧ 6554 ≤ 6554) ∧
      (¬2147483648 < ((1735#32 - 0#32)).toNat ∧ ¬((1735#32 - 0#32)).toNat < 1735) ∧
      (¬2147483648 < ((1734#32 - 0#32)).toNat ∧ ((1734#32 - 0#32)).toNat < 1735) ∧
      2147483648 < ((0#32 - 1#32)).toNat ∧ ¬2147483648 < ((2147483648#32 - 0#32)).toNat := by decide +kernel

theorem witness_ArrivalIsReported :
    (measured.drive[39]).job = some (.strike (computeStrike key40 39 40 1800 1000000 311)) ∧
      (computeStrike key40 39 40 1800 1000000 311).key = 39 ∧ (measured.drive[39]).issue = some 998265 := by
  decide +kernel

/-- Sweep probes of a key whose third probe is the first to arrive. -/
def sweepProbes : List ProbeRecord :=
  [⟨100, false, 0, 0⟩, ⟨120, false, 0, 0⟩, ⟨140, true, 300, 30000⟩, ⟨160, false, 0, 0⟩]

theorem witness_CalibrationArithmetic : sweepProbes[3]? = some ⟨160, false, 0, 0⟩ := by decide +kernel

/-- R54: onset 2, adjust +1: probe 3 at level 160, less y1 = 180 of Curve A. -/
theorem test_onset :
    onsetIndex sweepProbes = some 2 ∧ adjustedIndex 2 1 3 = 3 ∧
      onsetOffset defaultCal sweepProbes 3 = -20 := by decide +kernel

/-! ### Performance time and events -/

/-- The strike due at the head, and nothing due; a tick that is due, one in Held and one too early; an event of each kind
taken in, in Running and in Held. -/
theorem witness_DueActionsAreHandedOver :
    ((∃ a rest, (atPt 98050 struck).queue.actions = a :: rest ∧ isDue 98050 a.time = true) ∧
        (atPt 98050 struck).clock.part = .running ∧ NoneDue struck) ∧
      (dueNext.clock.part = .running ∧ dueNext.clock.unitStart + 10 ≤ dueNext.localTime) ∧
      held.clock.part ≠ .running ∧ (later 9 quiet).localTime < (later 9 quiet).clock.unitStart + 10 ∧
      (let waiting := { struck with clock := { struck.clock with part := PartState.held } };
        AtFrame waiting ∧ inPerformance waiting = true ∧ waiting.clock.part = .held) ∧
      (AtFrame struck ∧ inPerformance struck = true) ∧
      (noteOnFields? (noteOnBytes 41 1400 96000 5)).isSome ∧ (noteOffFields? (noteOffBytes 40 90000)).isSome ∧
      (pedalTargetFields? (pedalBytesOf 3 90000 800)).isSome :=
  ⟨⟨⟨_, _, rfl, by decide +kernel⟩, by decide +kernel, by decide +kernel⟩, by decide +kernel, by decide +kernel,
    by decide +kernel, by decide +kernel, by decide +kernel, by decide +kernel, by decide +kernel, by decide +kernel⟩

/-- Channel 40 masked; key 40 Releasing and not re-armed; a queue in order across the wrap of PT. -/
theorem witness_ActionsAreDeferredAndPlaced :
    channelAvailable { running.rail with mask := 0 } 40 = false ∧
      (channelAvailable releasing.rail 40 = true ∧ keyReady 39 releasing = false) ∧
      ([⟨4294967290, 0, .pedal 2 800⟩, ⟨5, 1, .pedal 2 0⟩] : List Action).map (fun b => place 4294967290 b.time) =
        [0, 11] := by decide +kernel

/-- Key 40 Releasing and re-armed, its measurement open or closed; the same for a probe; and one not re-armed, on a lost
link with its Release sent. -/
def ready (measuring : Bool) (job : DriveJob) : State :=
  setDrive 39 { releasing.drive[39] with rearmed := true, measuring := measuring, job := some job } releasing

/-- A strike of key 40, on channel 40. -/
def strike40 : Strike := computeStrike defaultCal 39 40 1400 100000 101

/-- The context of a sent push whose measurement carries the NotMeasured mark. -/
def marked : State := setDrive 39 { pushed.drive[39] with notMeasured := true } pushed

/-- An Idle key and each Releasing one that is ready; a Release for every state of the context; a pedal in every state. -/
theorem witness_HandOversAreTaken :
    (strike40.key = 39 ∧ channelAvailable running.rail strike40.channel = true ∧ keyReady 39 running = true ∧
        (running.drive[39]).state = .idle) ∧
      (∀ measuring, channelAvailable (ready measuring (.strike strike40)).rail 40 = true ∧
        keyReady 39 (ready measuring (.strike strike40)) = true ∧
        ((ready measuring (.strike strike40)).drive[39]).state = .releasing ∧
        ((ready measuring (.strike strike40)).drive[39]).measuring = measuring) ∧
      (keyReady 39 (ready true (.probe 40 500)) = true ∧ (ready true (.probe 40 500)).run = none) ∧
      keyReady 39 { releasing with sensor := defaultSensor } = true ∧
      ((after (.restart 1 []) pushed).drive[39]).restarting = true ∧
      ((measured.drive[39]).restarting = false ∧ (measured.drive[39]).state = .holding ∧
        (measured.drive[39]).measuring = true ∧ (measured.drive[39]).notMeasured = false) ∧
      ((marked.drive[39]).restarting = false ∧ (marked.drive[39]).state = .pushing ∧ (marked.drive[39]).stage = .sent ∧
        (marked.drive[39]).job = some (.strike strike40) ∧ (marked.drive[39]).measuring = true ∧
        (marked.drive[39]).notMeasured = true) ∧
      ((waitingPush.drive[39]).restarting = false ∧ (waitingPush.drive[39]).state = .pushing ∧
        (waitingPush.drive[39]).stage = .waiting ∧ (waitingPush.drive[39]).job = some (.strike strike40) ∧
        waitingPush.run = none) ∧
      ((running.replay[2]).state = .ready ∧ pedalAvailable running.rail 2 = true ∧
        pedalAvailable { running.rail with mask := 0 } 2 = false) ∧
      (waitingPush.replay[2]).state = .requested ∧ (gapping.replay[2]).state = .waiting := by decide +kernel

theorem witness_EventsAreDiscarded :
    (AtFrame stopped ∧ inPerformance stopped = false) ∧ inPerformance faulted = false ∧
      inPerformance unconfigured = false ∧ AtFrame running ∧
      ((noteOnBytes 40 1400 0 1).drop 1).length ≠ 9 ∧ (pedalBytesOf 0 0 0).length = 7 ∧
        byteAt (pedalBytesOf 0 0 0) 0 = 0 ∧
      3 < byteAt (pedalBytesOf 4 0 0) 0 ∧ (noteOffBytes 40 0 ++ [0]).length ≠ 5 := by decide +kernel

/-- Transposed by −12, note 12 is no key and note 13 is key 1; without, note 89 is none; key 40 masked by its role; a
target earlier than the last taken one. -/
theorem witness_NoteOnsThatNameNoStrike :
    let low : State := { running with tables := { running.tables with config := { config with transpose := -12 } } }
    let muted : State :=
      { running with tables := { running.tables with keyMap := running.tables.keyMap.set 39 ⟨40, .capture⟩ } }
    (AtFrame low ∧ inPerformance low = true ∧ NoneDue low ∧
        noteOnFields? (noteOnBytes 12 1400 100000 1) = some ⟨12, 1400, 100000, 1⟩ ∧
        (12 : Int) + low.tables.config.transpose < 1 ∧ (13 : Int) + low.tables.config.transpose = 1) ∧
      (88 < (89 : Int) + running.tables.config.transpose ∧ NoneDue running) ∧
      ((40 : Int) + muted.tables.config.transpose = ((39 : Key).val : Int) + 1 ∧
        (muted.tables.keyMap[39]).role = .capture) ∧
      NoneDue struck ∧ noteOnFields? (noteOnBytes 40 1400 99999 2) = some ⟨40, 1400, 99999, 2⟩ ∧
      struck.tables.config.replayEnable = true ∧ (struck.tables.keyMap[39]).channel ≠ 0 ∧
      (struck.tables.keyMap[39]).role = .both ∧ (struck.queue.intake[39]).last = some 100000 ∧
      earlier 99999 100000 = true := by decide +kernel

/-- A queue of `n` pedal actions far ahead, every key closed. -/
def queued (n : Nat) : State :=
  { running with queue := { running.queue with actions := List.replicate n ⟨130000, 1, .pedal 2 800⟩, nextOrder := n } }

/-- With 510 actions the two entries of a Normal strike are just free; with 511 they are not, and a Missed one (at PT
200,000) still has its one; with 512 it has not. An open key's implicit Release. -/
theorem witness_NoteOnsAreAdmitted :
    (AtFrame running ∧ inPerformance running = true ∧
        noteOnFields? (noteOnBytes 40 1400 100000 101) = some ⟨40, 1400, 100000, 101⟩ ∧
        (40 : Int) + running.tables.config.transpose = ((39 : Key).val : Int) + 1 ∧
        running.tables.config.replayEnable = true ∧ (running.tables.keyMap[39]).channel ≠ 0 ∧
        (running.tables.keyMap[39]).role = .both) ∧
      (∀ n ∈ [510, 511, 512], QueueBounded (queued n) ∧ NoneDue (queued n) ∧
        (queued n).queue.intake[39] = IntakeRecord.clear) ∧
      judgeIntake 96000 100000 1950 2000 = .normal ∧ 2 ≤ 512 - (queued 510).queue.actions.length ∧
      512 - (queued 511).queue.actions.length < 2 ∧ judgeIntake 100051 100000 1950 2000 = .missed ∧
      1 ≤ 512 - (queued 511).queue.actions.length ∧ 512 - (queued 512).queue.actions.length < 1 ∧
      judgeIntake 100050 100000 1950 2000 = .late ∧
      (QueueBounded struck ∧ (struck.queue.intake[39]).isOpen = true ∧ earlier 103000 100000 = false) ∧
      NoneDue (intakeNoteOn ⟨40, 1400, 103000, 103⟩ struck) ∧
      NoneDue (intakeNoteOn ⟨40, 1400, 100000, 101⟩ (queued 510)) := by decide +kernel

/-- A Late strike, and the past implicit Release of an open key, are due at once in Running; in Held nothing is. -/
theorem witness_NoteOnsAreAdmitted_due :
    let waiting (s : State) : State := { s with clock := { s.clock with part := .held } }
    ¬NoneDue (intakeNoteOn ⟨40, 1400, 96500, 101⟩ running) ∧
      ¬NoneDue (intakeNoteOn ⟨40, 1400, 96500, 103⟩ (setIntake 39 ⟨true, some 96100⟩ running)) ∧
      (AtFrame (waiting struck) ∧ inPerformance (waiting struck) = true ∧
        NoneDue (intakeNoteOn ⟨40, 1400, 96500, 101⟩ (waiting running))) := by decide +kernel

/-- Queued strikes of key 40 without an own Release and with one, one of key 41, and a pedal action. -/
theorem witness_NoteOnsAreAdmitted_own :
    let action (own : Option PT) : Action := ⟨98050, 0, .strike strike40 own⟩
    ((action none).body = .strike strike40 none ∧ strike40.key = 39 ∧ strike40.key ≠ 40) ∧
      (∀ st, (action (some 101000)).body ≠ .strike st none) ∧
      ∀ st, (⟨98050, 0, .pedal 2 800⟩ : Action).body ≠ .strike st none :=
  ⟨by decide +kernel, by simp, by simp⟩

theorem witness_NoteOffsRelease :
    (AtFrame struck ∧ inPerformance struck = true ∧
      noteOffFields? (noteOffBytes 40 101000) = some (40, 101000) ∧
        (40 : Int) + struck.tables.config.transpose = ((39 : Key).val : Int) + 1 ∧
        struck.tables.config.replayEnable = true ∧ (struck.tables.keyMap[39]).channel ≠ 0 ∧
        (struck.tables.keyMap[39]).role = .both ∧ (struck.queue.intake[39]).isOpen = true ∧
        NoneDue (intakeNoteOff 40 101000 struck) ∧ ¬NoneDue (intakeNoteOff 40 90000 (atPt 100001 struck))) ∧
      (88 < (89 : Int) + struck.tables.config.transpose ∧ (0 : Int) + struck.tables.config.transpose < 1 ∧
        (struck.queue.intake[40]).isOpen = false ∧ NoneDue struck) := by decide +kernel

/-- The bytes of a Pedal Target and of a Note-Off. -/
theorem test_event_layouts :
    pedalTargetFields? [0x03, 0x00, 0x01, 0x9A, 0x28, 0x07, 0xD0] = some ⟨2, 105000, 2000⟩ ∧
      noteOffFields? [0x28, 0x00, 0x01, 0x8A, 0x88] = some (40, 101000) ∧ (3 : Byte).toNat = (2 : Pedal).val + 1 := by
  decide +kernel

theorem witness_PedalTargetsAreQueued :
    pedalTargetFields? (pedalBytesOf 3 105000 2000) = some ⟨2, 105000, 2000⟩ ∧
      (QueueBounded (queued 511) ∧ (queued 511).queue.actions.length + openKeys (queued 511).queue < 512 ∧
        NoneDue (intakePedal ⟨2, 105000, 2000⟩ (queued 511)) ∧ ¬NoneDue (intakePedal ⟨2, 90000, 2000⟩ running)) ∧
      (QueueBounded (queued 512) ∧ (queued 512).queue.actions.length + openKeys (queued 512).queue = 512 ∧
        NoneDue (queued 512)) ∧
      (queued 511).tables.config.replayEnable = true ∧ AtFrame (queued 511) ∧
      inPerformance (queued 511) = true ∧
      { running with tables := { running.tables with config := defaultConfig } }.tables.config.replayEnable =
        false := by
  decide +kernel

/-! ### Requests -/

/-- A request too long for every kind, and one of the right Length in every part state; sixteen Responses pending. -/
theorem witness_RequestsNotTaken :
    (RequestTaken (nearlyFull running) ∧ ([0] : List Byte) ≠ [] ∧ (List.replicate 9 (0 : Byte)).length ≠ 8 ∧
        (List.replicate 3 (0 : Byte)).length ≠ 4 ∧ (List.replicate 2 (0 : Byte)).length ≠ 3 ∧
        (List.replicate 1 (0 : Byte)).length ≠ 2 ∧ (List.replicate 8 (0 : Byte)).length ≠ 7) ∧
      (AtFrame (full running) ∧ 16 ≤ (full running).link.responses.length ∧ .clockLatch 0 [] ∈ requestFrames 0 0x55 [] ∧
        (nearlyFull running).link.responses.length < 16) ∧
      (RequestTaken unconfigured ∧ unconfigured.clock.part = .unconfigured) ∧
      (RequestTaken stopped ∧ stopped.clock.part = .stopped) ∧
      (RequestTaken running ∧ inPerformance running = true ∧ running.clock.part = .running) ∧
      (RequestTaken held ∧ inPerformance held = true ∧ held.clock.part = .held) ∧
      (RequestTaken faulted ∧ faulted.clock.part = .faulted) ∧ (List.replicate 4 (0 : Byte)).length = 4 ∧
      (List.replicate 8 (0 : Byte)).length = 8 := by decide +kernel

/-- One more request is taken with 15 Responses pending: for Configure, Start, Hold, Resume, Stop, Restart, Clear
Errors, Clock Set, Clock Latch and Table Read in the states they act in. -/
theorem witness_requests :
    RequestTaken (nearlyFull unconfigured) ∧ (nearlyFull unconfigured).clock.part = .unconfigured ∧
      RequestTaken (nearlyFull stopped) ∧ (nearlyFull stopped).clock.part = .stopped ∧
      RequestTaken (nearlyFull running) ∧ (nearlyFull running).clock.part = .running ∧
      RequestTaken (nearlyFull held) ∧ (nearlyFull held).clock.part = .held ∧
      RequestTaken (nearlyFull faulted) ∧ (nearlyFull faulted).clock.part = .faulted := by decide +kernel

/-- Configure in both its states and with a run in flight; Start with and without a run in flight, and with a Faulted
rail. -/
theorem witness_ConfigureAndStartAreTaken :
    (RequestTaken unconfigured ∧ (unconfigured.clock.part = .unconfigured ∨ unconfigured.clock.part = .stopped)) ∧
      (RequestTaken stopped ∧ stopped.clock.part = .stopped ∧ stopped.run = none) ∧
      (RequestTaken quickRun ∧ quickRun.clock.part = .stopped ∧ quickRun.run.isSome) ∧
      let broken : State := { stopped with rail := faulted.rail }
      RequestTaken broken ∧ broken.clock.part = .stopped ∧ broken.tables.config.replayEnable = true ∧
        broken.rail.state = .faulted := by decide +kernel

/-- A Resume with nothing due, and with the head due. -/
theorem witness_HoldAndResumeAreTaken :
    (RequestTaken pushed ∧ pushed.clock.part = .running) ∧
      (RequestTaken held ∧ held.clock.part = .held ∧
        NoneDue (answered ⟨0x13, 1, .done, .plain⟩
          { held with
            clock := { held.clock with part := .running, unitStart := held.localTime } })) := by decide +kernel

/-- A strike queued, another driven with its measurement marked, a captured key announced; a Push that waits; and the link
lost for 250 ms. -/
theorem witness_StopFromPerformance :
    (let s := setCapture 29 ⟨.down, none, true, false, none, none⟩ { marked with queue := struck.queue };
      inPerformance s = true ∧ RequestTaken s ∧ (s.drive[39]).state = .pushing ∧ s.queue.actions.length = 1) ∧
      (inPerformance waitingPush = true ∧ RequestTaken waitingPush) ∧
      inPerformance (later 250000 losing) = true ∧ (later 250000 losing).clock.linkLoss = some 1250000 ∧
      1250000 ≤ (later 250000 losing).localTime := by decide +kernel

/-- LINK_LOSS_STOP one µs early, with the timer stopped, and outside Running and Held. -/
theorem witness_StopFromPerformance_early :
    ((later 249999 losing).clock.linkLoss = some 1250000 ∧ (later 249999 losing).localTime < 1250000) ∧
      running.clock.linkLoss = none ∧ inPerformance stopped = false := by decide +kernel

/-- A Stop on a Parked rail with a Release of the driven key waiting, and with a Release All waiting; a link loss on a
Faulted rail. -/
theorem witness_StopFromPerformance_rail :
    (let s : State := { twoReleases with rail := { twoReleases.rail with state := .parked } };
      inPerformance s = true ∧ RequestTaken s ∧ s.rail.state = .parked ∧ pedalAvailable s.rail 2 = true ∧
        s.rail.waiting.map (·.cmd) = [.release 39 40, .release 38 39] ∧ (s.drive[38]).state = .idle ∧
        (s.drive[39]).state ≠ .idle) ∧
      (let s : State := { running with rail := stored.rail };
        inPerformance s = true ∧ RequestTaken s ∧ (s.rail.waiting.any fun r => isReleaseAll r.cmd) = true) ∧
      let s : State := { later 250000 losing with rail := faulted.rail }
      inPerformance s = true ∧ s.clock.linkLoss = some 1250000 ∧ 1250000 ≤ s.localTime ∧ s.rail.state = .faulted := by
  decide +kernel

/-- In Stopped: a run whose Push is sent, one whose Push waits, and no run with the rail Faulted. -/
theorem witness_StopOutsidePerformance :
    (RequestTaken quickRun ∧ quickRun.clock.part = .stopped ∧ quickRun.run.isSome ∧ quickRun.rail.state ≠ .faulted) ∧
      ((quickRun.drive[39]).state = .pushing ∧ (quickRun.drive[39]).stage = .sent) ∧
      let broken : State := { stopped with rail := faulted.rail }
      RequestTaken broken ∧ broken.clock.part = .stopped ∧ broken.run = none ∧ broken.rail.state = .faulted := by
  decide +kernel

/-- In Faulted: a context whose Push is sent, one whose measurement is marked, one whose Push waits, one that holds, one
that releases, and one that waits for a Restart's Release All. -/
theorem witness_StopOutsidePerformance_faulted :
    (∀ d ∈ [pushed.drive[39], marked.drive[39], waitingPush.drive[39], measured.drive[39], releasing.drive[39],
        (after (.restart 1 []) pushed).drive[39]],
      RequestTaken (setDrive 39 d faulted) ∧ (setDrive 39 d faulted).clock.part = .faulted ∧
        (setDrive 39 d faulted).run = none ∧ (setDrive 39 d faulted).rail.state = .faulted ∧
        ((setDrive 39 d faulted).drive[39]).state ≠ .idle) ∧
      (faulted.drive[39]).state = .idle ∧ (marked.drive[39]).measuring = true ∧ (marked.drive[39]).notMeasured = true ∧
      (waitingPush.drive[39]).stage = .waiting := by decide +kernel

/-- The part Faulted on a rail that a recovery has left, Parked or with a Release All waiting; a pedal Requested, and
pedals on available and unavailable channels with the rate gap running and over. -/
theorem witness_StopOutsidePerformance_rail :
    (let s : State := { faulted with rail := { running.rail with state := .parked } };
      RequestTaken s ∧ s.clock.part = .faulted ∧ s.rail.state = .parked ∧ pedalAvailable s.rail 2 = true) ∧
      (let s : State := { faulted with rail := leftWaiting.rail, replay := waitingPush.replay };
        RequestTaken s ∧ s.clock.part = .faulted ∧ (s.replay[2]).state = .requested) ∧
      (stored.rail.waiting.any fun r => isReleaseAll r.cmd) = true ∧
      let s : State := { faulted with rail := { faulted.rail with mask := 0 }, replay := gapping.replay }
      RequestTaken s ∧ pedalAvailable s.rail 2 = false ∧ (s.replay[2]).lastSent = some 996000 ∧
        996000 + (s.tables.pedal[2]).rateGap * 1000 ≤ s.localTime ∧
        ¬996000 + (s.tables.pedal[2]).rateGap * 1000 ≤ s.localTime - 1 := by decide +kernel

theorem witness_RestartIsTaken :
    (RequestTaken pushed ∧ (pushed.drive[39]).state ≠ .idle ∧ (pushed.drive[38]).state = .idle) ∧
      RequestTaken faulted ∧ (faulted.rail.state = .off ∨ faulted.rail.state = .faulted) := by decide +kernel

/-- A Restart on a Parked rail with P3 available and not. -/
theorem witness_RestartIsTaken_parked :
    let s : State := { pushed with rail := { pushed.rail with state := .parked } }
    (RequestTaken s ∧ s.rail.state = .parked ∧ pedalAvailable s.rail 2 = true) ∧
      pedalAvailable { s.rail with mask := 0 } 2 = false ∧
      (pushed.replay[2]).state ≠ .requested := by decide +kernel

/-- R110, R150 and log entry 30: the Restart on a Parked rail leads to Waking. -/
theorem test_restart_parked :
    (after (.restart 1 []) { stopped with rail := { stopped.rail with state := .parked } }).rail.state = .waking := by
  decide +kernel

theorem witness_ClearErrorsIsTaken : RequestTaken { faulted with sticky := { railFault := true } } := by decide +kernel
theorem witness_ClockIsSetAndLatched :
    RequestTaken stopped ∧ RequestTaken running ∧ RequestTaken unconfigured ∧ RequestTaken (nearlyFull faulted) := by
  decide +kernel

/-! ### Tables and calibration runs -/

/-- A frame of 2 bytes; 30 Key Map entries in Stopped and in Running; 31 of them; table 0 and table 4; calibration
records of a current note, of a wrong range and a valid one; Key Map entries and Pedal Table records that are valid and
not, a rate gap that the record outruns and one that it does not. -/
theorem witness_TableWritesAreTaken :
    (RequestTaken stopped ∧ ([1, 2] : List Byte).length < 3) ∧
      (List.replicate 60 (0 : Byte)).length = 30 * 2 ∧ ¬(30 < (30#8).toNat) ∧ 30 < (31#8).toNat ∧
      (inPerformance running = true ∧ RequestTaken running) ∧ ((0 : Byte).toNat = 0 ∧ 3 < (4#8).toNat) ∧
      quickRun.run.map (·.current) = some 39 ∧
      (stopped.run = none ∧ (88 : Nat) = (87 : Key).val + 1 ∧ (88 < 89)) ∧
      calOf? (calBytes defaultCal) = some defaultCal ∧ calOf? (calBytes { defaultCal with pushLimit := 81 }) = none ∧
      (88#8).toNat ≤ 88 ∧ 88 < (89#8).toNat ∧
      ((stopped.tables.keyMap[1]).channel = 2 ∧ (1 : Key) ≠ 0) ∧
      (pedalRecordOf? (pedalBytes defaultPedal) = some defaultPedal ∧
        pedalRecordOf? (pedalBytes { defaultPedal with rateGap := 21 }) = none) ∧
      ((gapping.replay[2]).state = .waiting ∧ (gapping.replay[2]).waiting = some 510 ∧
        (gapping.replay[2]).lastSent = some 996000 ∧ 996000 + defaultPedal.rateGap * 1000 ≤ gapping.localTime ∧
        pedalAvailable gapping.rail 2 = true) ∧
      ¬996000 + { defaultPedal with rateGap := 5 }.rateGap * 1000 ≤ gapping.localTime := by
  decide +kernel

/-- A calibration record at the low bounds of its fields, one at the high bounds, and one past each of a few. -/
theorem witness_TableWritesAreTaken_cal :
    (let r : CalRecord :=
        { defaultCal with
          levelOffset := -255, ceiling := 0, holdLevel := 0, pushLimit := 5, gateSpacing := 1000, refLevel := 0
          firmLimit := 50, leadTrim := -2000, repGap := 2000 };
      calOf? (calBytes r) = some r) ∧
      (let r : CalRecord :=
        { defaultCal with
          levelOffset := 255, ceiling := 1023, holdLevel := 1023, pushLimit := 80, gateSpacing := 6000, refLevel := 1023
          firmLimit := 6000, leadTrim := 2000, repGap := 30000 };
        calOf? (calBytes r) = some r) ∧
      ∀ r ∈ [{ defaultCal with levelOffset := -256 }, { defaultCal with ceiling := 1024 },
          { defaultCal with leadTrim := 2001 }, { defaultCal with repGap := 1999 },
          { defaultCal with curveA := { defaultCurveA with p1 := ⟨49, 0⟩ } }],
        calOf? (calBytes r) = none := by decide +kernel

/-- A Pedal Table record at its bounds and past them; the Key Map's roles and indices at the ends of their ranges. -/
theorem witness_TableWritesAreTaken_bounds :
    (∀ r ∈ [{ defaultPedal with lead := 60000, deadband := 64, rateGap := 20 },
          { defaultPedal with lead := 0, deadband := 1, rateGap := 1 }], pedalRecordOf? (pedalBytes r) = some r) ∧
      (∀ r ∈ [{ defaultPedal with lead := 60001 }, { defaultPedal with deadband := 0 },
          { defaultPedal with deadband := 65 }, { defaultPedal with rateGap := 0 }],
        pedalRecordOf? (pedalBytes r) = none) ∧
      ((3 : Byte).toNat ≤ 3 ∧ ¬(4 : Byte).toNat ≤ 3) ∧ (0 = 0 ∨ 88 < 0) ∧ (89 = 0 ∨ 88 < 89) ∧ ¬(88 = 0 ∨ 88 < 88) := by
  decide +kernel

/-- A record that is applied, and one that stops the loop. -/
theorem witness_TableWritesAreTaken_loop :
    (∃ s', writeRecord 2 1 ([0, 3, 2, 1].take 2) stopped = .applied s' ∧ s'.tables.keyMap[0] = ⟨0, .muted⟩) ∧
      writeRecord 2 2 [3, 1] stopped = .stopped .invalid := ⟨⟨_, rfl, by decide +kernel⟩, rfl⟩

/-- First 88 of the Key Map, and one past it; a count of 0; a read in flight. -/
theorem witness_TableReadsAreTaken :
    RequestTaken running ∧ (after (.tableRead 7 [2, 88, 0]) running).tableRead = some ⟨7, 2, 88, 88⟩ ∧
      RequestTaken (after (.tableRead 7 [2, 88, 0]) running) ∧ 88 < (89#8).toNat := by decide +kernel

/-- The run of `runIn` not yet begun. -/
def begun : CalContext := newRun (quickFields [40, 41]) 39 40

/-- A Quick run of key 40 accepted, and refused for the part state and for its fields; Sweep fields at their bounds; the
note made current skipped, before the last and as the last, with the Sensor Link lost, with its context Idle, and with its
context driven. -/
theorem witness_CalibrationsAreTaken :
    (RequestTaken stopped ∧ ([40, 40] : List Byte).length = 2 ∧ quickFields [40, 40] = ⟨.quick, 40, 40, 0, 0, 0, 0⟩ ∧
        stopped.clock.part = .stopped ∧ stopped.run = none ∧ stopped.rail.state ≠ .faulted ∧
        stopped.tables.config.replayEnable = true ∧ (40 : Nat) = (39 : Key).val + 1) ∧
      (RequestTaken unconfigured ∧ RequestTaken running ∧ RequestTaken quickRun ∧ quickRun.run.isSome) ∧
      (sweepFields [1, 88, 0x03, 0xFF, 64, 15, 0xF1] = ⟨.sweep, 1, 88, 1023, 64, 15, -15⟩ ∧
        (sweepFields [1, 88, 0x04, 0x00, 64, 15, 0xF1]).base = 1024) ∧
      (let skipped :=
          { stopped with tables := { stopped.tables with keyMap := stopped.tables.keyMap.set 39 ⟨40, .muted⟩ } };
        (skipped.tables.keyMap[39]).role = .muted ∧ (40 : Key).val = (39 : Key).val + 1 ∧
          (39 : Key).val < begun.last.val ∧ (newRun (quickFields [40, 40]) 39 39).last.val ≤ (39 : Key).val) ∧
      (let free := fun (s : State) =>
          ¬((s.tables.keyMap[39]).channel = 0 ∨ (s.tables.keyMap[39]).role = .capture ∨
            (s.tables.keyMap[39]).role = .muted ∨ channelAvailable s.rail (s.tables.keyMap[39]).channel = false);
        (free { stopped with sensor := defaultSensor } ∧ defaultSensor.up = false) ∧
          (free stopped ∧ stopped.sensor.up = true ∧ (stopped.drive[39]).state = .idle) ∧
          free releasing ∧ releasing.sensor.up = true ∧ (releasing.drive[39]).state ≠ .idle) := by decide +kernel

/-- A Sweep context in Settling, at an index. -/
def sweepIn (index : Nat) (probes : List ProbeRecord) : State :=
  { stopped with
    run := some ⟨.sweep, 39, 39, 100, 20, 3, 1, 39, 40, index, .settling, probes, true, some 1000000⟩ }

/-- Every end of a timer: the next probe with its context Idle and not, and with the Sensor Link lost; a key before the
last; the last, for a Sweep with an onset and without, and for a Quick run. -/
theorem witness_RunTimersExpire :
    (∃ c, (runIn .awaitingRest ⟨500, true, 1801, 17000⟩).run = some c ∧ c.phase = .awaitingRest ∧
        c.timer = some 1000000 ∧ 1000000 ≤ stopped.localTime) ∧
      (∃ c, (sweepIn 2 (sweepProbes.take 3)).run = some c ∧ c.phase = .settling ∧ c.timer = some 1000000 ∧
        c.index < c.upper ∧ c.probes.length = c.index + 1 ∧ stopped.sensor.up = true ∧
        (stopped.drive[c.current]).state = .idle ∧ (releasing.drive[c.current]).state ≠ .idle ∧
        defaultSensor.up = false) ∧
      (∃ c, ({ runIn .settling ⟨500, true, 1801, 17000⟩ with run := some { begun with phase := .settling, timer := some 1 } } :
          State).run = some c ∧ c.upper ≤ c.index ∧ (40 : Key).val = c.current.val + 1 ∧ c.current.val < c.last.val) ∧
      (∃ c, (sweepIn 3 sweepProbes).run = some c ∧ c.upper ≤ c.index ∧ c.current = c.last ∧ c.kind = .sweep ∧
        onsetIndex c.probes = some 2) ∧
      (∃ c, (sweepIn 3 [⟨100, false, 0, 0⟩]).run = some c ∧ c.upper ≤ c.index ∧ c.current = c.last ∧
        c.kind = .sweep ∧ onsetIndex c.probes = none) ∧
      ∃ c, (runIn .settling ⟨500, true, 1801, 17000⟩).run = some c ∧ c.upper ≤ c.index ∧ c.current = c.last ∧
        c.kind = .quick ∧ c.probes = [⟨500, true, 1801, 17000⟩] :=
  ⟨⟨_, rfl, by decide +kernel⟩, ⟨_, rfl, by decide +kernel⟩, ⟨_, rfl, by decide +kernel⟩, ⟨_, rfl, by decide +kernel⟩,
    ⟨_, rfl, by decide +kernel⟩, ⟨_, rfl, by decide +kernel⟩⟩

/-- The Quick run of key 40, its Push sent; the same with the Push waiting, with the request not taken, and with the
measurement marked. -/
theorem witness_ProbesAreCarriedOut :
    ((quickRun.drive[39]).job = some (.probe 40 500) ∧
        (∃ c, quickRun.run = some c ∧ c.phase = .probing ∧ c.taken = true ∧ c.current = 39 ∧
          c.probes[c.index]? = some ⟨500, false, 0, 0⟩) ∧
        (quickRun.drive[39]).sentAt = some 1000000) ∧
      (∃ c, (runIn .awaitingRest ⟨500, true, 1801, 17000⟩).run = some c ∧ c.phase = .awaitingRest) ∧
      (∃ c, (runIn .settling ⟨500, true, 1801, 17000⟩).run = some c ∧ c.phase = .settling) ∧
      (∃ c, ({ runIn .probing ⟨500, false, 0, 0⟩ with
            run := some { begun with probes := [⟨500, false, 0, 0⟩] } } : State).run = some c ∧
        c.phase = .probing ∧ c.taken = false ∧ c.probes[c.index]? = some ⟨500, false, 0, 0⟩) ∧
      running.run = none ∧
      ((quickRun.drive[39]).state = .pushing ∧ (quickRun.drive[39]).stage = .sent ∧
        (quickRun.drive[39]).measuring = true ∧ (quickRun.drive[39]).notMeasured = false) ∧
      ((setDrive 39 { quickRun.drive[39] with stage := .waiting } quickRun).drive[39]).stage = .waiting :=
  ⟨⟨by decide +kernel, ⟨_, rfl, by decide +kernel⟩, by decide +kernel⟩, ⟨_, rfl, rfl⟩, ⟨_, rfl, rfl⟩,
    ⟨_, rfl, by decide +kernel⟩, rfl, by decide +kernel, by decide +kernel⟩

/-! ### Links -/

/-- A receiver in Verify. -/
def verifying : State := { State.reset with link := { State.reset.link with rx := .verify } }

/-- A frame met in Hunt, in Verify and behind a byte left over; in Hunt and Verify a good frame, each rejection and bytes
that decide nothing; in Locked the third and the fourth bad frame in a row, a missing Sync and a Length over 124. -/
theorem witness_ReceiverFollowsFrames :
    ((List.replicate 124 (0 : Byte)).length ≤ 124 ∧ ¬AtFrame State.reset ∧ ¬AtFrame verifying ∧
        ¬AtFrame (feed [0xA7] running)) ∧
      (State.reset.link.rx = .hunt ∧ State.reset.link.buffer = [] ∧ verifying.link.rx = .verify ∧
        verifying.link.buffer = [] ∧ running.link.rx = .locked ∧ running.link.buffer = []) ∧
      (judge (encodeFrame ⟨0x18, 1, []⟩ ++ [0x00]) = .good ⟨0x18, 1, []⟩ [0x00] ∧ judge (0x00 :: [0x3C]) = .noSync ∧
        judge (0xA7 :: [0x3C, 0x18, 125, 0]) = .overLength ∧ judge badStart = .badCheck [] ∧
        judge (0xA7 :: [0x3C]) = .needMore) ∧
      (AtFrame running ∧ running.link.badCount < 3) ∧
      let s := { running with link := { running.link with badCount := 3 } }
      AtFrame s ∧ 3 ≤ s.link.badCount := by decide +kernel

/-- What a receiver finds, at the bounds of each case: one byte; no Sync; a header of four bytes; Lengths 124 and 125; a
frame one byte short; and one whole, its Check right or wrong. -/
theorem witness_ReceiverFollowsFrames_judge :
    ((0xA7 : Byte) ≠ 0xA7 ∨ (0x3D : Byte) ≠ 0x3C) ∧ ([0x18, 0x00] : List Byte).length < 3 ∧
      (124 < (125 : Byte).toNat ∧ (124 : Byte).toNat ≤ 124) ∧ ([0x00, 0x00] : List Byte).length < (1 : Byte).toNat + 2 ∧
      (List.replicate 124 (0 : Byte)).length = (124 : Byte).toNat ∧
      judge (encodeFrame ⟨0x18, 1, [0x05]⟩ ++ [0xA7]) = .good ⟨0x18, 1, [0x05]⟩ [0xA7] ∧
      judge ([0xA7, 0x3C, 0x18, 0, 1, 0x00, 0x00] ++ [0xA7]) = .badCheck [0xA7] := by decide +kernel

/-- A Response of 13 bytes in transmission at 3 Mbit/s, before its end at 43⅓ µs and after it; Table Data of Key Map
entries 87 and 88, of a read that goes on and of one that ends. -/
theorem witness_ArbiterChooses :
    running.link.tx = none ∧
      (let sending (us : Nat) := later us (after .frameBoundary (after (.clockLatch 1 []) running));
        (sending 0).link.tx = some ⟨.response ⟨0x18, 1, .done, .clock 96000⟩, 12000000, false⟩ ∧
          (upFrame (.response ⟨0x18, 1, .done, .clock 96000⟩)).payload.length = 6 ∧
          12 * (sending 43).localTime < 12000000 + (7 + 6) * (120 / 3) ∧
          12000000 + (7 + 6) * (120 / 3) ≤ 12 * (sending 44).localTime) ∧
      let reading := after .frameBoundary (after (.tableRead 7 [2, 87, 2]) running)
      reading.link.tx = some ⟨.tableData 2 87 [87, 2], 12000000, true⟩ ∧ reading.tableRead = some ⟨7, 2, 87, 88⟩ ∧
        (87 + 1 ≤ 88 ∧ 87 + 1 ≤ lastIndex 2) ∧
        (let ending := after .frameBoundary (later 37 reading);
          ending.tableRead = some ⟨7, 2, 88, 88⟩ ∧
            ending.link.tx = some ⟨.tableData 2 88 [88, 2], 12000000 + 11 * 40, true⟩ ∧ 88 < 88 + 1) := by decide +kernel

/-- The least latency of a Strike Report and the greatest of a Probe Report that four bytes hold. -/
theorem witness_UpstreamFramesAreLaidOut :
    (-2147483648 ≤ (-2147483648 : Int) ∧ (-2147483648 : Int) < 2147483648) ∧ 4294967295 < 4294967296 := by decide +kernel

/-! ### Sensors -/

theorem witness_SensorLinkIsJudged :
    (running.snin = ByteIn.start ∧ isBadFrame badStart = true) ∧ (running.sensor.up = true ∧ running.sensor.badCount < 3) ∧
      (let s := { running with sensor := ⟨true, 0, 2, some 1005000⟩ }; s.sensor.up = true ∧ s.sensor.badCount < 3) ∧
      (let s := { running with sensor := ⟨false, 1, 0, none⟩ }; s.sensor.up = false ∧ 1 ≤ s.sensor.goodCount) ∧
      (State.reset.snin = ByteIn.start ∧ State.reset.sensor.up = false ∧ State.reset.sensor.goodCount = 0) ∧
      ∀ d ∈ (later 4999 running).sensor.window, (later 4999 running).localTime < d := by decide +kernel

/-- Kinds at the bounds of each list, and one of none. -/
theorem witness_ReceiverFollowsFrames_kinds :
    performanceCommand ⟨0x30, 1, [7]⟩ = .railPassThrough 1 [7] ∧ performanceCommand ⟨0x31, 1, []⟩ = .unknown 0x31 1 [] ∧
      performanceCommand ⟨0, 1, []⟩ = .unknown 0 1 [] := by decide +kernel

/-- Notes 1 and 88 are valid, 0 and 89 are not; a point 3, a Length of 5 and a Kind of none of the lists. -/
theorem witness_LineReceiversFindFrames_commands :
    sensorCommand ⟨0x51, 9, [1, 2, 1, 0x12, 0x34]⟩ = .keyTrip 1 .k2 .up 0x1234 9 ∧
      sensorCommand ⟨0x52, 9, [88, 1, 0x12, 0x34]⟩ = .hammerTrip 88 .g1 0x1234 9 ∧
      (∀ p ∈ [(0x51, [0, 2, 1, 0, 0]), (0x52, [89, 1, 0, 0]), (0x51, [1, 3, 1, 0, 0]), (0x53, [0, 0, 0, 0, 0]),
          ((0x54, []) : Byte × List Byte)],
        sensorCommand ⟨p.1, 9, p.2⟩ = .discardedSensorFrame p.1 9 p.2) ∧
      ((0x72 : Byte) ≠ 0x70 ∧ (0x72 : Byte) ≠ 0x71) := by decide +kernel

/-- A receiver with a byte taken, and one that scans; bad frames of the three kinds, and bytes that are none; a Sync two
bytes on, and none. -/
theorem witness_LineReceiversFindFrames :
    ((withBytes [] [0xA7] [0xA7]).snin ≠ ByteIn.start ∧ (withBytes [] [0xA7] [0xA7]).rlin ≠ ByteIn.start ∧
        ByteIn.mk [] true ≠ ByteIn.start ∧ running.snin = ByteIn.start ∧ running.rlin = ByteIn.start) ∧
      (isBadFrame (encodeFrame ⟨0x50, 1, []⟩) = false ∧ isBadFrame badStart = true ∧ judge badStart = .badCheck [] ∧
        judge [0x00, 0xA7] = .noSync ∧ judge overLength = .overLength) ∧
      (([0x3C, 0xA7, 0x3C] : List Byte)[1]? = some 0xA7 ∧ ([0x3C, 0xA7, 0x3C] : List Byte)[1 + 1]? = some 0x3C ∧
        ([0x3C, 0xA7, 0x3C] : List Byte)[0]? ≠ some 0xA7) ∧
      ∀ i : Nat, ¬(([0x3C] : List Byte)[i]? = some 0xA7 ∧ ([0x3C] : List Byte)[i + 1]? = some 0x3C) :=
  ⟨by decide +kernel, by decide +kernel, by decide +kernel, fun i h => by cases i <;> simp at h⟩

/-- The link is lost at the end of the loss window. -/
abbrev LosesLink (s : State) : Prop :=
  DrivenKeysAtRest s ∧ RunOnlyStopped s ∧ QuietOutsidePerformance s ∧ ProbeDriven s ∧ s.sensor.up = true ∧
    ∃ d ∈ s.sensor.window, d ≤ s.localTime

/-- The loss in Running with a key driven and another announced, at the fourth bad frame and at the end of the window. -/
theorem witness_SensorLossIsTaken :
    (let s := setCapture 29 ⟨.down, none, true, false, none, none⟩ { pushed with sensor := ⟨true, 0, 3, some 1005000⟩ };
      DrivenKeysAtRest s ∧ RunOnlyStopped s ∧ QuietOutsidePerformance s ∧ ProbeDriven s ∧ s.sensor.up = true ∧
        s.snin = ByteIn.start ∧ isBadFrame badStart = true ∧ 3 ≤ s.sensor.badCount ∧ s.run = none) ∧
      LosesLink (later 5000 measured) ∧ (measured.drive[39]).state = .holding ∧
      (measured.drive[39]).measuring = true := by decide +kernel

/-- Key 40 Releasing with its Release sent at a moment; 100 ms ago, one µs less, and not yet. -/
theorem witness_SensorLossIsTaken_releasing :
    let s (sent : Option Nat) : State := later 5000 (setDrive 39 { releasing.drive[39] with releaseSent := sent } releasing)
    (∀ sent ∈ [some 905000, some 905001, none], LosesLink (s sent)) ∧
      (905000 + 100000 ≤ (s none).localTime ∧ ¬905001 + 100000 ≤ (s none).localTime) := by decide +kernel

/-- A run whose probe's Push is sent, and one whose Push waits. -/
theorem witness_SensorLossIsTaken_probing :
    LosesLink (later 5000 quickRun) ∧ quickRun.run.map (fun c => (c.phase, c.taken, c.current)) =
        some (.probing, true, 39) ∧
      ((quickRun.drive[39]).state = .pushing ∧ (quickRun.drive[39]).stage = .sent ∧
        (quickRun.drive[39]).job = some (.probe 40 500)) ∧
      LosesLink (later 5000 (setDrive 39 { quickRun.drive[39] with stage := .waiting } quickRun)) := by decide +kernel

/-- A run whose probe waits for its context, which comes to rest at the loss, on a Parked rail and on an Active one. -/
theorem witness_SensorLossIsTaken_waiting :
    let run : CalContext := { begun with probes := [⟨500, false, 0, 0⟩] }
    let s (rs : RailState) : State :=
      later 5000
        { releasing with
          clock := stopped.clock, run := some run, rail := { releasing.rail with state := rs } }
    (∀ rs ∈ [RailState.parked, RailState.active], LosesLink (s rs)) ∧ run.phase = .probing ∧ run.taken = false ∧
      run.current = 39 ∧ (releasing.drive[39]).state = .releasing ∧ (releasing.drive[39]).releaseSent = some 400000 := by
  decide +kernel

/-- Key 88 captured, driven, on a lost link, and with a role that captures nothing. -/
theorem witness_CrossingsAreRouted :
    (88#8).toNat = (87 : Key).val + 1 ∧ (1#8).toNat = (0 : Key).val + 1 ∧ running.snin = ByteIn.start ∧
      (running.sensor.up = true ∧ (running.drive[87]).state = .idle ∧ (running.tables.keyMap[87]).role = .both) ∧
      (pushed.sensor.up = true ∧ (pushed.drive[39]).state ≠ .idle) ∧
      (¬(State.reset.sensor.up = true ∨ 1 ≤ State.reset.sensor.goodCount)) ∧
      (State.powerOn .level0 .lowResistor).tables.keyMap[87].role = .replay := by decide +kernel

/-- One context of key 30. -/
def capturing30 (c : CaptureContext) : State := setCapture 29 c running

theorem witness_CaptureContextsFollowKeys :
    (running.capture[29]).state = .rest ∧ (descending.capture[29]).state = .descending ∧
      ((gated.capture[29]).state = .gated ∧ (gated.capture[29]).g1 = some (5000, 95970) ∧
        (gated.capture[29]).restrike = false ∧ (gated.capture[29]).gateTimer = some 1060000) ∧
      (let c : CaptureContext := ⟨.gated, some .down, true, true, some (5000, 95970), some 1060000⟩;
        ((capturing30 c).capture[29]).state = .gated ∧ ((capturing30 c).capture[29]).remembered = some .down ∧
          ((capturing30 c).capture[29]).restrike = true) ∧
      ((capturing30 ⟨.down, none, true, false, none, none⟩).capture[29]).state = .down ∧
      ((capturing30 ⟨.quiet, none, true, false, none, none⟩).capture[29]).state = .quiet ∧
      ((capturing30 ⟨.rearmed, some .quiet, true, false, none, none⟩).capture[29]).state = .rearmed ∧
      ((capturing30 ⟨.rearmed, some .quiet, true, false, none, none⟩).capture[29]).remembered = some .quiet := by
  decide +kernel

theorem witness_DriveContextsFollowKeys :
    (let s := after (.restart 1 []) pushed; (s.drive[39]).restarting = true) ∧
      (let d := waitingPush.drive[39];
        d.restarting = false ∧ d.state = .pushing ∧ d.stage = .waiting) ∧
      (let d := pushed.drive[39];
        d.restarting = false ∧ d.state = .pushing ∧ d.stage = .sent ∧ d.notMeasured = false ∧
          pushed.rail.state ≠ .faulted ∧
          d.job = some (.strike (computeStrike defaultCal 39 40 1400 100000 101))) ∧
      ((quickRun.drive[39]).job = some (.probe 40 500) ∧ (quickRun.drive[39]).state = .pushing ∧
        (quickRun.drive[39]).stage = .sent ∧ (quickRun.drive[39]).notMeasured = false) ∧
      (let d := measured.drive[39];
        d.restarting = false ∧ d.state = .holding ∧ d.measuring = true ∧ d.notMeasured = false ∧ d.g1 = some 20000) ∧
      (let d := marked.drive[39];
        d.restarting = false ∧ d.state = .pushing ∧ d.stage = .sent ∧ ¬(d.measuring = false ∨ d.notMeasured = false)) ∧
      (let d := (ready true (.strike strike40)).drive[39];
        d.restarting = false ∧ d.state = .releasing ∧ d.measuring = true ∧ d.job = some (.strike strike40)) ∧
      let d := releasing.drive[39]
      d.restarting = false ∧ d.state = .releasing ∧ d.measuring = false ∧ releasing.run = none := by decide +kernel

theorem witness_PedalSamplesAreTaken :
    running.snin = ByteIn.start ∧ running.sensor.up = true ∧ capturing running = true ∧
      ((running.tables.pedal[2]).deadband : Int) ≤ |((interpolate defaultPedalCurve 31 : Nat) : Int) - 0| ∧
      interpolate defaultPedalCurve 31 = 8 ∧ running.captureFifo.length + announcedKeys running + 1 ≤ 128 ∧
      (let s := { running with captureFifo := List.replicate 128 (.noteOff 50 95970 .keyUp) };
        ¬s.captureFifo.length + announcedKeys s + 1 ≤ 128) ∧ capturing stopped = false := by decide +kernel

/-! ### Timers of the drive and pedal contexts, the Rail Link -/

theorem witness_DriveTimersExpire :
    ((pushed.drive[39]).state = .pushing ∧ (pushed.drive[39]).stage = .sent ∧
        (pushed.drive[39]).pushTimer = some 1040000 ∧ 1040000 ≤ (later 40000 pushed).localTime ∧
        pushed.rail.state ≠ .faulted ∧ (pushed.drive[39]).notMeasured = false) ∧
      ((pushed.drive[39]).gateTimer = some 1100000 ∧ 1100000 ≤ (later 100000 pushed).localTime ∧
        (pushed.drive[39]).measuring = true) ∧
      ((marked.drive[39]).state = .pushing ∧ (marked.drive[39]).stage = .sent ∧
        (marked.drive[39]).pushTimer = some 1040000 ∧
        ¬((marked.drive[39]).measuring = false ∨ (marked.drive[39]).notMeasured = false)) ∧
      ((quickRun.drive[39]).measuring = true ∧ (quickRun.drive[39]).gateTimer = some 1100000 ∧
        (quickRun.drive[39]).job = some (.probe 40 500)) ∧
      ((releasing.drive[39]).state = .releasing ∧ (releasing.drive[39]).restTimer = some 800000 ∧
        800000 ≤ releasing.localTime ∧ (releasing.drive[39]).measuring = false ∧ releasing.run = none) ∧
      (let s := setDrive 39 { measured.drive[39] with state := .releasing, restTimer := some 1000000 } measured;
        (s.drive[39]).state = .releasing ∧ (s.drive[39]).measuring = true ∧ (s.drive[39]).notMeasured = false ∧
          s.run = none) ∧
      (let s := setReplay 2 ⟨.waiting, 0, some 510, some 996000⟩ running;
        (s.replay[2]).state = .waiting ∧ (s.replay[2]).waiting = some 510 ∧
          (∀ t ∈ (s.replay[2]).lastSent, t + (s.tables.pedal[2]).rateGap * 1000 ≤ s.localTime) ∧
          pedalAvailable s.rail 2 = true) ∧
      (let s := setReplay 2 ⟨.spacing, 510, none, some 996001⟩ running;
        (s.replay[2]).state = .spacing ∧
          ¬∀ t ∈ (s.replay[2]).lastSent, t + (s.tables.pedal[2]).rateGap * 1000 ≤ s.localTime) := by
  decide +kernel

/-- A Releasing context that waits for a Restart's Release All, its timers running on (log entry 19). -/
theorem witness_DriveTimersExpire_restarting :
    let s := setDrive 39 { releasing.drive[39] with restarting := true, sensorlessTimer := some 500000 } releasing
    (s.drive[39]).state = .releasing ∧ (s.drive[39]).restTimer = some 800000 ∧
      (s.drive[39]).sensorlessTimer = some 500000 ∧ 800000 ≤ s.localTime ∧ (s.drive[39]).measuring = false ∧
      s.run = none := by decide +kernel

/-- A request on a Parked rail that wakes it and one that does not; a Hold and a PedalSet that wait, the Hold going first;
a busy transmitter, a full list, and a pass-through frame with nothing else to go. -/
theorem witness_RailTakesInOrder :
    (({ running.rail with state := RailState.parked } : Rail).state = .parked ∧ running.rail.state ≠ .parked) ∧
      (let s : State :=
        { running with rail := { running.rail with waiting := [⟨.pedalSet 2, 999000⟩, ⟨.hold 39 40 300, 999500⟩] } };
        s.rail.tx = none ∧ s.rail.inFlight.length < 4 ∧ nextRequest s.rail = some ⟨.hold 39 40 300, 999500⟩) ∧
      (pushed.rail.tx.isSome = true ∧ 4 ≤ stored.rail.inFlight.length) ∧
      (running.rail.tx = none ∧ running.rail.inFlight.length < 4 ∧ nextRequest running.rail = none ∧
        running.rail.passQueue = []) ∧
      let s : State := { running with rail := { running.rail with passQueue := [[1, 2]] } }
      nextRequest s.rail = none ∧ s.rail.passQueue = [1, 2] :: [] ∧ s.rail.state = .active := by decide +kernel

/-- One request waits, with a slot free. -/
def asks (c : RailCmd) (s : State) : State :=
  { s with rail := { s.rail with waiting := [⟨c, 999000⟩], tx := none, inFlight := [] } }

/-- The next request of a state. -/
abbrev Next (c : RailCmd) (s : State) : Prop :=
  s.rail.tx = none ∧ s.rail.inFlight.length < 4 ∧ nextRequest s.rail = some ⟨c, 999000⟩

/-- A Push on time, at the late limit and one unit past it; a probe's. -/
theorem witness_RailCommandsAreSent :
    Next (.push 39 40 420) (asks (.push 39 40 420) (atPt 98050 waitingPush)) ∧
      Next (.push 39 40 420) (asks (.push 39 40 420) (atPt 100050 waitingPush)) ∧
      Next (.push 39 40 420) (asks (.push 39 40 420) (atPt 100051 waitingPush)) ∧
      (waitingPush.drive[39]).job = some (.strike strike40) ∧ strike40.planned = 98050 ∧
      waitingPush.tables.config.lateLimit = 2000 ∧ waitingPush.run = none := by decide +kernel

theorem witness_RailCommandsAreSent_probe :
    Next (.push 39 40 500) (asks (.push 39 40 500) quickRun) ∧ (quickRun.drive[39]).job = some (.probe 40 500) := by
  decide +kernel

/-- Each other command but Park. -/
theorem witness_RailCommandsAreSent_others :
    Next (.hold 39 40 300) (asks (.hold 39 40 300) running) ∧ Next (.release 39 40) (asks (.release 39 40) running) ∧
      (Next (.releaseAll false false) (asks (.releaseAll false false) running) ∧ running.run = none) ∧
      Next (.pedalSet 2) (asks (.pedalSet 2) running) ∧
      Next .unpark (asks .unpark { running with rail := { running.rail with state := .waking } }) := by decide +kernel

/-- A Park that goes. -/
theorem witness_RailCommandsAreSent_park :
    Next .park (asks .park running) ∧ running.rail.state = .active ∧ (∀ k : Key, (running.drive[k]).state = .idle) ∧
      (∀ p : Pedal, (running.replay[p]).commanded = 0) ∧ running.run = none ∧
      (asks .park running).rail.waiting.erase ⟨.park, 999000⟩ = [] := by decide +kernel

/-- A Park that is dropped: a key driven; a run in flight with every key Idle. -/
theorem witness_RailCommandsAreSent_park_dropped :
    (Next .park (asks .park pushed) ∧ (pushed.drive[39]).state ≠ .idle ∧ pushed.run = none) ∧
      let s := runIn .settling ⟨500, true, 1801, 17000⟩
      Next .park (asks .park s) ∧ (s.drive[39]).state = .idle ∧ s.run.isSome = true := by decide +kernel

/-- A Restart's Release All with no run, with a run whose probe waits at the rail, whose probe waits for its context, and
in AwaitingRest, the context not Idle. -/
theorem witness_RailCommandsAreSent_restart :
    let c (phase : ProbePhase) (taken : Bool) : CalContext :=
      ⟨.quick, 39, 39, 0, 0, 0, 0, 39, 40, 0, phase, [⟨500, false, 0, 0⟩], taken, none⟩
    let s (phase : ProbePhase) (taken : Bool) : State := { releasing with run := some (c phase taken) }
    (Next (.releaseAll false true) (asks (.releaseAll false true) waitingPush) ∧ waitingPush.run = none) ∧
      Next (.releaseAll false true) (asks (.releaseAll false true) (s .probing true)) ∧
      Next (.releaseAll false true) (asks (.releaseAll false true) (s .probing false)) ∧
      Next (.releaseAll true true)
        (asks (.releaseAll true true) { s .awaitingRest true with rail := { running.rail with state := .faulted } }) ∧
      (releasing.drive[39]).state ≠ .idle ∧ (c .probing false).probes[0]? = some ⟨500, false, 0, 0⟩ := by decide +kernel

theorem witness_PassThroughsAndRepliesAreStored : AtFrame running ∧ running.rlin = ByteIn.start := by decide +kernel

/-- Sequence number 15 acknowledged by a Tag of 15, the oldest of two. -/
theorem witness_AcksAreTaken :
    let s : State :=
      { running with rail := { running.rail with inFlight := [⟨15, .unpark, true⟩, ⟨0, .releaseAll true false, true⟩] } }
    s.rail.inFlight = ⟨15, .unpark, true⟩ :: [⟨0, .releaseAll true false, true⟩] ∧ s.rlin = ByteIn.start ∧
      (15 : Byte) = (15 : BitVec 4).setWidth 8 ∧
      channelMask? ([1] ++ List.replicate 11 0 ++ [7]) = some 7 ∧
      channelMask? [2, 0] = none := by decide +kernel

/-- Channel 88, P3, and the five bits above it; a payload one byte short. -/
theorem witness_AcksAreTaken_mask :
    channelMask? ([1, 0, 0x80] ++ List.replicate 10 0) = some (1#91 <<< 87) ∧
      channelMask? ([1, 0x04] ++ List.replicate 11 0) = some (1#91 <<< 90) ∧
      channelMask? ([1, 0xF8] ++ List.replicate 11 0) = some 0 ∧
      channelMask? ([1] ++ List.replicate 11 0) = none := by decide +kernel

/-- The laws that the statement of a rail fault rests on. -/
abbrev MayFault (s : State) : Prop := RunOnlyStopped s ∧ ProbeDriven s

theorem witness_RailFaultsAreTaken :
    (MayFault nine ∧ nine.rlin = ByteIn.start ∧ nine.rail.inFlight = [⟨9, .hold 29 30 300, true⟩] ∧
        (10 : Byte) ≠ (9 : BitVec 4).setWidth 8 ∧
        nine.rail.window = some 999900 ∧ 999900 + 1000 ≤ (later 900 nine).localTime) ∧
      (MayFault running ∧ running.rail.inFlight = [] ∧ running.rail.state ≠ .faulted ∧ inPerformance running = true) ∧
      (faulted.rail.state = .faulted ∧ faulted.rail.inFlight = []) ∧
      (later 899 nine).localTime < 999900 + 1000 := by decide +kernel

/-- A run whose probe's Push is sent, one whose Push waits, and one at rest between probes. -/
theorem witness_RailFaultsAreTaken_run :
    (MayFault quickRun ∧ inPerformance quickRun = false ∧ quickRun.rail.inFlight.map (·.transmitted) = [false] ∧
        quickRun.run.map (fun r => (r.phase, r.taken, r.current)) = some (.probing, true, 39)) ∧
      ((quickRun.drive[39]).state = .pushing ∧ (quickRun.drive[39]).restarting = false ∧
        (quickRun.drive[39]).stage = .sent ∧ (quickRun.drive[39]).job = some (.probe 40 500)) ∧
      (let s := setDrive 39 { quickRun.drive[39] with stage := .waiting } quickRun;
        MayFault s ∧ (s.drive[39]).stage = .waiting) ∧
      MayFault (runIn .settling ⟨500, true, 1801, 17000⟩) := by decide +kernel

/-- A Park that waits, a context that waits for a Restart's Release All, and pedals in every state. -/
theorem witness_RailFaultsAreTaken_waiting :
    (let s := asks .park running;
      MayFault s ∧ (s.rail.waiting.any fun r => decide (r.cmd = .park)) = true) ∧
      (let s := after (.restart 1 []) pushed;
        MayFault s ∧ (s.drive[39]).restarting = true ∧ s.rail.inFlight ≠ []) ∧
      (MayFault waitingPush ∧ (waitingPush.replay[2]).state = .requested ∧ (waitingPush.replay[2]).lastSent = none) ∧
      MayFault gapping ∧ (gapping.replay[2]).state = .waiting := by decide +kernel

theorem witness_RailTimersExpire :
    (pushed.rail.tx = some ⟨⟨0x61, 0, [40, 0x01, 0xA4]⟩, 12000000, true⟩ ∧
        12000000 + (7 + 3) * 10 ≤ 12 * (later 9 pushed).localTime ∧
        ¬12000000 + (7 + 3) * 10 ≤ 12 * (later 8 pushed).localTime) ∧
      (running.rail.parkTimer = some 120000000 ∧ 120000000 ≤ (later 119000000 running).localTime ∧
        running.rail.state = .active ∧ (∀ k : Key, (running.drive[k]).state = .idle) ∧
        (∀ p : Pedal, (running.replay[p]).commanded = 0) ∧ running.run = none ∧ running.rail.waiting = []) ∧
      (pushed.rail.parkTimer = some 121000000 ∧ ¬∀ k : Key, (pushed.drive[k]).state = .idle) := by decide +kernel

end Sys2Proof.Tests
end

section
/-! PROOFS. What commands leave of the clock, the tables, the queue and the announced keys: the relations between the states
before and after a command in which the laws of the tables and of the queue are proved. -/

namespace Sys2Proof.TableProofs

open Sys2Proof Sys2Proof.Machine

/-! ## The fields that no receiver touches -/

/-- The fields the laws of the tables and of the queue speak of. -/
structure Base where
  pt : PT
  part : PartState
  tables : Tables
  queue : ActionQueue
  capture : Vector CaptureContext 88

/-- Those fields of a state. -/
def base (s : State) : Base := ⟨s.clock.pt, s.clock.part, s.tables, s.queue, s.capture⟩

theorem base_tables {s t : State} (h : base t = base s) : t.tables = s.tables := congrArg Base.tables h
theorem base_pt {s t : State} (h : base t = base s) : t.clock.pt = s.clock.pt := congrArg Base.pt h
theorem base_part {s t : State} (h : base t = base s) : t.clock.part = s.clock.part := congrArg Base.part h
theorem base_queue {s t : State} (h : base t = base s) : t.queue = s.queue := congrArg Base.queue h
theorem base_capture {s t : State} (h : base t = base s) : t.capture = s.capture := congrArg Base.capture h

@[simp] theorem respond_base (r : Response) (s : State) : base (respond r s) = base s := rfl
@[simp] theorem goodFrame_base (s : State) : base (goodFrame s) = base s := rfl

/-- The receiver's examination of bytes changes the Link Controller and the link-loss timer alone (R173, R174). -/
@[simp] theorem receive_base (n : Nat) (s : State) : base (receive n s) = base s := by
  induction n generalizing s with
  | zero => rfl
  | succ n ih =>
    unfold receive
    split
    · rfl
    · split
      · rfl
      · rw [ih]; rfl
    · split
      · rfl
      · rfl
      · rw [ih]; rfl

@[simp] theorem feed_base (bytes : List Byte) (s : State) : base (feed bytes s) = base s := by
  unfold feed; rw [receive_base]; rfl

@[simp] theorem leaveLocked_base (s : State) : base (leaveLocked s) = base s := by
  unfold leaveLocked; split <;> rfl

@[simp] theorem returnToHunt_base (bytes : List Byte) (s : State) : base (returnToHunt bytes s) = base s := by
  unfold returnToHunt
  rw [feed_base]
  exact leaveLocked_base s

/-! ## Relations that the receivers keep -/

/-- A relation between the states before and after that holds where none of the fields of `base` changes, and that can be
followed from step to step. -/
structure Stable (R : State → State → Prop) : Prop where
  of_base : ∀ {s t : State}, base t = base s → R s t
  trans : ∀ {s t u : State}, R s t → R t u → R s u

namespace Stable

variable {R : State → State → Prop} {act : State → State}

theorem refl (hR : Stable R) (s : State) : R s s := hR.of_base rfl

/-- An act behind a change of what `base` leaves out. -/
theorem after (hR : Stable R) {s t u : State} (h : R t u) (hb : base t = base s) : R s u := hR.trans (hR.of_base hb) h

/-- A good frame on PLIN is acted on, or its bytes go to the receiver (R178). -/
theorem deliver (hR : Stable R) (f : Frame) (h : ∀ s, R s (act s)) (s : State) : R s (deliver f act s) := by
  unfold Machine.deliver
  split
  · exact hR.after (h _) (goodFrame_base s)
  · exact hR.of_base (feed_base _ s)

/-- A request is acted on, or discarded (R179). -/
theorem unlessFull (hR : Stable R) (h : ∀ s, R s (act s)) (s : State) : R s (unlessFull act s) := by
  unfold Machine.unlessFull
  split
  · exact h s
  · exact hR.refl s

/-- A control request is acted on, or answered Invalid (R5). -/
theorem checkLength {invalid : State → State} (n : Nat) (p : List Byte) (hi : ∀ s, R s (invalid s))
    (h : ∀ s, R s (act s)) (s : State) : R s (checkLength n p invalid act s) := by
  unfold Machine.checkLength
  split
  · exact h s
  · exact hi s

/-- A control request on PLIN (R5, R178, R179). -/
theorem request (hR : Stable R) (f : Frame) (n : Nat) (p : List Byte) (r : State → Response) (h : ∀ s, R s (act s))
    (s : State) :
    R s (Machine.deliver f (Machine.unlessFull (Machine.checkLength n p (fun s => respond (r s) s) act)) s) :=
  hR.deliver f (hR.unlessFull (checkLength n p (fun s => hR.of_base (respond_base (r s) s)) h)) s

/-- A good frame on SNIN is acted on, or its bytes go to the receiver (R120). -/
theorem sninFrame (hR : Stable R) (f : Frame) (h : ∀ s, R s (act s)) (s : State) : R s (sninFrame f act s) := by
  unfold Machine.sninFrame
  split
  · exact h s
  · exact hR.of_base rfl

/-- A good frame of the Sensor Link is delivered, or counted (R120). -/
theorem sensorFrame (hR : Stable R) (h : ∀ s, R s (act s)) (s : State) : R s (sensorFrame act s) := by
  unfold Machine.sensorFrame
  split
  · exact hR.after (h _) rfl
  · exact hR.of_base rfl

/-- A good frame on RLIN is acted on, or its bytes go to the receiver (R141). -/
theorem rlinFrame (hR : Stable R) (f : Frame) (h : ∀ s, R s (act s)) (s : State) : R s (rlinFrame f act s) := by
  unfold Machine.rlinFrame
  split
  · exact h s
  · exact hR.of_base rfl

end Stable

/-- Whatever state a meaning leads to from `s` stands in the relation to `s`. -/
def LeadsTo (R : State → State → Prop) (s : State) (o : Out) : Prop := ∀ t, o = .next t → R s t

theorem leadsTo_next {R : State → State → Prop} {s t : State} (h : R s t) : LeadsTo R s (.next t) := by
  rintro _ ⟨⟩
  exact h

/-! ## The step -/

@[simp] theorem emptied_base (l : LineIn) (s : State) : base (emptied l s) = base s := by cases l <;> rfl

@[simp] theorem takeBehind_base (l : LineIn) (rest : List Byte) (s : State) : base (takeBehind l rest s) = base s := by
  cases l with
  | plin => exact feed_base rest s
  | snin => rfl
  | rlin => rfl

section Step

variable {P : State → Prop} (hbase : ∀ s t : State, base t = base s → P s → P t)
  (hexec : ∀ (c : Instr) (s t : State), P s → exec c s = .next t → P t)

include hbase hexec

theorem takeUp_keeps (r : Raised) {s t : State} (hs : P s) (h : takeUp r s = .next t) : P t := by
  cases r with
  | event c => exact hexec c s t hs h
  | frame l c rest =>
    unfold takeUp at h
    simp only at h
    split at h
    · next u hu =>
      cases h
      exact hbase u _ (takeBehind_base l rest u) (hexec c _ u (hbase s _ (emptied_base l s) hs) hu)
    · cases h
    · cases h

/-- A law of the fields of `base` that every command keeps is kept by every step. -/
theorem step_keeps {s t : State} (hs : P s) (h : step s = .next t) : P t := by
  unfold step at h
  split at h
  · unfold idleStep at h
    split at h
    · unfold endMoment at h
      split at h
      · exact hexec _ s t hs h
      · cases h; exact hbase s _ rfl hs
    · exact takeUp_keeps hbase hexec _ hs h
    · exact takeUp_keeps hbase hexec _ (hbase s { s with tieBreak := s.tieBreak + 1 } rfl hs) h
  · next c rest _ => exact hexec c _ t (hbase s { s with pending := rest } rfl hs) h

end Step

/-! ## Operations that leave the clock, the tables and the queue, and announce no key -/

/-- No key is announced (R132). -/
def Silent (s : State) : Prop := ∀ k : Key, (s.capture[k]).announced = false

/-- What the operations on drive contexts, pedals, the run and the rail's lists do to the rest of the part. -/
structure Calm (s t : State) : Prop where
  outerEq : outer t = outer s
  queueEq : t.queue = s.queue
  staysSilent : Silent s → Silent t

theorem outer_tables {s t : State} (h : outer t = outer s) : t.tables = s.tables := congrArg Outer.tables h
theorem outer_clock {s t : State} (h : outer t = outer s) : t.clock = s.clock := congrArg Outer.clock h

theorem silent_of_capture {s t : State} (h : t.capture = s.capture) (hs : Silent s) : Silent t := by
  unfold Silent; rw [h]; exact hs

namespace Calm

theorem refl (s : State) : Calm s s := ⟨rfl, rfl, id⟩

theorem trans {s t u : State} (h : Calm s t) (h' : Calm t u) : Calm s u :=
  ⟨h'.outerEq.trans h.outerEq, h'.queueEq.trans h.queueEq, h'.staysSilent ∘ h.staysSilent⟩

theorem after {s t u : State} (h' : Calm t u) (h : Calm s t) : Calm s u := h.trans h'

/-- An operation that leaves the capture contexts too. -/
theorem of_capture {s t : State} (ho : outer t = outer s) (hq : t.queue = s.queue) (hc : t.capture = s.capture) :
    Calm s t := ⟨ho, hq, silent_of_capture hc⟩

theorem ite {s t u : State} {c : Prop} [Decidable c] (ht : Calm s t) (hu : Calm s u) : Calm s (if c then t else u) := by
  split
  · exact ht
  · exact hu

/-- The same operation for each key or pedal in turn. -/
theorem foldl {α : Type} {f : State → α → State} (h : ∀ s a, Calm s (f s a)) (l : List α) (s : State) :
    Calm s (l.foldl f s) :=
  List.foldlRecOn l f (refl s) fun b hb a _ => Calm.trans hb (h b a)

end Calm

/-! ### Shared operations -/

theorem addReport_calm (r : Report) (s : State) : Calm s (addReport r s) :=
  .of_capture (addReport_outer r s) (addReport_queue r s) (addReport_capture r s)
theorem addReports_calm (rs : List Report) (s : State) : Calm s (addReports rs s) :=
  Calm.foldl (fun s r => addReport_calm r s) rs s
theorem setDrive_calm (k : Key) (c : DriveContext) (s : State) : Calm s (setDrive k c s) := ⟨rfl, rfl, id⟩
theorem withDrive_calm (d : Vector DriveContext 88) (s : State) : Calm s { s with drive := d } := ⟨rfl, rfl, id⟩
theorem setReplay_calm (p : Pedal) (c : PedalReplay) (s : State) : Calm s (setReplay p c s) := ⟨rfl, rfl, id⟩
theorem reloadPark_calm (s : State) : Calm s (reloadPark s) := ⟨rfl, rfl, id⟩
theorem withdraw_calm (p : RailCmd → Bool) (s : State) : Calm s (withdraw p s) := ⟨rfl, rfl, id⟩
theorem wake_calm (s : State) : Calm s (wake s) := .of_capture (wake_outer s) (wake_queue s) (wake_capture s)
theorem requestRail_calm (c : RailCmd) (s : State) : Calm s (requestRail c s) :=
  .of_capture (requestRail_outer c s) (requestRail_queue c s) (requestRail_capture c s)
theorem requestReleaseAll_calm (b c : Bool) (s : State) : Calm s (requestReleaseAll b c s) :=
  .of_capture (requestReleaseAll_outer b c s) (requestReleaseAll_queue b c s) (by unfold requestReleaseAll; split <;> rfl)
theorem releaseEverything_calm (c : Bool) (s : State) : Calm s (releaseEverything c s) := by
  unfold releaseEverything
  split
  · exact (⟨rfl, rfl, id⟩ : Calm s { s with rail := clearInFlight s.rail }).trans (requestReleaseAll_calm _ _ _)
  · exact requestReleaseAll_calm _ _ s

/-! ### Capture notices -/

theorem restNotice_calm (k : Key) (s : State) : Calm s (restNotice k s) := by
  refine ⟨rfl, rfl, fun h j => ?_⟩
  rw [restNotice, setCapture_get]
  split
  · rfl
  · exact h j
theorem driveNotice_calm (k : Key) (s : State) : Calm s (driveNotice k s) := by
  unfold driveNotice
  split
  · exact (restNotice_calm k s).trans ⟨rfl, rfl, id⟩
  · exact restNotice_calm k s

/-! ### Measurements, the run and the drive contexts -/

theorem probeOutcome_calm (k : Key) (d : DriveContext) (o : MeasOutcome) (s : State) : Calm s (probeOutcome k d o s) := by
  refine .of_capture (probeOutcome_outer k d o s) (probeOutcome_queue k d o s) ?_
  unfold probeOutcome probeRecorded
  (repeat' split) <;> simp
theorem takeProbe_calm (c : CalContext) (s : State) : Calm s (takeProbe c s) :=
  (((driveNotice_calm c.current s).trans (setDrive_calm _ _ _)).trans (requestRail_calm _ _)).trans ⟨rfl, rfl, id⟩
theorem idleReport_calm (k : Key) (s : State) : Calm s (idleReport k s) := by
  unfold idleReport
  split
  · exact .refl s
  · next c _ =>
    split
    · split
      · exact ⟨rfl, rfl, id⟩
      · exact .ite (.refl s) (takeProbe_calm c s)
      · exact .refl s
    · exact .refl s
theorem strikeClosed_calm (d : DriveContext) (st : Strike) (o : MeasOutcome) (s : State) (h : ∀ a b t, o ≠ .arrived a b t) :
    Calm s (strikeClosed d st o s) := by
  cases o with
  | arrived a b t => exact absurd rfl (h a b t)
  | noArrival => exact addReport_calm _ s
  | notMeasured => exact addReport_calm _ s
/-- A measurement that closes without an arrival writes no table (R95, R96). -/
theorem closeMeasurement_calm (k : Key) (o : MeasOutcome) (s : State) (h : ∀ a b t, o ≠ .arrived a b t) :
    Calm s (closeMeasurement k o s) := by
  unfold closeMeasurement
  simp only
  split
  · exact (strikeClosed_calm _ _ o _ h).after (setDrive_calm k _ s)
  · exact (probeOutcome_calm _ _ _ _).after (setDrive_calm k _ s)
  · exact setDrive_calm k _ s
theorem closeOpen_calm (k : Key) (s : State) : Calm s (closeOpen k s) :=
  .ite (closeMeasurement_calm k _ s (by split <;> simp)) (.refl s)
theorem closeMarked_calm (k : Key) (s : State) : Calm s (closeMarked k s) :=
  .ite (closeMeasurement_calm k _ s (by simp)) (.refl s)
theorem becomeIdle_calm (k : Key) (s : State) : Calm s (becomeIdle k s) :=
  ((setDrive_calm k _ s).trans (restNotice_calm k _)).trans (idleReport_calm k _)
theorem comeToRest_calm (k : Key) (s : State) : Calm s (comeToRest k s) :=
  (closeOpen_calm k s).trans (becomeIdle_calm k _)
theorem beginRelease_calm (k : Key) (s : State) : Calm s (beginRelease k s) :=
  ((setDrive_calm k _ s).trans (requestRail_calm _ _)).trans (closeMarked_calm k _)
theorem endPush_calm (k : Key) (s : State) : Calm s (endPush k s) := by
  unfold endPush
  simp only
  split
  · exact ((setDrive_calm k _ s).trans (requestRail_calm _ _)).trans (closeMarked_calm k _)
  · exact beginRelease_calm k s
  · exact .refl s
theorem giveUpPush_calm (k : Key) (s : State) : Calm s (giveUpPush k s) := by
  unfold giveUpPush
  refine (withdraw_calm (isPushOf k) s).trans ?_
  simp only
  split
  · exact (addReport_calm _ _).trans (becomeIdle_calm k _)
  · exact becomeIdle_calm k _
  · exact becomeIdle_calm k _
theorem recordG1_calm (k : Key) (stamp : Stamp) (s : State) : Calm s (recordG1 k stamp s) :=
  recordG1_eq k stamp s ▸ setDrive_calm k _ s
theorem lossMarks_calm (k : Key) (s : State) : Calm s (lossMarks k s) :=
  .ite ((setDrive_calm k _ s).trans (.ite (closeMeasurement_calm k _ _ (by simp)) (.refl _))) (.refl s)
theorem lossReleases_calm (k : Key) (s : State) : Calm s (lossReleases k s) := by
  unfold lossReleases
  simp only
  split
  · exact .ite (comeToRest_calm k s) (setDrive_calm k _ s)
  · exact .refl s
theorem driveLoss_calm (s : State) : Calm s (driveLoss s) :=
  Calm.foldl (fun s k => (lossReleases_calm k _).after (lossMarks_calm k s)) allKeys s
theorem closeCutShort_calm (s : State) : Calm s (closeCutShort s) :=
  Calm.foldl (fun s k => .ite (closeMarked_calm k s) (.refl s)) allKeys s
theorem driveStop_calm (s : State) : Calm s (driveStop s) :=
  (withDrive_calm _ _).after ((withdraw_calm _ _).after ((addReports_calm _ _).after (closeCutShort_calm s)))
theorem driveFaultStop_calm (s : State) : Calm s (driveFaultStop s) :=
  (withDrive_calm _ _).after ((addReports_calm _ _).after (closeCutShort_calm s))
theorem driveRestart_calm (s : State) : Calm s (driveRestart s) := (withdraw_calm _ s).trans ⟨rfl, rfl, id⟩
theorem captureLoss_calm (s : State) : Calm s (captureLoss s) :=
  ⟨rfl, rfl, fun _ k => by simp [captureLoss, CaptureContext.clear]⟩

/-! ### Pedals -/

theorem issuePosition_calm (p : Pedal) (n : Nat) (s : State) : Calm s (issuePosition p n s) :=
  .ite ((setReplay_calm p _ s).trans (requestRail_calm _ _)) (setReplay_calm p _ s)
theorem endGap_calm (p : Pedal) (s : State) : Calm s (endGap p s) := by
  unfold endGap
  split
  · exact setReplay_calm p _ s
  · exact issuePosition_calm p _ s
  · exact .refl s
  · exact .refl s
theorem endGapIfOver_calm (p : Pedal) (s : State) : Calm s (endGapIfOver p s) := .ite (endGap_calm p s) (.refl s)
theorem pedalToRest_calm (p : Pedal) (s : State) : Calm s (pedalToRest p s) := by
  unfold pedalToRest
  split
  · exact setReplay_calm p _ s
  · exact .ite ((setReplay_calm p _ s).trans (requestRail_calm _ _)) (setReplay_calm p _ s)
theorem pedalsToRest_calm (s : State) : Calm s (pedalsToRest s) := Calm.foldl (fun s p => pedalToRest_calm p s) allPedals s
theorem pedalFault_calm (p : Pedal) (s : State) : Calm s (pedalFault p s) := by
  unfold pedalFault
  split
  · exact setReplay_calm p _ s
  · exact setReplay_calm p _ s
  · exact .refl s
  · exact .refl s
theorem pedalsFault_calm (s : State) : Calm s (pedalsFault s) := Calm.foldl (fun s p => pedalFault_calm p s) allPedals s

/-! ### The rail -/

theorem allIdle_calm (s : State) : Calm s (allIdle s) := by
  have h : Calm s (withdraw (ofContext notIdle s.drive)
      { s with drive := s.drive.map (releaseAllNotice true s.localTime s.sensor.up) }) := ⟨rfl, rfl, id⟩
  unfold allIdle
  simp only
  split
  · exact h
  · exact .ite (h.trans (idleReport_calm _ _)) h
theorem recordSending_calm (c : RailCmd) (s : State) : Calm s (recordSending c s) := by
  cases c with
  | push k _ _ => exact (setDrive_calm k _ s).trans (reloadPark_calm _)
  | hold _ _ _ => exact reloadPark_calm s
  | release k _ => exact setDrive_calm k _ s
  | releaseAll _ restart => exact .ite (allIdle_calm s) ⟨rfl, rfl, id⟩
  | pedalSet p => exact (setReplay_calm p _ s).trans (reloadPark_calm _)
  | park => exact ⟨rfl, rfl, id⟩
  | unpark => exact .refl s
  | passThrough _ => exact .refl s
theorem sendCommand_calm (start : Nat) (c : RailCmd) (s : State) : Calm s (sendCommand start c s) :=
  (⟨rfl, rfl, id⟩ : Calm s (transmit start c s)).trans (recordSending_calm c _)
theorem missAtIssue_calm (k : Key) (st : Strike) (s : State) : Calm s (missAtIssue k st s) :=
  (addReport_calm _ s).trans (becomeIdle_calm k _)
theorem takeCommand_calm (start : Nat) (c : RailCmd) (s : State) : Calm s (takeCommand start c s).state := by
  unfold takeCommand
  split
  · split
    · exact sendCommand_calm start _ s
    · split
      · exact missAtIssue_calm _ _ s
      · exact (setDrive_calm _ _ s).trans (sendCommand_calm start _ _)
  · split
    · exact sendCommand_calm start _ s
    · exact reloadPark_calm s
  · exact sendCommand_calm start _ s
theorem takePassThrough_calm (start : Nat) (s : State) : Calm s (takePassThrough start s) := by
  unfold takePassThrough
  split
  · exact .refl s
  · exact .ite ((sendCommand_calm start _ _).after ⟨rfl, rfl, id⟩) (.refl s)
theorem railTake_calm (start n : Nat) (s : State) : Calm s (railTake start n s) := by
  induction n generalizing s with
  | zero => exact .refl s
  | succ n ih =>
    unfold railTake
    split
    · split
      · exact takePassThrough_calm start s
      · next q _ =>
        have h : Calm s (takeCommand start q.cmd { s with rail := { s.rail with waiting := s.rail.waiting.erase q } }).state :=
          (takeCommand_calm start q.cmd _).after ⟨rfl, rfl, id⟩
        split
        · next t ht => rw [ht] at h; exact h
        · next t ht => rw [ht] at h; exact h.trans (ih t)
    · exact .refl s
theorem railServiceAt_calm (start : Nat) (s : State) : Calm s (railServiceAt start s) := railTake_calm start _ s
theorem railService_calm (s : State) : Calm s (railService s) := railTake_calm _ _ s
theorem faultRail_calm (s : State) : Calm s (faultRail s) := .ite ⟨rfl, rfl, id⟩ ⟨rfl, rfl, id⟩
theorem restartIdle_calm (s : State) : Calm s (restartIdle s) := ⟨rfl, rfl, id⟩
theorem recoverIfFaulted_calm (s : State) : Calm s (recoverIfFaulted s) :=
  .ite (releaseEverything_calm false s) (.refl s)
theorem takePass_calm (p : List Byte) (s : State) : Calm s (takePass p s) := .ite ⟨rfl, rfl, id⟩ ⟨rfl, rfl, id⟩
theorem endRailFrame_calm (t : RailTx) (s : State) : Calm s (endRailFrame t s) := .ite ⟨rfl, rfl, id⟩ ⟨rfl, rfl, id⟩
theorem parkExpires_calm (s : State) : Calm s (parkExpires s) :=
  .ite ((requestRail_calm _ _).after ⟨rfl, rfl, id⟩) (reloadPark_calm s)

/-! ### Calibration runs -/

theorem abortKey_calm (c : CalContext) (s : State) : Calm s (abortKey c s) := by
  unfold abortKey
  split
  · split
    · exact giveUpPush_calm _ s
    · exact beginRelease_calm _ s
    · exact .refl s
  · exact .refl s
theorem abortRun_calm (s : State) : Calm s (abortRun s) := by
  unfold abortRun
  split
  · exact .refl s
  · next c _ => exact (addReport_calm _ _).after ((abortKey_calm c s).trans ⟨rfl, rfl, id⟩)
theorem beginProbe_calm (c : CalContext) (s : State) : Calm s (beginProbe c s) := by
  have h (r : Option CalContext) : Calm s { s with run := r } := ⟨rfl, rfl, id⟩
  exact .ite ((h _).trans (.ite (takeProbe_calm _ _) (.refl _))) ((h _).trans (abortRun_calm _))
theorem makeCurrent_calm (n : Nat) (k : Key) (c : CalContext) (s : State) : Calm s (makeCurrent n k c s) := by
  induction n generalizing k s with
  | zero => exact ⟨rfl, rfl, id⟩
  | succ n ih =>
    unfold makeCurrent
    split
    · refine (addReport_calm (skippedResult c k) s).trans ?_
      simp only
      split
      · exact ih _ _
      · exact ⟨rfl, rfl, id⟩
    · exact beginProbe_calm _ s
theorem nextKey_calm (c : CalContext) (s : State) : Calm s (nextKey c s) := by
  unfold nextKey
  split
  · exact makeCurrent_calm _ _ c s
  · exact ⟨rfl, rfl, id⟩
theorem startRun_calm (f : CalFields) (s : State) : Calm s (startRun f s) := by
  unfold startRun
  split
  · exact (wake_calm s).trans (makeCurrent_calm _ _ _ _)
  · exact .refl s
theorem loseSensor_base_calm (s : State) :
    Calm { s with sensor := defaultSensor, sticky := { s.sticky with sensorLoss := true } } (loseSensor s) :=
  ((driveLoss_calm _).trans (captureLoss_calm _)).trans (abortRun_calm _)

end Sys2Proof.TableProofs
end

section
/-! PROOFS. The order of the Action Queue in time (R74, R75), and the operations that keep it: entries and hand-overs, flushes,
and all that leaves the queue alone. -/

namespace Sys2Proof.TableProofs

open Sys2Proof Sys2Proof.Machine

/-! ## Times read forward from PT (R2) -/

/-- A time is not earlier than PT exactly when it lies at most half the range ahead. -/
theorem earlier_eq_false_iff (a pt : PT) : earlier a pt = false ↔ (a - pt).toNat ≤ 2147483648 := by
  simp only [earlier, decide_eq_false_iff_not]
  bv_omega

theorem place_of_not_earlier {a pt : PT} (h : earlier a pt = false) : place pt a = ((a - pt).toNat : Int) := by
  simp [place, h]

/-- What is not overdue is due exactly at PT. -/
theorem isDue_of_not_earlier {a pt : PT} (h : earlier a pt = false) : isDue pt a = decide (place pt a = 0) := by
  rw [place_of_not_earlier h, isDue, h, Bool.false_or, Bool.eq_iff_iff, beq_iff_eq, decide_eq_true_eq]
  bv_omega

/-- A time that is neither overdue nor due is not overdue one unit later, and one unit nearer. -/
theorem place_next_pt {a pt : PT} (h : earlier a pt = false) (hd : isDue pt a = false) :
    earlier a (pt + 1#32) = false ∧ place (pt + 1#32) a = place pt a - 1 := by
  rw [isDue_of_not_earlier h, place_of_not_earlier h, decide_eq_false_iff_not] at hd
  have hb := (earlier_eq_false_iff a pt).mp h
  have hn : (a - (pt + 1#32)).toNat + 1 = (a - pt).toNat := by bv_omega
  have he : earlier a (pt + 1#32) = false := (earlier_eq_false_iff _ _).mpr (by omega)
  exact ⟨he, by rw [place_of_not_earlier h, place_of_not_earlier he]; omega⟩

/-- A deferral puts a due strike 100 units ahead of PT (R78). -/
theorem place_deferred {a pt : PT} (h : earlier a pt = false) (hd : isDue pt a = true) :
    earlier (a + 100#32) pt = false ∧ isDue pt (a + 100#32) = false := by
  have hz : place pt a = 0 := by rw [isDue_of_not_earlier h] at hd; exact of_decide_eq_true hd
  rw [place_of_not_earlier h] at hz
  have hn : (a + 100#32 - pt).toNat = 100 := by bv_omega
  have he : earlier (a + 100#32) pt = false := (earlier_eq_false_iff _ _).mpr (by omega)
  exact ⟨he, by rw [isDue_of_not_earlier he, place_of_not_earlier he, hn]; rfl⟩

/-- An action that would not be late is placed at PT or ahead of it (R44, R45). -/
theorem before_not_earlier {now target : PT} {u : Nat} (h : placementLateness now target u = none) :
    earlier (before target u) now = false := by
  unfold placementLateness at h
  split at h
  · cases h
  · next he =>
    split at h
    · next hu =>
      rw [Bool.not_eq_true, earlier_eq_false_iff] at he
      rw [earlier_eq_false_iff]
      unfold before
      have hs : (BitVec.ofNat 32 u).toNat = u := by rw [BitVec.toNat_ofNat]; omega
      generalize BitVec.ofNat 32 u = v at *
      bv_omega
    · cases h

theorem now_not_earlier (now : PT) : earlier now now = false := by simp [earlier]

theorem placed_not_earlier (now target : PT) (u : Nat) : earlier (placed now target u) now = false := by
  unfold placed
  split
  · next h => exact before_not_earlier h
  · exact now_not_earlier now

/-- A strike judged Normal at intake is planned at PT or ahead of it (R43, R44). -/
theorem planned_not_earlier {now target : PT} {u limit : Nat} (h : judgeIntake now target u limit = .normal) :
    earlier (before target u) now = false := by
  unfold judgeIntake at h
  split at h
  · next hn => exact before_not_earlier hn
  · split at h <;> cases h

/-! ## Actions in order, none overdue -/

/-- The actions stand in order of time read forward from PT, and none is overdue (R74, R75). -/
structure InTime (pt : PT) (as : List Action) : Prop where
  ordered : (as.map fun a => place pt a.time).Pairwise (· ≤ ·)
  noneOverdue : ∀ a ∈ as, earlier a.time pt = false

theorem inTime_nil (pt : PT) : InTime pt [] := ⟨.nil, by simp⟩

theorem InTime.tail {pt : PT} {a : Action} {as : List Action} (h : InTime pt (a :: as)) : InTime pt as :=
  ⟨h.ordered.of_cons, fun b hb => h.noneOverdue b (List.mem_cons_of_mem a hb)⟩

/-- The entry placed by its time is one entry more (R74). -/
theorem insertAction_perm (pt : PT) (a : Action) (as : List Action) : (insertAction pt a as).Perm (a :: as) := by
  induction as with
  | nil => exact .refl _
  | cons b as ih =>
    unfold insertAction
    split
    · exact .refl _
    · exact (ih.cons b).trans (.swap a b as)

theorem InTime.insert {pt : PT} {a : Action} {as : List Action} (h : InTime pt as) (ha : earlier a.time pt = false) :
    InTime pt (insertAction pt a as) := by
  constructor
  · induction as with
    | nil => exact List.pairwise_singleton _ _
    | cons b as ih =>
      have hb := List.pairwise_cons.mp (by simpa only [List.map_cons] using h.ordered)
      unfold insertAction
      split
      · next hlt =>
        simp only [List.map_cons] at hb ⊢
        refine List.pairwise_cons.mpr ⟨fun x hx => ?_, h.ordered⟩
        rcases List.mem_cons.mp hx with rfl | hx
        · exact hlt.le
        · exact hlt.le.trans (hb.1 x hx)
      · next hle =>
        rw [List.map_cons]
        refine List.pairwise_cons.mpr ⟨fun x hx => ?_, ih h.tail⟩
        obtain ⟨c, hc, rfl⟩ := List.mem_map.mp hx
        rcases List.mem_cons.mp ((insertAction_perm pt a as).mem_iff.mp hc) with rfl | hc
        · exact not_lt.mp hle
        · exact hb.1 _ (List.mem_map_of_mem hc)
  · intro b hb
    rcases List.mem_cons.mp ((insertAction_perm pt a as).mem_iff.mp hb) with rfl | hb
    · exact ha
    · exact h.noneOverdue b hb

/-- Recording a Release with the strikes it is the own Release of moves no action (R80). -/
theorem noteRelease_times (a : Action) (as : List Action) :
    (noteRelease a as).map Action.time = as.map Action.time := by
  unfold noteRelease
  split
  · simp [Function.comp_def]
  · rfl

theorem InTime.of_times {pt : PT} {as bs : List Action} (h : InTime pt as)
    (ht : bs.map Action.time = as.map Action.time) : InTime pt bs := by
  constructor
  · have := congrArg (List.map (place pt)) ht
    simp only [List.map_map, Function.comp_def] at this
    rw [this]
    exact h.ordered
  · intro b hb
    have hm : b.time ∈ as.map Action.time := ht ▸ List.mem_map_of_mem hb
    obtain ⟨a, ha, hab⟩ := List.mem_map.mp hm
    exact hab ▸ h.noneOverdue a ha

/-- One unit of PT later, with nothing due before it (R1, R75). -/
theorem InTime.next {pt : PT} {as : List Action} (h : InTime pt as) (hd : ∀ a ∈ as, isDue pt a.time = false) :
    InTime (pt + 1#32) as := by
  have key (a : Action) (ha : a ∈ as) := place_next_pt (h.noneOverdue a ha) (hd a ha)
  refine ⟨?_, fun a ha => (key a ha).1⟩
  rw [List.pairwise_map]
  refine (List.pairwise_map.mp h.ordered).imp_of_mem fun ha hb hab => ?_
  rw [(key _ ha).2, (key _ hb).2]
  omega

/-! ## The hand-over of what is due (R75) -/

/-- The number of actions due. -/
def dueCount (pt : PT) (as : List Action) : Nat := as.countP fun a => isDue pt a.time

/-- With the head not due, nothing is due. -/
theorem InTime.none_due {pt : PT} {a : Action} {as : List Action} (h : InTime pt (a :: as))
    (hd : isDue pt a.time = false) : ∀ b ∈ a :: as, isDue pt b.time = false := by
  have hpos (b : Action) (hb : b ∈ a :: as) : isDue pt b.time = decide (place pt b.time = 0) :=
    isDue_of_not_earlier (h.noneOverdue b hb)
  have ha : 0 ≤ place pt a.time := by rw [place_of_not_earlier (h.noneOverdue a (by simp))]; omega
  have hord := List.pairwise_cons.mp (by simpa only [List.map_cons] using h.ordered)
  intro b hb
  rw [hpos a (by simp)] at hd
  rw [hpos b hb]
  simp only [decide_eq_false_iff_not] at hd ⊢
  rcases List.mem_cons.mp hb with rfl | hb
  · exact hd
  · have := hord.1 _ (List.mem_map_of_mem hb)
    omega

/-- A strike returned for deferral is Abandoned, or placed again 100 units later (R78, R79, R80). -/
theorem deferStrike_queue (a : Action) (st : Strike) (own : Option PT) (s : State) :
    (deferStrike a st own s).queue = s.queue ∨
      ∃ a' : Action, a'.time = a.time + 100#32 ∧
        (deferStrike a st own s).queue = { s.queue with actions := insertAction s.clock.pt a' s.queue.actions } := by
  unfold deferStrike
  simp only
  generalize (_ || _ : Bool) = b
  cases b with
  | true => exact .inl (addReport_queue _ s)
  | false => exact .inr ⟨_, rfl, rfl⟩

/-- A hand-over leaves the queue, but for a strike returned to it 100 units later (R76, R78). -/
theorem handOver_queue (a : Action) (s : State) :
    (handOver a s).queue = s.queue ∨
      ∃ a' : Action, a'.time = a.time + 100#32 ∧
        (handOver a s).queue = { s.queue with actions := insertAction s.clock.pt a' s.queue.actions } := by
  unfold handOver
  split
  · split
    · split
      · exact .inl (takeStrike_queue _ _ s)
      · exact deferStrike_queue a _ _ s
    · exact .inl (addReport_queue _ s)
  · exact .inl (releaseKey_queue _ s)
  · exact .inl (pedalAction_queue _ _ s)

/-- The hand-over of all that is due leaves the queue in time with nothing due, once the bound covers what is due (R75). -/
theorem handOverDue_inTime (n : Nat) (s : State) (hp : s.clock.part = .running)
    (h : InTime s.clock.pt s.queue.actions) (hn : dueCount s.clock.pt s.queue.actions ≤ n) :
    InTime s.clock.pt (handOverDue n s).queue.actions ∧
      ∀ a ∈ (handOverDue n s).queue.actions, isDue s.clock.pt a.time = false := by
  induction n generalizing s with
  | zero =>
    refine ⟨h, fun a ha => ?_⟩
    simpa using List.countP_eq_zero.mp (Nat.le_zero.mp hn) a ha
  | succ n ih =>
    unfold handOverDue
    split
    · next hq => rw [hq]; exact ⟨inTime_nil _, by simp⟩
    · next a rest hq =>
      rw [hq] at h hn
      split
      · next hdue =>
        have ha := h.noneOverdue a (by simp)
        generalize hs : ({ s with queue := { s.queue with actions := rest } } : State) = s'
        have hclock : (handOver a s').clock = s.clock := by
          rw [outer_clock (handOver_outer a s'), ← hs]
        have hcount : dueCount s.clock.pt rest ≤ n := by
          simp only [dueCount, List.countP_cons, hdue.2, if_true] at hn ⊢
          omega
        have key : InTime s.clock.pt (handOver a s').queue.actions ∧
            dueCount s.clock.pt (handOver a s').queue.actions ≤ n := by
          rcases handOver_queue a s' with hk | ⟨a', ht, hk⟩ <;> rw [hk] <;> subst hs
          · exact ⟨h.tail, hcount⟩
          · obtain ⟨he, hnd⟩ := place_deferred ha hdue.2
            refine ⟨h.tail.insert (ht ▸ he), ?_⟩
            rw [dueCount, (insertAction_perm _ _ _).countP_eq, List.countP_cons, ht, hnd]
            exact hcount
        have := ih (handOver a s') (hclock ▸ hp) (hclock ▸ key.1) (hclock ▸ key.2)
        rwa [hclock] at this
      · next hnd =>
        rw [hq]
        exact ⟨h, h.none_due (by simpa [hp] using hnd)⟩

/-! ## The law of the queue -/

/-- The queue in order with nothing overdue and in Running nothing due; empty outside performance, with no key open and none
announced (R74, R75, R82, R137). -/
def Law (s : State) : Prop := QueueOrdered s ∧ NothingOverdue s ∧ QuietOutsidePerformance s

/-- The law is kept from one state to the other. -/
def KeepsLaw (s t : State) : Prop := Law s → Law t

/-- The queue is in time at PT. -/
def Timely (s : State) : Prop := InTime s.clock.pt s.queue.actions

/-- The queue is empty, no key open, none announced. -/
structure Emptied (s : State) : Prop where
  actions : s.queue.actions = []
  openKeys : openKeys s.queue = 0
  silent : Silent s

theorem Law.timely {s : State} (h : Law s) : Timely s := ⟨h.1, fun a ha => (h.2.1 a ha).1⟩

theorem Law.none_due {s : State} (h : Law s) (hp : s.clock.part = .running) :
    ∀ a ∈ s.queue.actions, isDue s.clock.pt a.time = false := fun a ha => (h.2.1 a ha).2 hp

theorem Law.emptied {s : State} (h : Law s) (hp : inPerformance s = false) : Emptied s :=
  ⟨(h.2.2 hp).1, (h.2.2 hp).2.1, (h.2.2 hp).2.2⟩

theorem Emptied.law {s : State} (h : Emptied s) : Law s := by
  refine ⟨?_, ?_, fun _ => ⟨h.actions, h.openKeys, h.silent⟩⟩
  · simp [QueueOrdered, h.actions]
  · simp [NothingOverdue, h.actions]

/-- In performance the law is the queue's alone. -/
theorem Timely.law {s : State} (h : Timely s) (hp : inPerformance s = true)
    (hd : s.clock.part = .running → ∀ a ∈ s.queue.actions, isDue s.clock.pt a.time = false) : Law s :=
  ⟨h.ordered, fun a ha => ⟨h.noneOverdue a ha, fun hr => hd hr a ha⟩, fun hq => absurd (hp.symm.trans hq) (by simp)⟩

theorem KeepsLaw.trans {s t u : State} (h : KeepsLaw s t) (h' : KeepsLaw t u) : KeepsLaw s u := h' ∘ h

theorem KeepsLaw.after {s t u : State} (h' : KeepsLaw t u) (h : KeepsLaw s t) : KeepsLaw s u := h.trans h'

theorem inPerformance_congr {s t : State} (h : t.clock.part = s.clock.part) : inPerformance t = inPerformance s := by
  unfold inPerformance; rw [h]

/-- What leaves PT, the part state and the queue keeps the law when it announces no key outside performance. -/
theorem keepsLaw_of_fields {s t : State} (hpt : t.clock.pt = s.clock.pt) (hpart : t.clock.part = s.clock.part)
    (hq : t.queue = s.queue) (hs : inPerformance s = false → Silent s → Silent t) : KeepsLaw s t := by
  rintro ⟨ho, hn, hquiet⟩
  refine ⟨?_, ?_, fun hp => ?_⟩
  · unfold QueueOrdered; rw [hpt, hq]; exact ho
  · unfold NothingOverdue; rw [hpt, hq, hpart]; exact hn
  · rw [inPerformance_congr hpart] at hp
    obtain ⟨ha, hk, hsilent⟩ := hquiet hp
    exact ⟨hq ▸ ha, hq ▸ hk, hs hp hsilent⟩

theorem keepsLaw_of_base {s t : State} (h : base t = base s) : KeepsLaw s t :=
  keepsLaw_of_fields (base_pt h) (base_part h) (base_queue h) fun _ => silent_of_capture (base_capture h)

theorem Calm.keepsLaw {s t : State} (h : Calm s t) : KeepsLaw s t :=
  keepsLaw_of_fields (congrArg Clock.pt (outer_clock h.outerEq)) (congrArg Clock.part (outer_clock h.outerEq))
    h.queueEq fun _ => h.staysSilent

theorem Calm.emptied {s t : State} (h : Calm s t) (hs : Emptied s) : Emptied t :=
  ⟨h.queueEq ▸ hs.actions, h.queueEq ▸ hs.openKeys, h.staysSilent hs.silent⟩

/-- From outside performance, what leaves an empty queue empty keeps the law. -/
theorem keepsLaw_of_emptied {s t : State} (hp : inPerformance s = false) (h : Emptied s → Emptied t) : KeepsLaw s t :=
  fun hs => (h (hs.emptied hp)).law

/-! ### With the tables -/

/-- The four tables are as they were, and the law of the queue is kept. -/
structure TablesKept (s t : State) : Prop where
  tables : t.tables = s.tables
  law : KeepsLaw s t

theorem tablesKept_stable : Stable TablesKept :=
  ⟨fun h => ⟨base_tables h, keepsLaw_of_base h⟩, fun h h' => ⟨h'.tables.trans h.tables, h.law.trans h'.law⟩⟩

theorem TablesKept.behind {s t u : State} (h' : TablesKept t u) (h : TablesKept s t) : TablesKept s u :=
  tablesKept_stable.trans h h'

theorem Calm.tables {s t : State} (h : Calm s t) : t.tables = s.tables := outer_tables h.outerEq

theorem Calm.kept {s t : State} (h : Calm s t) : TablesKept s t := ⟨h.tables, h.keepsLaw⟩

/-! ### What is due -/

/-- What is due is handed over: the law holds of a queue in time (R75, R77). -/
theorem dueNow_law {s : State} (hp : inPerformance s = true) (h : Timely s) : Law (dueNow s) := by
  have hc : (dueNow s).clock = s.clock := outer_clock (dueNow_outer s)
  have hperf : inPerformance (dueNow s) = true := (inPerformance_congr (congrArg Clock.part hc)).trans hp
  rcases (inPerformance_iff s).mp hp with hr | hh
  · have hn : dueCount s.clock.pt s.queue.actions ≤ 17 * s.queue.actions.length := by
      have : dueCount s.clock.pt s.queue.actions ≤ s.queue.actions.length := List.countP_le_length
      omega
    obtain ⟨hin, hnone⟩ := handOverDue_inTime _ s hr h hn
    refine Timely.law ?_ hperf fun _ => ?_
    · unfold Timely; rw [hc]; exact hin
    · rw [hc]; exact hnone
  · have hs : dueNow s = s := dueNow_none s fun hr => absurd (hh.symm.trans hr) (by simp)
    rw [hs]
    exact h.law hp fun hr => absurd (hh.symm.trans hr) (by simp)

/-! ## Entries into the queue -/

theorem Timely.of_eq {s t : State} (h : Timely s) (hc : t.clock.pt = s.clock.pt) (hq : t.queue.actions = s.queue.actions) :
    Timely t := by unfold Timely; rw [hc, hq]; exact h

theorem addReport_timely (r : Report) {s : State} (h : Timely s) : Timely (addReport r s) :=
  h.of_eq (congrArg Clock.pt (outer_clock (addReport_outer r s))) (by rw [addReport_queue])

/-- An action enters a queue in time at PT or ahead of it (R74). -/
theorem enqueue_timely {time : PT} (body : ActionBody) {s : State} (h : Timely s)
    (ht : earlier time s.clock.pt = false) : Timely (enqueue time body s) := by
  unfold Timely
  rw [outer_clock (enqueue_outer time body s), enqueue_queue]
  exact (h.of_times (noteRelease_times _ _)).insert ht

theorem admitKey_timely (k : Key) (channel : Nat) (target : PT) {s : State} (h : Timely s) :
    Timely (admitKey k channel target s) := by
  unfold admitKey
  split
  · exact enqueue_timely _ h (placed_not_earlier _ _ _)
  · exact h

theorem refuseForRoom_timely (st : Strike) (missed : Bool) {s : State} (h : Timely s) :
    Timely (refuseForRoom st missed s) := addReport_timely _ h

/-- A strike admitted is placed at PT, or at its planned time when it was judged Normal (R64 to R66). -/
theorem admitStrike_timely (st : Strike) (j : Judgement) (target : PT) {s : State} (h : Timely s)
    (hj : j = .normal → earlier st.planned s.clock.pt = false) : Timely (admitStrike st j target s) := by
  have hk := admitKey_timely st.key st.channel target h
  have hpt : (admitKey st.key st.channel target s).clock.pt = s.clock.pt :=
    congrArg Clock.pt (outer_clock (admitKey_outer _ _ _ s))
  unfold admitStrike
  split
  · split
    · exact addReport_timely _ hk
    · exact refuseForRoom_timely _ _ h
  · split
    · exact enqueue_timely _ hk (hpt ▸ now_not_earlier _)
    · exact refuseForRoom_timely _ _ h
  · split
    · exact enqueue_timely _ hk (hpt ▸ hj rfl)
    · exact refuseForRoom_timely _ _ h

theorem intakeNoteOn_timely (f : NoteOnFields) {s : State} (h : Timely s) : Timely (intakeNoteOn f s) := by
  unfold intakeNoteOn
  split
  · exact addReport_timely _ h
  · split
    · exact addReport_timely _ h
    · unfold intakeStrike
      split
      · exact addReport_timely _ h
      · exact admitStrike_timely _ _ _ (h.of_eq rfl rfl : Timely (takeTarget _ _ s)) planned_not_earlier

theorem intakeNoteOff_timely (note : Nat) (target : PT) {s : State} (h : Timely s) :
    Timely (intakeNoteOff note target s) := by
  unfold intakeNoteOff
  split
  · exact h
  · next k _ =>
    split
    · exact h
    · exact enqueue_timely _ (h.of_eq rfl rfl : Timely (setIntake k _ s)) (placed_not_earlier _ _ _)

theorem intakePedal_timely (f : PedalTargetFields) {s : State} (h : Timely s) : Timely (intakePedal f s) := by
  unfold intakePedal
  split
  · exact h
  · split
    · exact enqueue_timely _ h (placed_not_earlier _ _ _)
    · exact h

/-- What leads to a queue in time in performance, followed by the hand-over of what is due and the taking of rail commands,
keeps the tables and the law. -/
theorem handedOver_kept {s e : State} (htab : e.tables = s.tables) (hp : inPerformance e = true)
    (ht : Law s → Timely e) : TablesKept s (railService (dueNow e)) :=
  ⟨(railService_calm _).tables.trans ((outer_tables (dueNow_outer e)).trans htab),
    fun hs => (railService_calm _).keepsLaw (dueNow_law hp (ht hs))⟩

/-- A performance event keeps the law (R57, R75). -/
theorem takeEvent_kept {intake : State → State} (ho : ∀ s, outer (intake s) = outer s)
    (ht : ∀ s, Timely s → Timely (intake s)) (s : State) : TablesKept s (takeEvent intake s) := by
  unfold takeEvent
  split
  · next hp =>
    have hc := congrArg Clock.part (outer_clock (ho s))
    exact handedOver_kept (outer_tables (ho s)) ((inPerformance_congr hc).trans hp) fun hs => ht s hs.timely
  · exact tablesKept_stable.of_base rfl

/-- A tick keeps the law: nothing was due before it, and what falls due is handed over (R1, R75). -/
theorem tick_kept {s : State} (h : tickDue s = true) : TablesKept s (railService (dueNow (advancePt s))) := by
  have hr : s.clock.part = .running := (of_decide_eq_true h).1
  exact handedOver_kept rfl ((inPerformance_iff _).mpr (.inl hr)) fun hs => hs.timely.next (hs.none_due hr)

/-- A Resume hands over what is due at the frozen PT (R18, R77). -/
theorem resume_kept {s : State} (r : Response) : TablesKept s (railService (dueNow (respond r (enterRunning s)))) :=
  handedOver_kept rfl rfl fun hs => hs.timely

/-! ## Flushes -/

theorem flushQueue_emptied (q : ActionQueue) : (flushQueue q).actions = [] ∧ openKeys (flushQueue q) = 0 := by
  simp [flushQueue, openKeys, Vector.toList_map]

theorem restartQueue_emptied (q : ActionQueue) : (restartQueue q).actions = [] ∧ openKeys (restartQueue q) = 0 := by
  simp [restartQueue, openKeys, IntakeRecord.clear, Vector.toList_replicate]

theorem closeAnnounced_silent (cause : ClosingCause) (s : State) : Silent (closeAnnounced cause s) := by
  intro k
  simp [closeAnnounced]

/-- A Stop from performance leaves the queue empty and no key announced (R10, R82, R137). -/
theorem stopTransition_emptied (cause : StopCause) {release : State → State} (h : ∀ s, Calm s (release s)) (s : State) :
    Emptied (stopTransition cause release s) := by
  have hq : (stopTransition cause release s).queue = flushQueue s.queue :=
    ((pedalsToRest_calm _).after ((h _).after (driveStop_calm (flush (leavePerformance .stopped cause s))))).queueEq
  obtain ⟨ha, hk⟩ := flushQueue_emptied s.queue
  exact ⟨hq ▸ ha, hq ▸ hk, closeAnnounced_silent .stop _⟩

theorem stopTransition_kept (cause : StopCause) {release : State → State} (h : ∀ s, Calm s (release s)) (s : State) :
    TablesKept s (stopTransition cause release s) :=
  ⟨((pedalsToRest_calm _).after ((h _).after (driveStop_calm _))).tables,
    fun _ => (stopTransition_emptied cause h s).law⟩

/-- A rail fault taken in performance flushes the queue and closes every announced key; elsewhere it leaves both (R12). -/
theorem clockFault_kept (s : State) : TablesKept s (clockFault s) := by
  unfold clockFault
  split
  · obtain ⟨ha, hk⟩ := flushQueue_emptied s.queue
    exact ⟨rfl, fun _ => Emptied.law
      ⟨ha, hk, closeAnnounced_silent .fault (flush (leavePerformance .faulted .railFault s))⟩⟩
  · exact tablesKept_stable.refl s

theorem railFault_kept (s : State) : TablesKept s (railFault s) :=
  ((abortRun_calm _).after (pedalsFault_calm _)).kept.behind
    ((clockFault_kept _).behind ((restartIdle_calm _).after (faultRail_calm s)).kept)

/-- Power-on reset leaves the queue empty, every key closed and none announced (R63, R126). -/
theorem powerOn_emptied (rateSel roleSel : StrapLevel) : Emptied (State.powerOn rateSel roleSel) := by
  refine ⟨rfl, ?_, fun k => ?_⟩
  · simp [State.powerOn, defaultQueue, openKeys, IntakeRecord.clear, Vector.toList_replicate]
  · simp [State.powerOn, CaptureContext.clear]

/-- So does a Restart (R14). -/
theorem restartBlocks_emptied (s : State) : Emptied (restartBlocks s) := by
  obtain ⟨ha, hk⟩ := restartQueue_emptied s.queue
  exact ⟨ha, hk, fun k => by simp [restartBlocks, CaptureContext.clear]⟩

/-! ## Offers of the Capture Engine -/

/-- Captured events are queued in performance alone (R131). -/
theorem inPerformance_of_capturing {s : State} (h : capturing s = true) : inPerformance s = true := by
  simp only [capturing, Bool.and_eq_true] at h
  exact h.1

/-- What the Capture Engine does to its own context, in performance or without announcing a key. -/
theorem keepsLaw_of_capture {s t : State} (hc : t.clock = s.clock) (hq : t.queue = s.queue)
    (h : capturing s = true ∨ (Silent s → Silent t)) : KeepsLaw s t := by
  refine keepsLaw_of_fields (hc ▸ rfl) (hc ▸ rfl) hq fun hp hs => ?_
  rcases h with h | h
  · exact absurd ((inPerformance_of_capturing h).symm.trans hp) (by simp)
  · exact h hs

theorem setCapture_kept (k : Key) (c : CaptureContext) (s : State)
    (h : c.announced = false ∨ c.announced = (s.capture[k]).announced) : TablesKept s (setCapture k c s) := by
  refine ⟨rfl, keepsLaw_of_capture rfl rfl (.inr fun hs j => ?_)⟩
  rw [setCapture_get]
  split
  · exact h.elim id fun h => h.trans (hs k)
  · exact hs j

theorem offerFirst_kept (k : Key) (event : Bool → Bool → CaptureEvent) (s : State) :
    TablesKept s (offerFirst k event s) := by
  unfold offerFirst
  split
  · next hc =>
    split
    · exact ⟨rfl, keepsLaw_of_capture rfl rfl (.inl hc)⟩
    · exact tablesKept_stable.of_base rfl
  · exact tablesKept_stable.refl s

theorem offerRestrike_kept (k : Key) (event : Bool → Bool → CaptureEvent) (s : State) :
    TablesKept s (offerRestrike k event s) := by
  unfold offerRestrike
  split
  · split
    · exact tablesKept_stable.of_base rfl
    · exact tablesKept_stable.of_base rfl
  · exact tablesKept_stable.refl s

theorem offerNoteOff_kept (k : Key) (time : PT) (s : State) : TablesKept s (offerNoteOff k time s) := by
  unfold offerNoteOff
  split
  · exact tablesKept_stable.trans (setCapture_kept k { s.capture[k] with announced := false } s (.inl rfl))
      (tablesKept_stable.of_base rfl)
  · exact tablesKept_stable.refl s

theorem completeFlight_kept (k : Key) (stamp : Stamp) (time : PT) (s : State) :
    TablesKept s (completeFlight k stamp time s) := by
  unfold completeFlight
  simp only
  split
  · exact (offerRestrike_kept _ _ _).behind (setCapture_kept k _ s (.inr rfl))
  · exact (offerFirst_kept _ _ _).behind (setCapture_kept k _ s (.inr rfl))

/-- A crossing writes no table, and announces a key in performance alone (R127, R128, R130, R131). -/
theorem captureCrossing_kept (k : Key) (x : Crossing) (time : PT) (s : State) :
    TablesKept s (captureCrossing k x time s) := by
  have same : TablesKept s s := tablesKept_stable.refl s
  have keyUp : TablesKept s (offerNoteOff k time (setCapture k (atRest s.capture[k]) s)) :=
    (offerNoteOff_kept _ _ _).behind (setCapture_kept k _ s (.inr rfl))
  unfold captureCrossing
  simp only
  cases (s.capture[k]).state with
  | rest =>
    cases x with
    | k1Down => exact setCapture_kept k _ s (.inr rfl)
    | k1Up | k2Down | k2Up | g1 | g2 => exact same
  | descending =>
    cases x with
    | g1 | k1Up => exact setCapture_kept k _ s (.inr rfl)
    | k2Down => exact (offerFirst_kept _ _ _).behind (setCapture_kept k _ s (.inr rfl))
    | k1Down | k2Up | g2 => exact same
  | gated =>
    cases x with
    | g2 stamp => exact completeFlight_kept k stamp time s
    | g1 => exact setCapture_kept k _ s (.inr rfl)
    | k1Up => exact keyUp
    | k1Down | k2Down | k2Up => exact same
  | down =>
    cases x with
    | k2Up => exact setCapture_kept k _ s (.inr rfl)
    | k1Up => exact keyUp
    | k1Down | k2Down | g1 | g2 => exact same
  | quiet =>
    cases x with
    | k2Up => exact setCapture_kept k _ s (.inr rfl)
    | k1Up => exact keyUp
    | k1Down | k2Down | g1 | g2 => exact same
  | rearmed =>
    cases x with
    | g1 | k2Down => exact setCapture_kept k _ s (.inr rfl)
    | k1Up => exact keyUp
    | k1Down | k2Up | g2 => exact same

theorem captureTimeout_kept (k : Key) (s : State) : TablesKept s (captureTimeout k s) := by
  unfold captureTimeout
  simp only
  split
  · exact setCapture_kept k _ s (.inr rfl)
  · exact (offerFirst_kept _ _ _).behind (setCapture_kept k _ s (.inr rfl))

end Sys2Proof.TableProofs
end

section
/-! PROOFS. Who writes the four tables (R19, R23, R29, R30, R32), and that every record written is valid (R20, R25, R30, R32). -/

namespace Sys2Proof.TableProofs

open Sys2Proof Sys2Proof.Machine

/-! ## The commands that write no table -/

theorem Emptied.of_eq {s t : State} (h : Emptied s) (hq : t.queue = s.queue) (hc : t.capture = s.capture) : Emptied t :=
  ⟨hq ▸ h.actions, hq ▸ h.openKeys, silent_of_capture hc h.silent⟩

theorem not_inPerformance {s : State} {p : PartState} (h : s.clock.part = p) (hr : p ≠ .running) (hh : p ≠ .held) :
    inPerformance s = false := by simp [inPerformance, h, hr, hh]

/-- Outside performance, what leaves the tables, the queue and the capture contexts keeps the law, whatever it makes of the
clock. -/
theorem kept_outside {s t : State} (hp : inPerformance s = false) (ht : t.tables = s.tables) (hq : t.queue = s.queue)
    (hc : t.capture = s.capture) : TablesKept s t :=
  ⟨ht, keepsLaw_of_emptied hp fun h => h.of_eq hq hc⟩

theorem respond_kept (r : Response) (s : State) : TablesKept s (respond r s) :=
  tablesKept_stable.of_base (respond_base r s)

theorem railService_kept (s : State) : TablesKept s (railService s) := (railService_calm s).kept

/-- The effect of an acknowledgement touches the Rail Controller alone (R145, R152, R154). -/
theorem ackEffect_base (c : RailCmd) (s : State) : base (ackEffect c s) = base s := by
  unfold ackEffect passThroughAcked powerGoesOn recovered
  (repeat' split) <;> rfl

theorem takeAck_kept (tag : Byte) (p : List Byte) (s : State) : TablesKept s (takeAck tag p s) := by
  unfold takeAck
  split
  · split
    · exact tablesKept_stable.refl s
    · exact railFault_kept s
  · split
    · exact tablesKept_stable.of_base (ackEffect_base _ _)
    · exact railFault_kept s

theorem calibrate_kept (kind tag : Byte) (f : CalFields) (s : State) : TablesKept s (calibrate kind tag f s) := by
  unfold calibrate
  split
  · exact respond_kept _ s
  · exact (startRun_calm f _).kept.behind (respond_kept _ s)

/-- A Stop taken in Stopped (R9). -/
theorem stopInStopped_kept {s : State} (h : s.clock.part = .stopped) : TablesKept s (stopInStopped s) := by
  have hc : Calm s (recoverIfFaulted (abortRun s)) := (recoverIfFaulted_calm _).after (abortRun_calm s)
  exact ⟨hc.tables, keepsLaw_of_emptied (not_inPerformance h (by simp) (by simp)) fun he =>
    (hc.emptied he).of_eq rfl rfl⟩

/-- A Stop taken in Faulted (R13). -/
theorem stopInFaulted_kept {s : State} (h : s.clock.part = .faulted) : TablesKept s (stopInFaulted s) := by
  have hc : Calm (leavePerformance .stopped .request s) (stopInFaulted s) :=
    (pedalsToRest_calm _).after ((releaseEverything_calm false _).after (driveFaultStop_calm _))
  exact hc.kept.behind (kept_outside (not_inPerformance h (by simp) (by simp)) rfl rfl rfl)

theorem doStop_kept (tag : Byte) (s : State) : TablesKept s (doStop tag s) := by
  have answered {t : State} (h : TablesKept s t) : TablesKept s (answerStop tag .done (railService t)) :=
    (respond_kept _ _).behind ((railService_kept t).behind h)
  have stopped := stopTransition_kept .request (releaseEverything_calm false) s
  unfold doStop
  cases h : s.clock.part with
  | unconfigured => exact respond_kept _ s
  | stopped => exact answered (stopInStopped_kept h)
  | running | held => exact answered stopped
  | faulted => exact answered (stopInFaulted_kept h)

theorem doResume_kept (tag : Byte) (s : State) : TablesKept s (doResume tag s) := by
  unfold doResume
  cases s.clock.part with
  | held => exact resume_kept _
  | unconfigured | stopped | running | faulted => exact respond_kept _ s

theorem doStart_kept (tag : Byte) (s : State) : TablesKept s (doStart tag s) := by
  unfold doStart
  cases h : s.clock.part with
  | stopped =>
    simp only
    split
    · exact respond_kept _ s
    · split
      · exact respond_kept _ s
      · exact (respond_kept _ _).behind (kept_outside (not_inPerformance h (by simp) (by simp)) rfl rfl rfl)
  | unconfigured | running | held | faulted => exact respond_kept _ s

/-- Hold leaves the queue as it stands, with nothing due in it (R8, R77). -/
theorem enterHeld_kept {s : State} : TablesKept s (enterHeld s) :=
  ⟨rfl, fun hs => (hs.timely.of_eq rfl rfl : Timely (enterHeld s)).law ((inPerformance_iff _).mpr (.inr rfl))
    (by simp [enterHeld])⟩

theorem doHold_kept (tag : Byte) (s : State) : TablesKept s (doHold tag s) := by
  unfold doHold
  cases s.clock.part with
  | running => exact (respond_kept _ _).behind enterHeld_kept
  | unconfigured | stopped | held | faulted => exact respond_kept _ s

theorem doClockSet_kept (tag : Byte) (p : List Byte) (s : State) : TablesKept s (doClockSet tag p s) := by
  unfold doClockSet
  cases h : s.clock.part with
  | stopped => exact (respond_kept _ _).behind (kept_outside (not_inPerformance h (by simp) (by simp)) rfl rfl rfl)
  | unconfigured | running | held | faulted => exact respond_kept _ s

theorem readTable_base (tag : Byte) (p : List Byte) (s : State) : base (readTable tag p s) = base s := by
  unfold readTable; simp only; (repeat' split) <;> rfl

/-- The upstream arbiter's choice takes from its source alone (R181). -/
theorem choose_base (start : Nat) (s : State) : base (choose start s) = base s := by
  unfold choose chooseLower; (repeat' split) <;> rfl

/-- A Table Data frame's end moves the read on, or completes it (R37, R38). -/
theorem endUpFrame_base (t : UpTx) (s : State) : base (endUpFrame t s) = base s := by
  unfold endUpFrame advanceRead; simp only; (repeat' split) <;> rfl

theorem badCheckFrame_base (bytes : List Byte) (s : State) : base (badCheckFrame bytes s) = base s := by
  unfold badCheckFrame
  simp only
  split
  · rfl
  · rw [returnToHunt_base]; rfl

theorem pedalRaw_base (time : PT) (p : Pedal) (raw : BitVec 16) (s : State) : base (pedalRaw time p raw s) = base s := by
  unfold pedalRaw offerPedal; simp only; (repeat' split) <;> rfl

theorem samplePedals_base (raw1 raw2 raw3 : BitVec 16) (s : State) : base (samplePedals raw1 raw2 raw3 s) = base s := by
  unfold samplePedals
  simp only
  rw [pedalRaw_base, pedalRaw_base, pedalRaw_base]

theorem loseSensor_kept (s : State) : TablesKept s (loseSensor s) :=
  (loseSensor_base_calm s).kept.behind (tablesKept_stable.of_base rfl)

theorem sensorBad_kept (s : State) : TablesKept s (sensorBad s) := by
  unfold sensorBad
  split
  · split
    · exact tablesKept_stable.of_base rfl
    · exact loseSensor_kept s
  · exact tablesKept_stable.of_base rfl

/-! ## Writes of the Calibration Table beside Table Write -/

/-- Nothing but the Calibration Table is written, valid records stay valid, and the law of the queue is kept. -/
structure CalWrites (s t : State) : Prop where
  law : KeepsLaw s t
  keyMap : t.tables.keyMap = s.tables.keyMap
  pedal : t.tables.pedal = s.tables.pedal
  config : t.tables.config = s.tables.config
  valid : CalibrationValid s → CalibrationValid t

theorem TablesKept.calWrites {s t : State} (h : TablesKept s t) : CalWrites s t :=
  ⟨h.law, h.tables ▸ rfl, h.tables ▸ rfl, h.tables ▸ rfl, fun hs => by
    unfold CalibrationValid; rw [h.tables]; exact hs⟩

theorem calWrites_stable : Stable CalWrites :=
  ⟨fun h => (tablesKept_stable.of_base h).calWrites, fun h h' =>
    ⟨h.law.trans h'.law, h'.keyMap.trans h.keyMap, h'.pedal.trans h.pedal, h'.config.trans h.config,
      h'.valid ∘ h.valid⟩⟩

theorem Calm.calWrites {s t : State} (h : Calm s t) : CalWrites s t := h.kept.calWrites

theorem setCal_get (k : Key) (r : CalRecord) (s : State) (j : Key) :
    (setCal k r s).tables.cal[j] = if j = k then r else s.tables.cal[j] := by
  simp only [setCal, Fin.getElem_fin, Vector.getElem_set, Fin.ext_iff, eq_comm]

/-- A record valid whenever the ones there are replaces one of them. -/
theorem setCal_calWrites (k : Key) (r : CalRecord) (s : State)
    (h : calValid s.tables.cal[k] = true → calValid r = true) : CalWrites s (setCal k r s) := by
  refine ⟨keepsLaw_of_fields rfl rfl rfl fun _ => id, rfl, rfl, rfl, fun hs j => ?_⟩
  rw [setCal_get]
  split
  · exact h (hs k)
  · exact hs j

theorem clampInt_bounds {lo hi : Int} (h : lo ≤ hi) (v : Int) : lo ≤ clampInt lo hi v ∧ clampInt lo hi v ≤ hi := by
  unfold clampInt
  split
  · omega
  · split <;> omega

/-- The field writes of R23, R54 and R55 leave a valid record valid. -/
theorem calValid_withTrim {r : CalRecord} (h : calValid r = true) (error : Int) :
    calValid { r with leadTrim := trimmed r.leadTrim error } = true := by
  have hb := clampInt_bounds (show (-2000 : Int) ≤ 2000 by omega) (r.leadTrim + trimStep error)
  simp only [calValid, Bool.and_eq_true, decide_eq_true_eq] at h ⊢
  exact ⟨h.1, by simp only [trimmed]; omega⟩

theorem calValid_withOffset {r : CalRecord} (h : calValid r = true) (probes : List ProbeRecord) (a : Nat) :
    calValid { r with levelOffset := onsetOffset r probes a } = true := by
  have hb := clampInt_bounds (show (-255 : Int) ≤ 255 by omega)
    (((probes.map (·.level)).getD a 0 : Int) - (selectedCurve r).p1.y)
  simp only [calValid, Bool.and_eq_true, decide_eq_true_eq] at h ⊢
  exact ⟨h.1, by simp only [onsetOffset]; omega⟩

/-! ### A measurement closed by G2 (R23, R97) -/

theorem applyTrim_calWrites (d : DriveContext) (st : Strike) (latency : Int) (s : State) :
    CalWrites s (applyTrim d st latency s) := by
  unfold applyTrim
  simp only
  split
  · exact setCal_calWrites _ _ s fun h => calValid_withTrim h _
  · exact calWrites_stable.refl s

theorem strikeClosed_calWrites (d : DriveContext) (st : Strike) (g1 g2 : Stamp) (time : PT) (s : State) :
    CalWrites s (strikeClosed d st (.arrived g1 g2 time) s) := by
  unfold strikeClosed
  exact calWrites_stable.trans (applyTrim_calWrites d st _ s) (addReport_calm _ _).calWrites

theorem closeMeasurement_calWrites (k : Key) (o : MeasOutcome) (s : State) : CalWrites s (closeMeasurement k o s) := by
  cases o with
  | noArrival => exact (closeMeasurement_calm k _ s (by simp)).calWrites
  | notMeasured => exact (closeMeasurement_calm k _ s (by simp)).calWrites
  | arrived g1 g2 time =>
    unfold closeMeasurement
    simp only
    split
    · exact calWrites_stable.after (strikeClosed_calWrites _ _ g1 g2 time _) rfl
    · exact ((probeOutcome_calm _ _ _ _).after (setDrive_calm k _ s)).calWrites
    · exact (setDrive_calm k _ s).calWrites

theorem measureG2_calWrites (k : Key) (stamp : Stamp) (time : PT) (s : State) : CalWrites s (measureG2 k stamp time s) := by
  unfold measureG2
  simp only
  split
  · exact closeMeasurement_calWrites k _ s
  · exact calWrites_stable.refl s

theorem driveG1_calm (k : Key) (stamp : Stamp) (time : PT) (s : State) : Calm s (driveCrossing k (.g1 stamp) time s) := by
  unfold driveCrossing
  simp only
  split
  · exact .refl s
  · split
    · exact .refl s
    · split
      · exact .refl s
      · exact .ite (recordG1_calm k stamp s) ((endPush_calm k _).after (recordG1_calm k stamp s))
    · exact recordG1_calm k stamp s
    · exact recordG1_calm k stamp s

/-- A G2 does nothing to a driven key, or is measured (R94). -/
theorem driveG2_cases (k : Key) (stamp : Stamp) (time : PT) (s : State) :
    driveCrossing k (.g2 stamp) time s = s ∨ driveCrossing k (.g2 stamp) time s = measureG2 k stamp time s := by
  unfold driveCrossing
  simp only
  split
  · exact .inl rfl
  · split
    · exact .inl rfl
    · split
      · exact .inl rfl
      · exact .inr rfl
    · exact .inr rfl
    · exact .inr rfl

theorem driveG2_calWrites (k : Key) (stamp : Stamp) (time : PT) (s : State) :
    CalWrites s (driveCrossing k (.g2 stamp) time s) := by
  rcases driveG2_cases k stamp time s with h | h <;> rw [h]
  · exact calWrites_stable.refl s
  · exact measureG2_calWrites k stamp time s

/-- The crossings of K1 and K2 close no measurement by an arrival (R89, R90, R92). -/
theorem driveKeyCrossing_calm (k : Key) (p : KeyPoint) (d : Direction) (time : PT) (s : State) :
    Calm s (driveCrossing k (keyCrossing p d) time s) := by
  unfold driveCrossing
  simp only
  split
  · exact .refl s
  · cases p <;> cases d <;> simp only [keyCrossing]
    all_goals split
    all_goals first
      | exact .refl s
      | exact setDrive_calm k _ s
      | exact comeToRest_calm k s
      | exact (by split <;> exact .refl s)

theorem routeKeyCrossing_kept (k : Key) (p : KeyPoint) (d : Direction) (s : State) :
    TablesKept s (routeCrossing k (keyCrossing p d) s) := by
  unfold routeCrossing
  simp only
  split
  · exact (driveKeyCrossing_calm k p d _ s).kept
  · split
    · exact captureCrossing_kept _ _ _ _
    · exact tablesKept_stable.refl s

theorem routeHammer_calWrites (k : Key) (g : Gate) (stamp : Stamp) (s : State) :
    CalWrites s (routeCrossing k (hammerCrossing g stamp) s) := by
  unfold routeCrossing
  simp only
  split
  · cases g with
    | g1 => exact (driveG1_calm k stamp _ s).calWrites
    | g2 => exact driveG2_calWrites k stamp _ s
  · split
    · exact (captureCrossing_kept _ _ _ _).calWrites
    · exact calWrites_stable.refl s

/-! ### The end of a calibration key (R54, R55, R164, R165) -/

theorem keyResult_calWrites (c : CalContext) (s : State) : CalWrites s (keyResult c s) := by
  have report {r : Report} {t : State} (h : CalWrites s t) : CalWrites s (addReport r t) :=
    calWrites_stable.trans h (addReport_calm r t).calWrites
  unfold keyResult
  split
  · unfold sweepResult
    simp only
    split
    · exact report (calWrites_stable.refl s)
    · exact report (setCal_calWrites _ _ s fun h => calValid_withOffset h _ _)
  · exact report (setCal_calWrites _ _ s fun h => h)

theorem settleEnds_calWrites (c : CalContext) (s : State) : CalWrites s (settleEnds c s) := by
  unfold settleEnds
  split
  · exact (beginProbe_calm _ s).calWrites
  · exact calWrites_stable.trans (keyResult_calWrites c s) (nextKey_calm c _).calWrites

/-! ## Writes of the Configuration Record (R32) -/

/-- Nothing but the Configuration Record is written, a valid one stays valid, and the law of the queue is kept. -/
structure ConfigWrites (s t : State) : Prop where
  law : KeepsLaw s t
  cal : t.tables.cal = s.tables.cal
  keyMap : t.tables.keyMap = s.tables.keyMap
  pedal : t.tables.pedal = s.tables.pedal
  valid : ConfigValid s → ConfigValid t

theorem TablesKept.configWrites {s t : State} (h : TablesKept s t) : ConfigWrites s t :=
  ⟨h.law, h.tables ▸ rfl, h.tables ▸ rfl, h.tables ▸ rfl, fun hs => by unfold ConfigValid; rw [h.tables]; exact hs⟩

theorem configWrites_stable : Stable ConfigWrites :=
  ⟨fun h => (tablesKept_stable.of_base h).configWrites, fun h h' =>
    ⟨h.law.trans h'.law, h'.cal.trans h.cal, h'.keyMap.trans h.keyMap, h'.pedal.trans h.pedal, h'.valid ∘ h.valid⟩⟩

/-- Configure brings every field into its range (R6, R32). -/
theorem configFields_valid (p : List Byte) :
    (configFields p).lateLimit ≤ 5000 ∧ (configFields p).sensorDelay ≤ 255 ∧ (configFields p).park ≤ 255 ∧
      -12 ≤ (configFields p).transpose ∧ (configFields p).transpose ≤ 12 := by
  have ht := clampInt_bounds (show (-12 : Int) ≤ 12 by omega) (signed8 p 7)
  have hl : clampNat 0 5000 (word16 p 2) ≤ 5000 := by unfold clampNat; split <;> [omega; split] <;> omega
  have hb (i : Nat) : byteAt p i ≤ 255 := Nat.le_of_lt_succ (p.getD i 0).isLt
  exact ⟨hl, hb 4, hb 5, ht⟩

theorem doConfigure_configWrites (tag : Byte) (p : List Byte) (s : State) : ConfigWrites s (doConfigure tag p s) := by
  have taken (hp : inPerformance s = false) (r : Response) : ConfigWrites s (respond r (configured p s)) :=
    ⟨keepsLaw_of_emptied hp fun h => h.of_eq rfl rfl, rfl, rfl, rfl, fun _ => configFields_valid p⟩
  unfold doConfigure
  cases h : s.clock.part with
  | unconfigured | stopped => exact taken (not_inPerformance h (by simp) (by simp)) _
  | running | held | faulted => exact (respond_kept _ s).configWrites

theorem restartBlocks_configWrites (s : State) : ConfigWrites s (restartBlocks s) :=
  ⟨fun _ => (restartBlocks_emptied s).law, rfl, rfl, rfl, fun _ => by simp [ConfigValid, restartBlocks, defaultConfig]⟩

theorem doRestart_configWrites (tag : Byte) (s : State) : ConfigWrites s (doRestart tag s) := by
  have hc : Calm (restartBlocks s) (pedalsToRest (releaseEverything true (driveRestart (restartBlocks s)))) :=
    (pedalsToRest_calm _).after ((releaseEverything_calm true _).after (driveRestart_calm _))
  unfold doRestart answer
  exact configWrites_stable.trans (restartBlocks_configWrites s)
    ((respond_kept _ _).behind ((railService_kept _).behind hc.kept)).configWrites

end Sys2Proof.TableProofs
end

section
/-! PROOFS. Table Write's records (R20, R24, R28, R30, R34), the writers of each table among the commands, and that every step
keeps every record valid. -/

namespace Sys2Proof.TableProofs

open Sys2Proof Sys2Proof.Machine

/-! ## The records of a Table Write -/

/-- A calibration record that Table Write takes is valid (R20). -/
theorem calValid_of_calOf? {bs : List Byte} {r : CalRecord} (h : calOf? bs = some r) : calValid r = true := by
  unfold calOf? at h
  split at h
  · cases h
  · split at h
    · next hv => cases h; exact hv
    · cases h

/-- A Pedal Table record that Table Write takes is valid (R30). -/
theorem pedalValid_of_pedalRecordOf? {bs : List Byte} {r : PedalRecord} (h : pedalRecordOf? bs = some r) :
    pedalValid r = true := by
  unfold pedalRecordOf? at h
  split at h
  · next hv => cases h; exact hv
  · cases h

/-- A channel is free for a key when no other key holds it (R28). -/
theorem channelHeld_eq_false (m : Vector MapEntry 88) (k : Key) (channel : Nat) :
    channelHeld m k channel = false ↔ ∀ j : Key, j ≠ k → (m[j]).channel ≠ channel := by
  simp [channelHeld, allKeys]

/-- A Key Map entry that Table Write takes holds no channel, or one in range that no other key holds (R25, R28). -/
theorem entryOf?_channel {m : Vector MapEntry 88} {k : Key} {bs : List Byte} {e : MapEntry}
    (h : entryOf? m k bs = some e) :
    e.channel ≤ 88 ∧ (e.channel = 0 ∨ ∀ j : Key, j ≠ k → (m[j]).channel ≠ e.channel) := by
  unfold entryOf? at h
  split at h
  · cases h
  · split at h
    · next hc =>
      cases h
      rw [channelHeld_eq_false] at hc
      exact hc
    · cases h

/-- What the records of a Table Write change of the tables: never the Configuration Record; the Key Map only in Unconfigured
and Stopped (R29); valid tables stay valid, and the law of the queue is kept. -/
structure RecordsWritten (s t : State) : Prop where
  law : KeepsLaw s t
  part : t.clock.part = s.clock.part
  config : t.tables.config = s.tables.config
  keyMap : t.tables.keyMap = s.tables.keyMap ∨ s.clock.part = .unconfigured ∨ s.clock.part = .stopped
  valid : TablesValid s → TablesValid t

theorem tablesValid_of_tables {s t : State} (h : t.tables = s.tables) (hs : TablesValid s) : TablesValid t := by
  unfold TablesValid CalibrationValid PedalTableValid KeyMapValid ConfigValid
  rw [h]
  exact hs

theorem TablesKept.recordsWritten {s t : State} (h : TablesKept s t) (hp : t.clock.part = s.clock.part) :
    RecordsWritten s t :=
  ⟨h.law, hp, h.tables ▸ rfl, .inl (h.tables ▸ rfl), tablesValid_of_tables h.tables⟩

theorem recordsWritten_stable : Stable RecordsWritten :=
  ⟨fun h => (tablesKept_stable.of_base h).recordsWritten (base_part h), fun h h' =>
    { law := h.law.trans h'.law
      part := h'.part.trans h.part
      config := h'.config.trans h.config
      keyMap := by
        rcases h.keyMap with hk | hp
        · rcases h'.keyMap with hk' | hp'
          · exact .inl (hk'.trans hk)
          · exact .inr (h.part ▸ hp')
        · exact .inr hp
      valid := h'.valid ∘ h.valid }⟩

theorem Calm.recordsWritten {s t : State} (h : Calm s t) : RecordsWritten s t :=
  h.kept.recordsWritten (congrArg Clock.part (outer_clock h.outerEq))

theorem CalWrites.tablesValid {s t : State} (h : CalWrites s t) : TablesValid s → TablesValid t := by
  rintro ⟨hcal, hpedal, hmap, hconfig⟩
  refine ⟨h.valid hcal, ?_, ?_, ?_⟩
  · unfold PedalTableValid; rw [h.pedal]; exact hpedal
  · unfold KeyMapValid; rw [h.keyMap]; exact hmap
  · unfold ConfigValid; rw [h.config]; exact hconfig

/-- Operations that write the Calibration Table alone, the part state as it was. -/
theorem CalWrites.recordsWritten {s t : State} (h : CalWrites s t) (hp : t.clock.part = s.clock.part) :
    RecordsWritten s t := ⟨h.law, hp, h.config, .inl h.keyMap, h.tablesValid⟩

/-- The state with one Key Map entry replaced. -/
def withEntry (k : Key) (e : MapEntry) (s : State) : State :=
  { s with tables := { s.tables with keyMap := s.tables.keyMap.set k.val e k.isLt } }

theorem withEntry_get (k : Key) (e : MapEntry) (s : State) (j : Key) :
    (withEntry k e s).tables.keyMap[j] = if j = k then e else s.tables.keyMap[j] := by
  simp only [withEntry, Fin.getElem_fin, Vector.getElem_set, Fin.ext_iff, eq_comm]

/-- A channel that no other key holds leaves no channel held by two keys (R25). -/
theorem keyMapValid_withEntry {k : Key} {e : MapEntry} {s : State} (hs : KeyMapValid s)
    (he : e.channel ≤ 88 ∧ (e.channel = 0 ∨ ∀ j : Key, j ≠ k → (s.tables.keyMap[j]).channel ≠ e.channel)) :
    KeyMapValid (withEntry k e s) := by
  obtain ⟨hrange, hone⟩ := hs
  obtain ⟨hle, hfree⟩ := he
  constructor
  · intro j
    rw [withEntry_get]
    split
    · exact hle
    · exact hrange j
  · intro i j hij
    rw [withEntry_get, withEntry_get]
    split <;> split
    · next hi hj => exact absurd (hi.trans hj.symm) hij
    · next hj => exact fun heq => hfree.resolve_right fun hf => hf j hj heq.symm
    · next hi _ => exact fun heq => hfree.elim (fun h0 => heq.trans h0) fun hf => absurd heq (hf i hi)
    · exact hone i j hij

theorem applyEntry_eq (k : Key) (e : MapEntry) (s : State) :
    applyEntry k e s =
      if captured (s.tables.keyMap[k]).role && !captured e.role then setCapture k CaptureContext.clear (withEntry k e s)
      else withEntry k e s := rfl

/-- An entry whose role stops capture returns the key's capture context to Rest besides (R29). -/
theorem applyEntry_kept (k : Key) (e : MapEntry) (s : State) : TablesKept (withEntry k e s) (applyEntry k e s) := by
  rw [applyEntry_eq]
  split
  · exact setCapture_kept k _ _ (.inl rfl)
  · exact tablesKept_stable.refl _

theorem applyEntry_part (k : Key) (e : MapEntry) (s : State) : (applyEntry k e s).clock.part = s.clock.part := by
  rw [applyEntry_eq]; split <;> rfl

theorem applyEntry_written {k : Key} {bs : List Byte} {e : MapEntry} {s : State}
    (h : entryOf? s.tables.keyMap k bs = some e) (hp : s.clock.part = .unconfigured ∨ s.clock.part = .stopped) :
    RecordsWritten s (applyEntry k e s) := by
  have hw : RecordsWritten s (withEntry k e s) :=
    ⟨keepsLaw_of_fields rfl rfl rfl fun _ => id, rfl, rfl, .inr hp, fun ⟨hcal, hpedal, hmap, hconfig⟩ =>
      ⟨hcal, hpedal, keyMapValid_withEntry hmap (entryOf?_channel h), hconfig⟩⟩
  exact recordsWritten_stable.trans hw ((applyEntry_kept k e s).recordsWritten (applyEntry_part k e s))

/-- The state with one Pedal Table record replaced. -/
def withPedalRecord (p : Pedal) (r : PedalRecord) (s : State) : State :=
  { s with tables := { s.tables with pedal := s.tables.pedal.set p.val r p.isLt } }

theorem applyPedal_written {p : Pedal} {bs : List Byte} {r : PedalRecord} {s : State} (h : pedalRecordOf? bs = some r) :
    RecordsWritten s (applyPedal p r s) := by
  have hw : RecordsWritten s (withPedalRecord p r s) :=
    ⟨keepsLaw_of_fields rfl rfl rfl fun _ => id, rfl, rfl, .inl rfl, fun ⟨hcal, hpedal, hmap, hconfig⟩ =>
      ⟨hcal, fun q => by
        simp only [withPedalRecord, Fin.getElem_fin, Vector.getElem_set]
        split
        · exact pedalValid_of_pedalRecordOf? h
        · exact hpedal q, hmap, hconfig⟩⟩
  exact recordsWritten_stable.trans hw (endGapIfOver_calm p _).recordsWritten

/-! ### One record -/

theorem writeCal_written {i : Nat} {bs : List Byte} {s t : State} (h : writeCal i bs s = .applied t) :
    RecordsWritten s t := by
  unfold writeCal at h
  (repeat' split at h) <;> try cases h
  next hr => exact (setCal_calWrites _ _ s fun _ => calValid_of_calOf? hr).recordsWritten rfl

theorem writeEntry_written {i : Nat} {bs : List Byte} {s t : State} (h : writeEntry i bs s = .applied t)
    (hp : s.clock.part = .unconfigured ∨ s.clock.part = .stopped) : RecordsWritten s t := by
  unfold writeEntry at h
  (repeat' split at h) <;> try cases h
  next he => exact applyEntry_written he hp

theorem writePedal_written {i : Nat} {bs : List Byte} {s t : State} (h : writePedal i bs s = .applied t) :
    RecordsWritten s t := by
  unfold writePedal at h
  (repeat' split at h) <;> try cases h
  next hr => exact applyPedal_written hr

/-- One record of a Table Write that was taken (R34). -/
theorem writeRecord_written {table i : Nat} {bs : List Byte} {s t : State} (h : writeRecord table i bs s = .applied t)
    (hp : table = 2 → s.clock.part = .unconfigured ∨ s.clock.part = .stopped) : RecordsWritten s t := by
  unfold writeRecord at h
  split at h
  · exact writeCal_written h
  · exact writeEntry_written h (hp rfl)
  · exact writePedal_written h

/-- The records of a Table Write, up to the first that cannot be applied (R34). -/
theorem writeRecords_written (table size n i : Nat) (bs : List Byte) (s : State)
    (hp : table = 2 → s.clock.part = .unconfigured ∨ s.clock.part = .stopped) :
    RecordsWritten s (writeRecords table size n i bs s).2.2.2 := by
  induction n generalizing i bs s with
  | zero => exact recordsWritten_stable.refl s
  | succ n ih =>
    unfold writeRecords
    split
    · exact recordsWritten_stable.refl s
    · next t ht =>
      have h := writeRecord_written ht hp
      exact recordsWritten_stable.trans h (ih _ _ t (h.part ▸ hp))

/-- A Table Write that is not refused Busy meets the Key Map in Unconfigured or Stopped (R29, R33). -/
theorem part_of_not_keyMapBusy {table : Nat} {s : State} (h : keyMapBusy table s ≠ true) :
    table = 2 → s.clock.part = .unconfigured ∨ s.clock.part = .stopped := by
  rintro rfl
  cases hp : s.clock.part <;> simp_all [keyMapBusy]

theorem writeTable_written (tag : Byte) (p : List Byte) (s : State) : RecordsWritten s (writeTable tag p s) := by
  have answer (t : State) (code : RespCode) (a b : Nat) (h : RecordsWritten s t) :
      RecordsWritten s (answerWrite tag code a b t) := recordsWritten_stable.trans h (recordsWritten_stable.of_base rfl)
  have refl := recordsWritten_stable.refl s
  unfold writeTable
  split
  · exact answer s _ _ _ refl
  · simp only
    split
    · exact answer s _ _ _ refl
    · split
      · split
        · exact answer s _ _ _ refl
        · next hb => exact answer _ _ _ _ (writeRecords_written _ _ _ _ _ s (part_of_not_keyMapBusy hb))
      · exact answer s _ _ _ refl

/-! ## The writers among the commands -/

/-- The commands that write a table (R19, R23, R29, R30, R32). -/
def writesTables (c : Instr) : Bool :=
  match c with
  | .powerOnReset _ _ => true
  | .configure _ _ => true
  | .restart _ _ => true
  | .tableWrite _ _ => true
  | .hammerTrip _ _ _ _ => true
  | .settleExpiry => true
  | _ => false

/-- Every other command leaves the four tables and keeps the law of the queue. -/
theorem exec_kept (c : Instr) (s : State) (hc : writesTables c = false) : LeadsTo TablesKept s (exec c s) := by
  have st := tablesKept_stable
  cases c with
  | powerOnReset _ _ => cases hc
  | configure _ _ => cases hc
  | restart _ _ => cases hc
  | tableWrite _ _ => cases hc
  | hammerTrip _ _ _ _ => cases hc
  | settleExpiry => cases hc
  | ptTick =>
    refine leadsTo_next ?_
    split
    · next h => exact tick_kept h
    · exact st.refl s
  | noteOn _ p =>
    refine leadsTo_next (st.deliver _ (fun s => ?_) s)
    cases noteOnFields? p with
    | none => exact st.of_base rfl
    | some f => exact takeEvent_kept (intakeNoteOn_outer f) (fun _ => intakeNoteOn_timely f) s
  | noteOff _ p =>
    refine leadsTo_next (st.deliver _ (fun s => ?_) s)
    cases noteOffFields? p with
    | none => exact st.of_base rfl
    | some f => exact takeEvent_kept (intakeNoteOff_outer f.1 f.2) (fun _ => intakeNoteOff_timely f.1 f.2) s
  | pedalTarget _ p =>
    refine leadsTo_next (st.deliver _ (fun s => ?_) s)
    cases pedalTargetFields? p with
    | none => exact st.of_base rfl
    | some f => exact takeEvent_kept (intakePedal_outer f) (fun _ => intakePedal_timely f) s
  | start _ p => exact leadsTo_next (st.request _ _ p _ (doStart_kept _) s)
  | hold _ p => exact leadsTo_next (st.request _ _ p _ (doHold_kept _) s)
  | resume _ p => exact leadsTo_next (st.request _ _ p _ (doResume_kept _) s)
  | stop _ p => exact leadsTo_next (st.request _ _ p _ (doStop_kept _) s)
  | clearErrors _ p =>
    refine leadsTo_next (st.request _ _ p _ (fun s => ?_) s)
    exact st.of_base rfl
  | clockSet _ p => exact leadsTo_next (st.request _ _ p _ (doClockSet_kept _ p) s)
  | clockLatch _ p =>
    refine leadsTo_next (st.request _ _ p (fun _ => _) (fun s => ?_) s)
    exact respond_kept _ s
  | tableRead tag p => exact leadsTo_next (st.deliver _ (st.unlessFull fun s => st.of_base (readTable_base tag p s)) s)
  | calibrateQuick _ p =>
    exact leadsTo_next (st.request _ _ p _ (fun s => (railService_kept _).behind (calibrate_kept _ _ _ s)) s)
  | calibrateSweep _ p =>
    exact leadsTo_next (st.request _ _ p _ (fun s => (railService_kept _).behind (calibrate_kept _ _ _ s)) s)
  | railPassThrough _ p =>
    exact leadsTo_next (st.deliver _ (fun s => ((railService_calm _).after (takePass_calm p s)).kept) s)
  | unknown _ _ _ =>
    refine leadsTo_next (st.deliver _ (st.unlessFull fun s => ?_) s)
    exact respond_kept _ s
  | hunt bytes => exact leadsTo_next (st.of_base (feed_base bytes s))
  | verify bytes => exact leadsTo_next (st.of_base (feed_base bytes s))
  | crcError bytes =>
    refine leadsTo_next (st.of_base (?_ : base (ite _ _ _) = _))
    split
    · exact badCheckFrame_base bytes s
    · exact feed_base bytes s
  | framingError bytes =>
    refine leadsTo_next (st.of_base (?_ : base (ite _ _ _) = _))
    split
    · exact returnToHunt_base bytes _
    · exact feed_base bytes s
  | linkLossStop =>
    refine leadsTo_next ?_
    split
    · exact (railService_kept _).behind (stopTransition_kept _ (requestReleaseAll_calm false false) s)
    · exact st.refl s
  | frameBoundary =>
    refine leadsTo_next ?_
    split
    · exact st.of_base (choose_base _ s)
    · split
      · exact st.of_base ((choose_base _ _).trans (endUpFrame_base _ s))
      · exact st.refl s
  | statusSpacing =>
    refine leadsTo_next ?_
    split
    · split
      · exact st.of_base (choose_base _ s)
      · exact st.refl s
    · exact st.refl s
  | idle _ => exact leadsTo_next (st.sninFrame _ (st.sensorFrame fun s => st.refl s) s)
  | keyTrip note p d _ _ =>
    refine leadsTo_next (st.sninFrame _ (fun s => ?_) s)
    unfold crossingFrame
    split
    · exact st.sensorFrame (fun s => st.refl s) s
    · next k _ => exact (railService_kept _).behind (st.sensorFrame (routeKeyCrossing_kept k p d) s)
  | pedalSample raw1 raw2 raw3 _ =>
    exact leadsTo_next (st.sninFrame _ (st.sensorFrame fun s => st.of_base (samplePedals_base raw1 raw2 raw3 s)) s)
  | sensorBadFrame bytes =>
    refine leadsTo_next ?_
    split
    · exact (railService_kept _).behind (st.after (sensorBad_kept _) rfl)
    · exact st.of_base rfl
  | lossWindowExpiry =>
    refine leadsTo_next ?_
    split
    · exact (railService_kept _).behind (loseSensor_kept s)
    · exact st.refl s
  | pushTimerExpiry k =>
    refine leadsTo_next ?_
    split
    · exact ((railService_calm _).after (.ite (setDrive_calm k _ s) (endPush_calm k s))).kept
    · exact st.refl s
  | gateTimerExpiry k =>
    refine leadsTo_next ?_
    split
    · exact ((closeOpen_calm k _).after (setDrive_calm k _ s)).kept
    · exact st.refl s
  | restTimerExpiry k =>
    exact leadsTo_next (Calm.ite ((railService_calm _).after (comeToRest_calm k s)) (.refl s)).kept
  | sensorlessReleaseTimer k =>
    exact leadsTo_next (Calm.ite ((railService_calm _).after (comeToRest_calm k s)) (.refl s)).kept
  | captureGateTimeout k =>
    refine leadsTo_next ?_
    split
    · exact captureTimeout_kept k s
    · exact st.refl s
  | restWaitExpiry =>
    refine leadsTo_next ?_
    split <;> exact st.of_base rfl
  | rateGapEnd p => exact leadsTo_next (endGapIfOver_calm p s).kept
  | ack tag p =>
    exact leadsTo_next (st.rlinFrame _ (fun s => (railService_kept _).behind (takeAck_kept tag p s)) s)
  | railReply p _ =>
    refine leadsTo_next (st.rlinFrame _ (fun s => ?_) s)
    unfold takeReply
    split <;> exact st.of_base rfl
  | railUnexpectedFrame _ _ _ =>
    refine leadsTo_next (st.rlinFrame _ (fun s => ?_) s)
    split
    · exact st.refl s
    · exact railFault_kept s
  | railBadFrame _ => exact leadsTo_next (st.of_base rfl)
  | acknowledgementWindow =>
    refine leadsTo_next ?_
    split
    · exact railFault_kept s
    · exact st.refl s
  | railTransmitEnd =>
    refine leadsTo_next ?_
    split
    · exact railService_kept s
    · split
      · exact ((railServiceAt_calm _ _).after (endRailFrame_calm _ s)).kept
      · exact st.refl s
  | parkTimer =>
    exact leadsTo_next (Calm.ite ((railService_calm _).after (parkExpires_calm s)) (.refl s)).kept
  | discardedSensorFrame _ _ _ => exact leadsTo_next (st.sninFrame _ (st.sensorFrame fun s => st.refl s) s)

theorem exec_configure_writes (tag : Byte) (p : List Byte) (s : State) :
    LeadsTo ConfigWrites s (exec (.configure tag p) s) :=
  leadsTo_next (configWrites_stable.request _ _ p _ (doConfigure_configWrites tag p) s)

theorem exec_restart_writes (tag : Byte) (p : List Byte) (s : State) :
    LeadsTo ConfigWrites s (exec (.restart tag p) s) :=
  leadsTo_next (configWrites_stable.request _ _ p _ (doRestart_configWrites tag) s)

theorem exec_tableWrite_writes (tag : Byte) (p : List Byte) (s : State) :
    LeadsTo RecordsWritten s (exec (.tableWrite tag p) s) :=
  leadsTo_next (recordsWritten_stable.deliver _ (recordsWritten_stable.unlessFull (writeTable_written tag p)) s)

theorem exec_hammerTrip_writes (note : Byte) (g : Gate) (stamp : Stamp) (tag : Byte) (s : State) :
    LeadsTo CalWrites s (exec (.hammerTrip note g stamp tag) s) := by
  have st := calWrites_stable
  refine leadsTo_next (st.sninFrame _ (fun s => ?_) s)
  unfold crossingFrame
  split
  · exact st.sensorFrame (fun s => st.refl s) s
  · next k _ =>
    exact st.trans (st.sensorFrame (routeHammer_calWrites k g stamp) s) (railService_calm _).calWrites

theorem exec_settleExpiry_writes (s : State) : LeadsTo CalWrites s (exec .settleExpiry s) := by
  refine leadsTo_next ?_
  split
  · exact calWrites_stable.refl s
  · exact calWrites_stable.trans (settleEnds_calWrites _ s) (railService_calm _).calWrites

/-- Settles O6: each writer changes no table but its own. -/
theorem tablesChangeOnly : Obligations.TablesChangeOnly := by
  intro c s t h
  cases hc : writesTables c with
  | false =>
    simp [(exec_kept c s hc t h).tables]
  | true =>
    cases c with
    | powerOnReset r q => exact .inl ⟨r, q, rfl⟩
    | configure tag p =>
      have w := exec_configure_writes tag p s t h
      exact .inr ⟨absurd w.cal, absurd w.keyMap, absurd w.pedal, fun _ => .inl ⟨tag, p, rfl⟩⟩
    | restart tag p =>
      have w := exec_restart_writes tag p s t h
      exact .inr ⟨absurd w.cal, absurd w.keyMap, absurd w.pedal, fun _ => .inr ⟨tag, p, rfl⟩⟩
    | tableWrite tag p =>
      have w := exec_tableWrite_writes tag p s t h
      exact .inr ⟨fun _ => .inl ⟨tag, p, rfl⟩, fun hk => ⟨⟨tag, p, rfl⟩, w.keyMap.resolve_left hk⟩,
        fun _ => ⟨tag, p, rfl⟩, absurd w.config⟩
    | hammerTrip note g stamp tag =>
      have w := exec_hammerTrip_writes note g stamp tag s t h
      exact .inr ⟨fun _ => .inr (.inl ⟨note, g, stamp, tag, rfl⟩), absurd w.keyMap, absurd w.pedal, absurd w.config⟩
    | settleExpiry =>
      have w := exec_settleExpiry_writes s t h
      exact .inr ⟨fun _ => .inr (.inr rfl), absurd w.keyMap, absurd w.pedal, absurd w.config⟩
    | _ => cases hc

/-! ## Validity -/

theorem ConfigWrites.tablesValid {s t : State} (h : ConfigWrites s t) : TablesValid s → TablesValid t := by
  rintro ⟨hcal, hpedal, hmap, hconfig⟩
  refine ⟨?_, ?_, ?_, h.valid hconfig⟩
  · unfold CalibrationValid; rw [h.cal]; exact hcal
  · unfold PedalTableValid; rw [h.pedal]; exact hpedal
  · unfold KeyMapValid; rw [h.keyMap]; exact hmap

/-- After power-on reset each key holds its own channel (R25). -/
theorem defaultKeyMap_channel (roleSel : StrapLevel) (k : Key) :
    ((defaultTables roleSel).keyMap[k]).channel = k.val + 1 := by
  simp [defaultTables, defaultKeyMap, defaultEntry, keyNo]

/-- The tables after power-on reset are valid (R19, R25, R30, R32). -/
theorem defaultTables_valid {s : State} (roleSel : StrapLevel) (h : s.tables = defaultTables roleSel) : TablesValid s := by
  unfold TablesValid CalibrationValid PedalTableValid KeyMapValid ConfigValid
  rw [h]
  refine ⟨fun k => ?_, fun p => ?_, ⟨fun k => ?_, fun j k hjk heq => ?_⟩, by simp [defaultTables, defaultConfig]⟩
  · simp only [defaultTables, Fin.getElem_fin, Vector.getElem_replicate]; decide
  · simp only [defaultTables, Fin.getElem_fin, Vector.getElem_replicate]; decide
  · rw [defaultKeyMap_channel]; exact k.isLt
  · rw [defaultKeyMap_channel, defaultKeyMap_channel] at heq
    exact absurd (Fin.ext (Nat.succ.inj heq)) hjk

theorem exec_tablesValid (c : Instr) (s t : State) (hs : TablesValid s) (h : exec c s = .next t) : TablesValid t := by
  cases hc : writesTables c with
  | false => exact tablesValid_of_tables (exec_kept c s hc t h).tables hs
  | true =>
    cases c with
    | powerOnReset r q => cases h; exact defaultTables_valid q rfl
    | configure tag p => exact (exec_configure_writes tag p s t h).tablesValid hs
    | restart tag p => exact (exec_restart_writes tag p s t h).tablesValid hs
    | tableWrite tag p => exact (exec_tableWrite_writes tag p s t h).valid hs
    | hammerTrip note g stamp tag => exact (exec_hammerTrip_writes note g stamp tag s t h).tablesValid hs
    | settleExpiry => exact (exec_settleExpiry_writes s t h).tablesValid hs
    | _ => cases hc

/-- Settles O9: every command keeps valid tables valid, and what else a step does leaves them. -/
theorem tablesStayValid : Obligations.TablesStayValid :=
  fun _ _ => step_keeps (fun _ _ hb => tablesValid_of_tables (base_tables hb)) exec_tablesValid

/-! ## The order of the queue -/

theorem law_of_base {s t : State} (h : base t = base s) : Law s → Law t := keepsLaw_of_base h

theorem exec_law (c : Instr) (s t : State) (hs : Law s) (h : exec c s = .next t) : Law t := by
  cases hc : writesTables c with
  | false => exact (exec_kept c s hc t h).law hs
  | true =>
    cases c with
    | powerOnReset r q =>
      cases h
      exact ((powerOn_emptied r q).of_eq rfl rfl).law
    | configure tag p => exact (exec_configure_writes tag p s t h).law hs
    | restart tag p => exact (exec_restart_writes tag p s t h).law hs
    | tableWrite tag p => exact (exec_tableWrite_writes tag p s t h).law hs
    | hammerTrip note g stamp tag => exact (exec_hammerTrip_writes note g stamp tag s t h).law hs
    | settleExpiry => exact (exec_settleExpiry_writes s t h).law hs
    | _ => cases hc

/-- Settles O11: every command keeps the law of the queue, and what else a step does leaves it. -/
theorem queueStaysOrdered : Obligations.QueueStaysOrdered :=
  fun _ _ => step_keeps (fun _ _ hb => law_of_base hb) exec_law

end Sys2Proof.TableProofs
end

section
/-! PROOFS. What a ready strike, a Release and a pedal action do at their hand-over (R76, R86, R87, R91, R106, R107). -/

namespace Sys2Proof.TableProofs

open Sys2Proof Sys2Proof.Machine

/-! ## Reports and contexts -/

/-- A report and the write of a context pass by one another. -/
theorem setDrive_addReport (k : Key) (c : DriveContext) (r : Report) (s : State) :
    setDrive k c (addReport r s) = addReport r (setDrive k c s) := by
  unfold addReport
  rw [setDrive_reports]
  split <;> rfl

theorem setCapture_addReport (k : Key) (c : CaptureContext) (r : Report) (s : State) :
    setCapture k c (addReport r s) = addReport r (setCapture k c s) := by
  unfold addReport
  rw [setCapture_reports]
  split <;> rfl

/-! ## Strikes -/

/-- A key is ready for a strike when its context is Idle, re-armed, or released under sensor loss (R86). -/
theorem keyReady_iff (k : Key) (s : State) :
    keyReady k s = true ↔
      (s.drive[k]).state = .idle ∨
        ((s.drive[k]).state = .releasing ∧
          ((s.drive[k]).rearmed = true ∨ s.sensor.up = false ∧ (s.drive[k]).releaseSent.isSome = true)) := by
  unfold keyReady
  cases h : (s.drive[k]).state <;> simp

/-- A strike on an available channel with its key ready is taken for push (R86, R87). -/
theorem handOver_ready {time : PT} {order : Nat} {st : Strike} {own : Option PT} {s : State}
    (hc : channelAvailable s.rail st.channel = true) (hr : keyReady st.key s = true) :
    handOver ⟨time, order, .strike st own⟩ s = takeStrike time st s := by
  simp [handOver, hc, hr]

/-- The context of a strike taken for push (R22, R87). -/
def pushContext (time : PT) (st : Strike) (restarting : Bool) : DriveContext :=
  { DriveContext.clear with
    state := .pushing, stage := .waiting, job := some (.strike st), actionTime := some time, restarting := restarting }

/-- A strike is taken for push on what its drive notice, or the close of the earlier measurement, leaves (R87). -/
theorem takeStrike_eq (time : PT) (st : Strike) (s : State) :
    takeStrike time st s =
      requestRail (.push st.key st.channel st.level)
        (setDrive st.key (pushContext time st (s.drive[st.key]).restarting)
          (if (s.drive[st.key]).state = .idle then driveNotice st.key s else closeOpen st.key s)) := rfl

/-- The strike's earlier measurement closes without an arrival: NotMeasured when it carries the mark, else NoArrival (R95,
R96). -/
theorem closeOpen_strike {k : Key} {st : Strike} {s : State} (hm : (s.drive[k]).measuring = true)
    (hj : (s.drive[k]).job = some (.strike st)) :
    closeOpen k s =
      addReport
        (driveReport st ((s.drive[k]).issue.getD 0) st.level 0 0
          (if (s.drive[k]).notMeasured = true then { strikeFlags st with notMeasured := true }
            else { strikeFlags st with noArrival := true }))
        (setDrive k { s.drive[k] with measuring := false, gateTimer := none } s) := by
  unfold closeOpen closeMeasurement
  simp only [hm, if_true, hj]
  cases (s.drive[k]).notMeasured <;> rfl

/-- With no run in flight the close of a probe's measurement touches its own context alone (R104). -/
theorem closeOpen_probe {k : Key} {channel level : Nat} {s : State} (hm : (s.drive[k]).measuring = true)
    (hj : (s.drive[k]).job = some (.probe channel level)) (hr : s.run = none) :
    closeOpen k s = setDrive k { s.drive[k] with measuring := false, gateTimer := none } s := by
  unfold closeOpen closeMeasurement probeOutcome
  simp only [hm, if_true, hj, setDrive_run, hr]

theorem takeStrike_idle {time : PT} {st : Strike} {s : State} (h : (s.drive[st.key]).state = .idle) :
    takeStrike time st s =
      requestRail (.push st.key st.channel st.level)
        (setDrive st.key (pushContext time st (s.drive[st.key]).restarting) (driveNotice st.key s)) := by
  rw [takeStrike_eq, if_pos h]

theorem takeStrike_releasing {time : PT} {st : Strike} {s : State} (h : (s.drive[st.key]).state = .releasing) :
    takeStrike time st s =
      requestRail (.push st.key st.channel st.level)
        (setDrive st.key (pushContext time st (s.drive[st.key]).restarting) (closeOpen st.key s)) := by
  rw [takeStrike_eq, if_neg (by rw [h]; simp)]

/-! ## Releases -/

/-- A context is made Releasing and its Release requested; a marked measurement closes (R91, R96). -/
theorem beginRelease_eq (k : Key) (s : State) :
    beginRelease k s =
      closeMarked k (requestRail (.release k (((s.drive[k]).job.map jobChannel).getD 0))
        (setDrive k { s.drive[k] with state := .releasing, rearmed := false, pushTimer := none } s)) := rfl

theorem setDrive_wake (k : Key) (c : DriveContext) (s : State) : setDrive k c (wake s) = wake (setDrive k c s) := by
  unfold wake
  rw [setDrive_rail]
  split <;> rfl

/-- A request and the write of a context pass by one another. -/
theorem setDrive_requestRail (k : Key) (c : DriveContext) (r : RailCmd) (s : State) :
    setDrive k c (requestRail r s) = requestRail r (setDrive k c s) := by
  unfold requestRail
  cases wakesRail r with
  | false => rfl
  | true => exact setDrive_wake k c _

/-- A marked measurement of a strike closes NotMeasured (R96). -/
theorem closeMarked_strike {k : Key} {st : Strike} {s : State} (hm : (s.drive[k]).measuring = true)
    (hn : (s.drive[k]).notMeasured = true) (hj : (s.drive[k]).job = some (.strike st)) :
    closeMarked k s =
      addReport (driveReport st ((s.drive[k]).issue.getD 0) st.level 0 0 { strikeFlags st with notMeasured := true })
        (setDrive k { s.drive[k] with measuring := false, gateTimer := none } s) := by
  unfold closeMarked closeMeasurement
  simp only [hm, hn, Bool.and_true, if_true, hj]
  rfl

/-- The Release of a strike whose measurement carries no mark (R91). -/
theorem beginRelease_unmarked {k : Key} {st : Strike} {s : State} (hj : (s.drive[k]).job = some (.strike st))
    (h : (s.drive[k]).measuring = false ∨ (s.drive[k]).notMeasured = false) :
    beginRelease k s =
      requestRail (.release k st.channel)
        (setDrive k { s.drive[k] with state := .releasing, rearmed := false, pushTimer := none } s) := by
  rw [beginRelease_eq, closeMarked_unmarked]
  · rw [hj]; rfl
  · rw [requestRail_drive, setDrive_self]; exact h

/-- The Release of a strike whose measurement carries the NotMeasured mark closes it (R91, R96). -/
theorem beginRelease_marked {k : Key} {st : Strike} {s : State} (hj : (s.drive[k]).job = some (.strike st))
    (hm : (s.drive[k]).measuring = true) (hn : (s.drive[k]).notMeasured = true) :
    beginRelease k s =
      addReport (driveReport st ((s.drive[k]).issue.getD 0) st.level 0 0 { strikeFlags st with notMeasured := true })
        (requestRail (.release k st.channel)
          (setDrive k
            { s.drive[k] with
              state := .releasing, rearmed := false, pushTimer := none, measuring := false, gateTimer := none } s)) := by
  rw [beginRelease_eq, @closeMarked_strike k st, requestRail_drive, setDrive_self, setDrive_requestRail,
    setDrive_setDrive, hj]
  · rfl
  all_goals rw [requestRail_drive, setDrive_self]
  · exact hm
  · exact hn
  · exact hj

/-- A strike whose Push waits is given up at its Release (R91). -/
theorem giveUpPush_strike {k : Key} {st : Strike} {s : State} (hj : (s.drive[k]).job = some (.strike st))
    (hr : ∀ c, s.run = some c → c.current ≠ k) :
    giveUpPush k s =
      addReport (missedReport st)
        (setCapture k CaptureContext.clear (setDrive k DriveContext.clear (withdraw (isPushOf k) s))) := by
  unfold giveUpPush
  simp only [hj]
  rw [becomeIdle_other k _ (by simpa using hr), setDrive_addReport, setCapture_addReport]

/-- A Release does nothing to a context that waits for a Restart's Release All, is Idle, or is Releasing (R91, R103). -/
theorem releaseKey_none {k : Key} {s : State}
    (h : (s.drive[k]).restarting = true ∨ (s.drive[k]).state = .idle ∨ (s.drive[k]).state = .releasing) :
    releaseKey k s = s := by
  unfold releaseKey
  simp only
  rcases h with h | h | h
  · rw [h, if_pos rfl]
  all_goals
    rw [h]
    exact ite_self s

/-- A Release ends a held strike, and one whose Push was sent (R91). -/
theorem releaseKey_driven {k : Key} {s : State} (hr : (s.drive[k]).restarting = false)
    (h : (s.drive[k]).state = .holding ∨ (s.drive[k]).state = .pushing ∧ (s.drive[k]).stage = .sent) :
    releaseKey k s = beginRelease k s := by
  unfold releaseKey
  simp only [hr, Bool.false_eq_true, if_false]
  rcases h with h | ⟨h, hs⟩
  · rw [h]
  · rw [h, hs]

theorem releaseKey_waiting {k : Key} {s : State} (hr : (s.drive[k]).restarting = false)
    (h : (s.drive[k]).state = .pushing) (hs : (s.drive[k]).stage = .waiting) : releaseKey k s = giveUpPush k s := by
  unfold releaseKey
  simp only [hr, Bool.false_eq_true, if_false, h, hs]

/-! ## Channels -/

theorem channelAvailable_iff (r : Rail) (channel : Nat) :
    channelAvailable r channel = true ↔ r.state ≠ .off ∧ r.powerOff = false ∧ r.mask.getLsbD (channel - 1) = true := by
  simp [channelAvailable, and_assoc]

theorem pedalAvailable_iff (r : Rail) (p : Pedal) :
    pedalAvailable r p = true ↔ r.state ≠ .off ∧ r.powerOff = false ∧ r.mask.getLsbD (88 + p.val) = true := by
  simp [pedalAvailable, and_assoc]

/-! ## The statement -/

/-- Settles O25: a hand-over by the kind of its action and the state of its context. -/
theorem handOversAreTaken : Obligations.HandOversAreTaken := by
  refine ⟨?_, ?_, ?_, fun r => ⟨channelAvailable_iff r, pedalAvailable_iff r⟩⟩
  · intro s time order st own
    refine ⟨keyReady_iff st.key s, fun hc hr => ?_⟩
    simp only [handOver_ready hc hr]
    refine ⟨fun hi => ?_, fun hs hm => ?_, fun old hs hm hj => ?_, fun ch lv hs hj hrun => ?_⟩
    · rw [takeStrike_idle hi, driveNotice_eq]; rfl
    · rw [takeStrike_releasing hs, closeOpen_closed _ _ hm]; rfl
    · rw [takeStrike_releasing hs, closeOpen_strike hm hj, ← setDrive_addReport, setDrive_setDrive]; rfl
    · cases hm : (s.drive[st.key]).measuring with
      | false => rw [takeStrike_releasing hs, closeOpen_closed _ _ hm]; rfl
      | true => rw [takeStrike_releasing hs, closeOpen_probe hm hj hrun, setDrive_setDrive]; rfl
  · intro s time order k channel implicit
    refine ⟨releaseKey_none, fun st hr hj => ⟨fun hd => ⟨fun hm => ?_, fun hm hn => ?_⟩, fun hp hw hrun => ?_⟩⟩
    · exact (releaseKey_driven hr hd).trans (beginRelease_unmarked hj hm)
    · exact (releaseKey_driven hr hd).trans (beginRelease_marked hj hm hn)
    · exact (releaseKey_waiting hr hp hw).trans (giveUpPush_strike hj hrun)
  · intro s time order p position
    refine ⟨fun hc ha => ?_, fun hc ha => ?_, fun hc => ?_, fun hc => ?_⟩
    · simp only [handOver, pedalAction, hc, issuePosition, ha, if_true]; rfl
    · simp only [handOver, pedalAction, hc, issuePosition, ha, Bool.false_eq_true, if_false]; rfl
    · simp only [handOver, pedalAction, hc]
      rw [← hc]; rfl
    · rcases hc with hc | hc <;> simp only [handOver, pedalAction, hc]
      · rfl
      · rw [← hc]; rfl

end Sys2Proof.TableProofs
end

section
/-! PROOFS. The table requests (R33, R34, R36): what Table Write and Table Read come to, field by field. -/

namespace Sys2Proof.TableProofs

open Sys2Proof Sys2Proof.Machine

/-! ## Table Read (R36) -/

/-- The last index of a table that Table Read takes. -/
theorem lastIndex_of_table (table : Nat) :
    table = 0 ∨ 4 < table ∨
      lastIndex table = match table with
        | 1 => 88
        | 2 => 88
        | 3 => 3
        | _ => 1 := by
  match table with
  | 0 => exact .inl rfl
  | 1 | 2 | 3 | 4 => exact .inr (.inr rfl)
  | n + 5 => exact .inr (.inl (by omega))

/-- The checks of a Table Read in order. -/
theorem readTable_eq (tag table first count : Byte) (s : State) :
    readTable tag [table, first, count] s =
      if s.tableRead.isSome then answerRead tag .busy 0 0 s
      else if ¬(1 ≤ table.toNat ∧ table.toNat ≤ 4) then answerRead tag .invalid 0 0 s
      else if ¬(1 ≤ first.toNat ∧ first.toNat ≤ lastIndex table.toNat) then answerRead tag .outOfRange 0 count.toNat s
      else
        { s with
          tableRead :=
            some ⟨tag, table.toNat, first.toNat, lastAsked table.toNat first.toNat count.toNat⟩ } := rfl

/-- Settles O40: the checks in their order. -/
theorem tableReadsAreTaken : Obligations.TableReadsAreTaken := by
  intro s tag table first count h last
  refine (congrArg Host.Outcome.next ((deliver_taken _ _ h).trans (readTable_eq tag table first count _))).trans
    (congrArg Host.Outcome.next ?_)
  rw [show (goodFrame s).tableRead = s.tableRead from rfl]
  by_cases hr : s.tableRead.isSome = true
  · rw [if_pos hr, if_pos hr]; rfl
  · rw [if_neg hr, if_neg hr]
    by_cases ht : table.toNat = 0 ∨ 4 < table.toNat
    · rw [if_pos ht, if_pos (by omega)]; rfl
    · have hl : lastIndex table.toNat = last := by
        rcases lastIndex_of_table table.toNat with h0 | h4 | hl
        · exact absurd (.inl h0) ht
        · exact absurd (.inr h4) ht
        · exact hl
      rw [if_neg ht, if_neg (by omega), hl]
      by_cases hf : first.toNat = 0 ∨ last < first.toNat
      · rw [if_pos hf, if_pos (by omega)]; rfl
      · rw [if_neg hf, if_neg (by omega), lastAsked, hl]; rfl

/-! ## The frame of a Table Write (R33) -/

/-- The record size of a table that Table Write takes (R33). -/
theorem recordSize_eq (table : Nat) :
    recordSize? table = if table = 0 ∨ 3 < table then none else some (match table with
      | 1 => 114
      | 2 => 2
      | _ => 36) := by
  match table with
  | 0 | 1 | 2 | 3 => rfl
  | n + 4 => rw [if_pos (.inr (by omega))]; rfl

/-- The greatest count of a table that Table Write takes (R33). -/
theorem countLimit_eq (table : Nat) :
    ¬(table = 0 ∨ 3 < table) → countLimit table = match table with
      | 1 => 1
      | 2 => 30
      | _ => 3 := by
  intro h
  match table with
  | 0 => exact absurd (.inl rfl) h
  | 1 | 2 | 3 => rfl
  | n + 4 => exact absurd (.inr (by omega)) h

/-- A Table Write refused for its frame (R33). -/
theorem writeTable_invalid {tag table first n : Byte} {records : List Byte} {s : State}
    (h : ∀ size, recordSize? table.toNat = some size →
      writeFrameOk table.toNat n.toNat size (3 + records.length) = false) :
    writeTable tag (table :: first :: n :: records) s = answerWrite tag .invalid first.toNat n.toNat s := by
  have hl : (table :: first :: n :: records).length = 3 + records.length := by simp; omega
  unfold writeTable
  rw [if_neg (by omega), hl]
  show (match recordSize? table.toNat with
    | none => _
    | some size => _) = _
  cases hs : recordSize? table.toNat with
  | none => rfl
  | some size => exact if_neg (Bool.eq_false_iff.mp (h size hs))

/-- A Table Write whose frame passes the checks (R33, R34). -/
theorem writeTable_taken {tag table first n : Byte} {records : List Byte} {size : Nat} {s : State}
    (hs : recordSize? table.toNat = some size)
    (h : writeFrameOk table.toNat n.toNat size (3 + records.length) = true) :
    writeTable tag (table :: first :: n :: records) s =
      if keyMapBusy table.toNat s then answerWrite tag .busy first.toNat n.toNat s
      else
        let w := writeRecords table.toNat size n.toNat first.toNat records s
        answerWrite tag w.1 w.2.1 w.2.2.1 w.2.2.2 := by
  have hl : (table :: first :: n :: records).length = 3 + records.length := by simp; omega
  unfold writeTable
  rw [if_neg (by omega), hl]
  show (match recordSize? table.toNat with
    | none => _
    | some size => _) = _
  rw [hs]
  exact if_pos h

/-- The Key Map is refused outside Unconfigured and Stopped (R29). -/
theorem keyMapBusy_iff (table : Nat) (s : State) :
    keyMapBusy table s = true ↔ table = 2 ∧ (inPerformance s = true ∨ s.clock.part = .faulted) := by
  simp [keyMapBusy, inPerformance_iff, or_assoc]

/-! ## The records in turn (R34) -/

theorem writeRecords_applied {table size n i : Nat} {bs : List Byte} {s s' : State}
    (h : writeRecord table i (bs.take size) s = .applied s') :
    writeRecords table size (n + 1) i bs s = writeRecords table size n (i + 1) (bs.drop size) s' := by
  rw [writeRecords, h]

theorem writeRecords_stopped {table size n i : Nat} {bs : List Byte} {s : State} {code : RespCode}
    (h : writeRecord table i (bs.take size) s = .stopped code) :
    writeRecords table size (n + 1) i bs s = (code, i, n + 1, s) := by
  rw [writeRecords, h]

/-- The records are applied up to the first that cannot be, or to the last (R34). -/
theorem writeRecords_split (table size n i : Nat) (bs : List Byte) (s : State) :
    ∃ m s' code, m ≤ n ∧ writeRecords table size m i bs s = (.done, 0, 0, s') ∧
      (m = n ∧ code = .done ∨
        m < n ∧ writeRecord table (i + m) ((bs.drop (m * size)).take size) s' = .stopped code) ∧
      writeRecords table size n i bs s = (code, if m = n then 0 else i + m, n - m, s') := by
  induction n generalizing i bs s with
  | zero => exact ⟨0, s, .done, le_rfl, rfl, .inl ⟨rfl, rfl⟩, rfl⟩
  | succ n ih =>
    cases h : writeRecord table i (bs.take size) s with
    | stopped code =>
      exact ⟨0, s, code, Nat.zero_le _, rfl, .inr ⟨Nat.succ_pos n, by simpa using h⟩, writeRecords_stopped h⟩
    | applied t =>
      obtain ⟨m, s', code, hm, hdone, hstop, hall⟩ := ih (i + 1) (bs.drop size) t
      refine ⟨m + 1, s', code, by omega, (writeRecords_applied h).trans hdone, ?_,
        (writeRecords_applied h).trans (hall.trans ?_)⟩
      · rcases hstop with ⟨rfl, hc⟩ | ⟨hlt, hc⟩
        · exact .inl ⟨rfl, hc⟩
        · refine .inr ⟨by omega, ?_⟩
          rwa [List.drop_drop, show i + 1 + m = i + (m + 1) by omega,
            show size + m * size = (m + 1) * size by ring] at hc
      · simp only [Nat.add_right_cancel_iff, Nat.add_sub_add_right, Nat.add_assoc, Nat.add_comm 1 m]

/-! ## One record of the Calibration Table and of the Key Map (R20, R24, R28) -/

theorem keyOf?_none {i : Nat} (h : i = 0 ∨ 88 < i) : keyOf? (i : Int) = none := by
  unfold keyOf?
  rw [dif_neg (by omega)]

theorem keyOf?_keyNo (k : Key) : keyOf? ((k.val + 1 : Nat) : Int) = some k := by
  unfold keyOf?
  rw [dif_pos (by omega)]
  exact congrArg some (Fin.ext (by simp))

theorem pedalOf?_none {i : Nat} (h : i = 0 ∨ 3 < i) : pedalOf? i = none := by
  unfold pedalOf?
  rw [dif_neg (by omega)]

theorem pedalOf?_pedalNo (p : Pedal) : pedalOf? (p.val + 1) = some p := by
  unfold pedalOf?
  rw [dif_pos (by omega)]
  rfl

/-- The key of an index is the current note of a run in flight (R24). -/
theorem isCurrentNote_keyNo (k : Key) (s : State) :
    isCurrentNote (k.val + 1) s = true ↔ ∃ c, s.run = some c ∧ c.current = k := by
  unfold isCurrentNote
  cases s.run <;> simp [keyNo, Fin.ext_iff]

theorem writeCal_outside {i : Nat} (h : i = 0 ∨ 88 < i) (bs : List Byte) (s : State) :
    writeRecord 1 i bs s = .stopped .outOfRange := by
  show writeCal i bs s = _
  unfold writeCal
  rw [keyOf?_none h]

/-- A calibration record at a key's index (R20, R24, R34). -/
theorem writeCal_key (k : Key) (bs : List Byte) (s : State) :
    writeRecord 1 (k.val + 1) bs s =
      if isCurrentNote (k.val + 1) s then .stopped .busy
      else
        match calOf? bs with
        | none => .stopped .invalid
        | some r => .applied (setCal k r s) := by
  show writeCal (k.val + 1) bs s = _
  unfold writeCal
  rewrite [keyOf?_keyNo]
  rfl

theorem writeEntry_outside {i : Nat} (h : i = 0 ∨ 88 < i) (bs : List Byte) (s : State) :
    writeRecord 2 i bs s = .stopped .outOfRange := by
  show writeEntry i bs s = _
  unfold writeEntry
  rw [keyOf?_none h]

/-- A Key Map entry at a key's index (R28, R34). -/
theorem writeEntry_key (k : Key) (bs : List Byte) (s : State) :
    writeRecord 2 (k.val + 1) bs s =
      match entryOf? s.tables.keyMap k bs with
      | none => .stopped .invalid
      | some e => .applied (applyEntry k e s) := by
  show writeEntry (k.val + 1) bs s = _
  unfold writeEntry
  rewrite [keyOf?_keyNo]
  rfl

/-- The role bytes are 0..3 (R28). -/
theorem roleOf?_eq (n : Nat) :
    roleOf? n = if n ≤ 3 then some (match n with
      | 0 => .replay
      | 1 => .capture
      | 2 => .both
      | _ => .muted) else none := by
  match n with
  | 0 => rfl
  | 1 => rfl
  | 2 => rfl
  | 3 => rfl
  | n + 4 => rw [if_neg (by omega)]; rfl

/-- An entry is taken when its channel is in range and free and its role is one of the four (R28). -/
theorem entryOf?_eq (m : Vector MapEntry 88) (k : Key) (channel role : Byte) :
    entryOf? m k [channel, role] =
      if channel.toNat ≤ 88 ∧ role.toNat ≤ 3 ∧
          (channel.toNat = 0 ∨ ∀ j : Key, j ≠ k → (m[j]).channel ≠ channel.toNat) then
        some (MapEntry.mk channel.toNat (match role.toNat with
          | 0 => .replay
          | 1 => .capture
          | 2 => .both
          | _ => .muted))
      else none := by
  show (match roleOf? role.toNat with
    | none => none
    | some r =>
      if channel.toNat ≤ 88 ∧ (channel.toNat = 0 ∨ channelHeld m k channel.toNat = false) then
        some (MapEntry.mk channel.toNat r) else none) = _
  rw [roleOf?_eq]
  simp only [channelHeld_eq_false]
  by_cases hr : role.toNat ≤ 3
  · rw [if_pos hr]
    simp only [hr, true_and]
  · rw [if_neg hr, if_neg fun h => hr h.2.1]

/-- A role that stops capture (R29). -/
theorem captured_stops (old new : Role) :
    (captured old && !captured new) = true ↔ (old = .capture ∨ old = .both) ∧ (new = .replay ∨ new = .muted) := by
  cases old <;> cases new <;> simp [captured]

/-- An entry replaced whole; a key whose role stops capture is returned to Rest (R29). -/
theorem applyEntry_eq_fields (k : Key) (e : MapEntry) (s : State) :
    applyEntry k e s =
      { s with
        tables := { s.tables with keyMap := s.tables.keyMap.set k.val e k.isLt }
        capture :=
          if ((s.tables.keyMap[k]).role = .capture ∨ (s.tables.keyMap[k]).role = .both) ∧
              (e.role = .replay ∨ e.role = .muted) then
            s.capture.set k.val CaptureContext.clear k.isLt
          else s.capture } := by
  rw [applyEntry_eq]
  simp only [captured_stops]
  split <;> rfl

/-! ## The fields of a record (R20, R30) -/

theorem byteAt_lt (bs : List Byte) (i : Nat) : byteAt bs i < 256 := (bs.getD i 0).isLt

/-- A signed field in two's complement. -/
theorem signed16_eq (bs : List Byte) (i : Nat) :
    signed16 bs i = if word16 bs i < 32768 then (word16 bs i : Int) else word16 bs i - 65536 := by
  have h : word16 bs i < 65536 := by
    have h1 := byteAt_lt bs i
    have h2 := byteAt_lt bs (i + 1)
    unfold word16
    omega
  unfold signed16 bits16
  rw [BitVec.toInt_eq_toNat_cond, BitVec.toNat_ofNat, Nat.mod_eq_of_lt (by omega)]
  split <;> split <;> omega

theorem xsOk_iff (lo hi : Nat) (c : Curve) :
    xsOk lo hi c = true ↔
      ((curvePoints c).map (·.x)).Pairwise (· < ·) ∧ ∀ q ∈ curvePoints c, lo ≤ q.x ∧ q.x ≤ hi := by
  simp only [xsOk, Bool.and_eq_true, decide_eq_true_eq, List.all_eq_true]

theorem ysRise_iff (hi : Nat) (c : Curve) :
    ysRise hi c = true ↔ ((curvePoints c).map (·.y)).Pairwise (· ≤ ·) ∧ ∀ q ∈ curvePoints c, q.y ≤ hi := by
  simp only [ysRise, Bool.and_eq_true, decide_eq_true_eq, List.all_eq_true]

/-- A calibration record is read under the curve its selection byte names, 0 or 1, and taken when it is valid (R20). -/
theorem calOf?_eq (bs : List Byte) :
    calOf? bs =
      if byteAt bs 96 ≤ 1 ∧ calValid (calFieldsOf bs (if byteAt bs 96 = 0 then .a else .b)) = true then
        some (calFieldsOf bs (if byteAt bs 96 = 0 then .a else .b))
      else none := by
  unfold calOf?
  generalize byteAt bs 96 = n
  match n with
  | 0 => simp [selectOf?]
  | 1 => simp [selectOf?]
  | n + 2 => rw [if_neg fun h => by omega]; rfl

theorem pedalRecordOf?_eq (bs : List Byte) :
    pedalRecordOf? bs = if pedalValid (pedalFieldsOf bs) = true then some (pedalFieldsOf bs) else none := rfl

/-! ## One record of the Pedal Table (R30, R108) -/

theorem writePedal_outside {i : Nat} (h : i = 0 ∨ 3 < i) (bs : List Byte) (s : State) :
    writeRecord 3 i bs s = .stopped .outOfRange := by
  show writePedal i bs s = _
  unfold writePedal
  rw [pedalOf?_none h]

/-- A Pedal Table record at a pedal's index (R30, R34). -/
theorem writePedal_pedal (p : Pedal) (bs : List Byte) (s : State) :
    writeRecord 3 (p.val + 1) bs s =
      match pedalRecordOf? bs with
      | none => .stopped .invalid
      | some r => .applied (endGapIfOver p (withPedalRecord p r s)) := by
  show writePedal (p.val + 1) bs s = _
  unfold writePedal
  rewrite [pedalOf?_pedalNo]
  rfl

/-- The rate gap of the record as it stands has run out since the last sending (R105, R108). -/
theorem gapOver_withPedalRecord (p : Pedal) (r : PedalRecord) (s : State) :
    gapOver p (withPedalRecord p r s) = true ↔
      ∀ us ∈ (s.replay[p]).lastSent, us + r.rateGap * 1000 ≤ s.localTime := by
  have hr : (withPedalRecord p r s).tables.pedal[p] = r := by simp [withPedalRecord]
  unfold gapOver
  rw [hr]
  show (match (s.replay[p]).lastSent with
    | none => true
    | some t => decide (t + r.rateGap * 1000 ≤ s.localTime)) = true ↔ _
  cases (s.replay[p]).lastSent <;> simp

/-! ## The statement -/

/-- A Table Write met by a receiver Locked at a frame with room for its Response (R178, R179). -/
theorem exec_tableWrite_taken {s : State} (tag : Byte) (p : List Byte) (h : RequestTaken s) :
    exec (.tableWrite tag p) s = .next (writeTable tag p (goodFrame s)) :=
  congrArg Host.Outcome.next (deliver_taken _ _ h)

/-- The frame check of a Table Write (R33). -/
theorem writeFrameOk_iff (table n size length : Nat) :
    writeFrameOk table n size (3 + length) = true ↔ n ≠ 0 ∧ n ≤ countLimit table ∧ length = n * size := by
  simp [writeFrameOk]

/-- A Table Write whose header and records are within the limits of its table is taken or Busy, any other Invalid (R33). -/
theorem writeTable_checked (e : State) (tag table first n : Byte) (records : List Byte) (size limit : Nat)
    (hsize : recordSize? table.toNat = if table.toNat = 0 ∨ 3 < table.toNat then none else some size)
    (hlimit : ¬(table.toNat = 0 ∨ 3 < table.toNat) → countLimit table.toNat = limit) :
    let refused := table.toNat = 0 ∨ 3 < table.toNat ∨ n.toNat = 0 ∨ limit < n.toNat ∨
      records.length ≠ n.toNat * size
    (refused → writeTable tag (table :: first :: n :: records) e =
      answerWrite tag .invalid first.toNat n.toNat e) ∧
    (¬refused → recordSize? table.toNat = some size ∧
      writeFrameOk table.toNat n.toNat size (3 + records.length) = true) := by
  intro refused
  by_cases ht : table.toNat = 0 ∨ 3 < table.toNat
  · rw [if_pos ht] at hsize
    refine ⟨fun _ => writeTable_invalid fun _ h => ?_, fun hr => absurd ?_ hr⟩
    · rw [hsize] at h
      exact nomatch h
    · exact ht.imp_right .inl
  · rw [if_neg ht] at hsize
    have hok : writeFrameOk table.toNat n.toNat size (3 + records.length) = true ↔ ¬refused := by
      rw [writeFrameOk_iff, hlimit ht]
      simp only [refused]
      omega
    refine ⟨fun hr => writeTable_invalid fun size' h => ?_, fun hr => ⟨hsize, hok.mpr hr⟩⟩
    cases hsize.symm.trans h
    exact Bool.eq_false_iff.mpr fun h => hok.mp h hr

/-- A rate gap that the time elapsed reaches under the new record ends at the write (R108). -/
theorem endGapIfOver_withPedalRecord {p : Pedal} {r : PedalRecord} {s : State}
    (h : ∀ us ∈ (s.replay[p]).lastSent, us + r.rateGap * 1000 ≤ s.localTime) :
    endGapIfOver p (withPedalRecord p r s) = endGap p (withPedalRecord p r s) :=
  if_pos ((gapOver_withPedalRecord p r s).mpr h)

/-- A Ready or Requested pedal, or one whose gap has still to run, keeps its context (R108). -/
theorem endGapIfOver_withPedalRecord_kept {p : Pedal} {r : PedalRecord} {s : State}
    (h : (s.replay[p]).state = .ready ∨ (s.replay[p]).state = .requested ∨
      ¬∀ us ∈ (s.replay[p]).lastSent, us + r.rateGap * 1000 ≤ s.localTime) :
    endGapIfOver p (withPedalRecord p r s) = withPedalRecord p r s := by
  by_cases hg : gapOver p (withPedalRecord p r s) = true
  · have hgap := (gapOver_withPedalRecord p r s).mp hg
    have hstate : ((withPedalRecord p r s).replay[p]).state = .ready ∨
        ((withPedalRecord p r s).replay[p]).state = .requested :=
      h.imp_right fun h => h.resolve_right fun h => h hgap
    unfold endGapIfOver endGap
    rw [if_pos hg]
    rcases hstate with h | h <;> rw [h]
  · exact if_neg hg

/-- A waiting position is issued at the end of the gap (R107, R108). -/
theorem endGap_waiting {p : Pedal} {position : Nat} {s : State} (hs : (s.replay[p]).state = .waiting)
    (hp : (s.replay[p]).waiting = some position) : endGap p s = issuePosition p position s := by
  unfold endGap
  rw [hs, hp]
  rfl

/-- The end of the gap of a pedal with nothing waiting (R108). -/
theorem endGap_spacing {p : Pedal} {s : State} (hs : (s.replay[p]).state = .spacing) :
    endGap p s = setReplay p { s.replay[p] with state := .ready } s := by
  unfold endGap
  rw [hs]

theorem calValid_iff (r : CalRecord) :
    calValid r = true ↔
      (((curvePoints r.curveA).map (·.x)).Pairwise (· < ·) ∧ ∀ q ∈ curvePoints r.curveA, 50 ≤ q.x ∧ q.x ≤ 6000) ∧
      (((curvePoints r.curveA).map (·.y)).Pairwise (· ≤ ·) ∧ ∀ q ∈ curvePoints r.curveA, q.y ≤ 1023) ∧
      (((curvePoints r.curveB).map (·.x)).Pairwise (· < ·) ∧ ∀ q ∈ curvePoints r.curveB, 50 ≤ q.x ∧ q.x ≤ 6000) ∧
      (((curvePoints r.curveB).map (·.y)).Pairwise (· ≤ ·) ∧ ∀ q ∈ curvePoints r.curveB, q.y ≤ 1023) ∧
      (((curvePoints r.leadCurve).map (·.x)).Pairwise (· < ·) ∧
        ∀ q ∈ curvePoints r.leadCurve, 50 ≤ q.x ∧ q.x ≤ 6000) ∧
      (∀ q ∈ curvePoints r.leadCurve, q.y ≤ 65535) ∧
      (-255 ≤ r.levelOffset ∧ r.levelOffset ≤ 255 ∧ r.ceiling ≤ 1023 ∧ r.holdLevel ≤ 1023 ∧
        5 ≤ r.pushLimit ∧ r.pushLimit ≤ 80 ∧ 1000 ≤ r.gateSpacing ∧ r.gateSpacing ≤ 6000 ∧ r.refLevel ≤ 1023 ∧
        50 ≤ r.firmLimit ∧ r.firmLimit ≤ 6000 ∧ -2000 ≤ r.leadTrim ∧ r.leadTrim ≤ 2000 ∧
        2000 ≤ r.repGap ∧ r.repGap ≤ 30000) := by
  unfold calValid
  simp only [Bool.and_eq_true, xsOk_iff, ysRise_iff, List.all_eq_true, decide_eq_true_eq, and_assoc]

theorem pedalValid_iff (r : PedalRecord) :
    pedalValid r = true ↔
      (((curvePoints r.curve).map (·.x)).Pairwise (· < ·) ∧ ∀ q ∈ curvePoints r.curve, 0 ≤ q.x ∧ q.x ≤ 4095) ∧
      (((curvePoints r.curve).map (·.y)).Pairwise (· ≤ ·) ∧ ∀ q ∈ curvePoints r.curve, q.y ≤ 1023) ∧
      r.lead ≤ 60000 ∧ 1 ≤ r.deadband ∧ r.deadband ≤ 64 ∧ 1 ≤ r.rateGap ∧ r.rateGap ≤ 20 := by
  unfold pedalValid
  simp only [Bool.and_eq_true, xsOk_iff, ysRise_iff, decide_eq_true_eq, and_assoc]

/-- What is offered under a condition is taken when the condition holds, and nothing else is. -/
theorem taken_iff {α : Type} {x : Option α} {a b : α} {c v : Prop} [Decidable c]
    (hx : x = if c then some a else none) (hv : c ↔ v) (hb : a = b) :
    (v → x = some b) ∧ (¬v → x = none) :=
  ⟨fun h => (hx.trans (if_pos (hv.mpr h))).trans (congrArg some hb), fun h => hx.trans (if_neg fun hc => h (hv.mp hc))⟩

/-- Settles O39: the frame's check, the records in turn, and each record by its table. -/
theorem tableWritesAreTaken : Obligations.TableWritesAreTaken := by
  refine ⟨?short, ?frame, ?turn, ?cal, fun s i record h => writeEntry_outside h record s, ?entry, ?fields, ?pedal⟩
  case short =>
    intro s tag p h hp
    rw [exec_tableWrite_taken tag p h, writeTable, if_pos hp]
    rfl
  case frame =>
    intro s tag table first n records h e size limit refused busy frame
    have hexec : exec frame s = .next (writeTable tag (table :: first :: n :: records) e) :=
      exec_tableWrite_taken tag _ h
    obtain ⟨hrefused, htaken⟩ := writeTable_checked e tag table first n records size limit
      (recordSize_eq table.toNat) (countLimit_eq table.toNat)
    rw [hexec]
    refine ⟨fun hr => congrArg _ (hrefused hr), fun hr hb => ?_, fun hr hb => ?_⟩
    · rw [writeTable_taken (htaken hr).1 (htaken hr).2, if_pos ((keyMapBusy_iff table.toNat e).mpr hb)]
      rfl
    · obtain ⟨m, s', code, hm, hdone, hstop, hall⟩ := writeRecords_split table.toNat size n.toNat first.toNat records e
      refine ⟨m, s', code, hm, hdone, hstop, ?_⟩
      rw [writeTable_taken (htaken hr).1 (htaken hr).2, if_neg fun h => hb ((keyMapBusy_iff table.toNat e).mp h)]
      simp only [hall]
      rfl
  case turn =>
    exact fun table size n i records s => ⟨rfl, fun _ => writeRecords_applied, fun _ => writeRecords_stopped⟩
  case cal =>
    intro s i record
    refine ⟨fun h => writeCal_outside h record s, ?_⟩
    rintro k rfl
    rw [writeCal_key]
    refine ⟨fun h => if_pos ((isCurrentNote_keyNo k s).mpr h), fun h => ?_⟩
    have hfree : ¬isCurrentNote (k.val + 1) s = true := fun hc => by
      obtain ⟨c, hc, hk⟩ := (isCurrentNote_keyNo k s).mp hc
      exact h c hc hk
    rw [if_neg hfree]
    exact ⟨fun h => by rw [h], fun r h => by rw [h]; rfl⟩
  case entry =>
    intro s k channel role old r valid
    rw [writeEntry_key, entryOf?_eq]
    refine ⟨fun h => by rw [if_neg h], fun h => ?_⟩
    rw [if_pos h]
    exact congrArg Applied.applied (applyEntry_eq_fields k _ s)
  case fields =>
    intro record at8 at16 signed point curve rising level r valid pedal pedalOk
    have hr : calFieldsOf record (if byteAt record 96 = 0 then .a else .b) = r := by
      unfold calFieldsOf
      rw [signed16_eq, signed16_eq]
      rfl
    have hvalid : byteAt record 96 ≤ 1 ∧
        calValid (calFieldsOf record (if byteAt record 96 = 0 then .a else .b)) = true ↔ valid := by
      rw [hr, calValid_iff]
      exact ⟨fun ⟨hs, xa, ya, xb, yb, xl, yl, h⟩ => ⟨xa, ya, xb, yb, xl, yl, hs, h⟩,
        fun ⟨xa, ya, xb, yb, xl, yl, hs, h⟩ => ⟨hs, xa, ya, xb, yb, xl, yl, h⟩⟩
    have hcal := taken_iff (calOf?_eq record) hvalid hr
    have hpedal := taken_iff (pedalRecordOf?_eq record) (pedalValid_iff _) rfl
    exact ⟨hcal.1, hcal.2, hpedal⟩
  case pedal =>
    intro s i record
    refine ⟨fun h => writePedal_outside h record s, ?_⟩
    rintro p rfl
    rw [writePedal_pedal]
    refine ⟨fun h => by rw [h], fun r h => ?_⟩
    rw [h]
    intro e c put elapsed
    refine ⟨fun hs hg => ?_, fun position hs hp hg => ?_, fun hk => ?_⟩
    · exact congrArg Applied.applied ((endGapIfOver_withPedalRecord hg).trans (endGap_spacing hs))
    · exact congrArg Applied.applied ((endGapIfOver_withPedalRecord hg).trans (endGap_waiting hs hp))
    · exact congrArg Applied.applied (endGapIfOver_withPedalRecord_kept hk)

end Sys2Proof.TableProofs
end

section
/-! PROOFS. The upstream arbiter (R181 to R183): what a boundary of the line chooses, and what the end of a Table Data
frame comes to. -/

namespace Sys2Proof.TableProofs

open Sys2Proof Sys2Proof.Machine

theorem statusDue_iff (us : Nat) (s : State) :
    statusDue us s = true ↔ ∀ d ∈ s.link.lastStatus, d + us ≤ s.localTime := by
  unfold statusDue
  cases s.link.lastStatus <;> simp

/-- A boundary on an idle line, and one while a frame stands on it (R181). -/
theorem execFrameBoundary_idle {s : State} (h : s.link.tx = none) :
    exec .frameBoundary s = .next (choose (twelfths s.localTime) s) := by
  show execFrameBoundary s = _
  unfold execFrameBoundary
  rw [h]

theorem execFrameBoundary_sending {s : State} {x : UpTx} (h : s.link.tx = some x) :
    exec .frameBoundary s =
      .next (if upFrameDone s x then choose (upFrameEnd s x) (endUpFrame x s) else s) := by
  show execFrameBoundary s = _
  unfold execFrameBoundary
  rw [h]

theorem execStatusSpacing_idle {s : State} (h : s.link.tx = none) :
    exec .statusSpacing s = .next (if statusDue 1000 s then choose (twelfths s.localTime) s else s) := by
  show execStatusSpacing s = _
  unfold execStatusSpacing
  rw [h]

theorem execStatusSpacing_sending {s : State} {x : UpTx} (h : s.link.tx = some x) :
    exec .statusSpacing s = .next s := by
  show execStatusSpacing s = _
  unfold execStatusSpacing
  rw [h]

/-- A frame that moves no read on leaves the line idle, and nothing else (R37). -/
theorem endUpFrame_idle {x : UpTx} {s : State} (h : x.advances = false ∨ s.tableRead = none) :
    endUpFrame x s = { s with link := { s.link with tx := none } } := by
  unfold endUpFrame
  by_cases ha : x.advances = true
  · have hr : s.tableRead = none := h.resolve_left fun hf => nomatch ha.symm.trans hf
    simp only [if_pos ha]
    unfold advanceRead
    rw [hr]
  · exact if_neg ha

/-- A Table Data frame within its read moves the read on (R37). -/
theorem endUpFrame_movesOn {x : UpTx} {s : State} {r : TableRead} (ha : x.advances = true)
    (hr : s.tableRead = some r) (hn : r.next + 1 ≤ r.lastAsked ∧ r.next + 1 ≤ lastIndex r.table) :
    endUpFrame x s =
      { s with link := { s.link with tx := none }, tableRead := some { r with next := r.next + 1 } } := by
  unfold endUpFrame
  simp only [if_pos ha]
  unfold advanceRead
  simp only [hr]
  exact if_pos hn

/-- The last Table Data frame of a read completes it with its Response (R38). -/
theorem endUpFrame_completes {x : UpTx} {s : State} {r : TableRead} (ha : x.advances = true)
    (hr : s.tableRead = some r) (hn : ¬(r.next + 1 ≤ r.lastAsked ∧ r.next + 1 ≤ lastIndex r.table)) :
    endUpFrame x s =
      { s with
        tableRead := none
        link := { s.link with tx := none, responses := s.link.responses ++ [readResponse r] } } := by
  unfold endUpFrame
  simp only [if_pos ha]
  unfold advanceRead
  simp only [hr]
  exact if_neg hn

/-- The choices below the captured events, in rank order (R181, R183). -/
theorem chooseLower_eq (start : Nat) (s : State) :
    chooseLower start s =
      if ∀ d ∈ s.link.lastStatus, d + 20000 ≤ s.localTime then sendStatus start s
      else
        match s.reports, s.rail.replies with
        | r :: rest, _ => sendUp start (.report r) false { s with reports := rest }
        | [], p :: rest => sendUp start (.railReply p) false { s with rail := { s.rail with replies := rest } }
        | [], [] => if ∀ d ∈ s.link.lastStatus, d + 1000 ≤ s.localTime then sendStatus start s else s := by
  refine if_congr (statusDue_iff 20000 s) rfl ?_
  cases s.reports with
  | cons r rest => rfl
  | nil =>
    cases s.rail.replies with
    | cons p rest => rfl
    | nil => exact if_congr (statusDue_iff 1000 s) rfl rfl

/-- Settles O45: the source chosen in rank order, and the three ends of a frame. -/
theorem arbiterChooses : Obligations.ArbiterChooses := by
  intro s rate lastOf chosen
  have hchoose : ∀ start e, choose start e = chosen start e := by
    intro start e
    unfold choose
    rewrite [chooseLower_eq]
    rfl
  refine ⟨fun htx => ⟨?_, ?_⟩, fun x htx => ?_⟩
  · rw [execFrameBoundary_idle htx, hchoose]
    rfl
  · rw [execStatusSpacing_idle htx, hchoose]
    simp only [statusDue_iff]
    rfl
  · intro ends idle
    have hdone : upFrameDone s x = true ↔ ends ≤ 12 * s.localTime := decide_eq_true_iff
    have hlast : ∀ table, lastIndex table = lastOf table := fun _ => rfl
    rw [execFrameBoundary_sending htx]
    refine ⟨execStatusSpacing_sending htx, fun h => ?_, fun h => ⟨fun hi => ?_, fun r ha hr => ?_⟩⟩
    · rw [if_neg fun hd => absurd (hdone.mp hd) (by omega)]
    · rw [if_pos (hdone.mpr h), endUpFrame_idle hi, hchoose]
      rfl
    · rw [if_pos (hdone.mpr h), hchoose]
      simp only [← hlast]
      refine ⟨fun h1 h2 => ?_, fun hn => ?_⟩
      · rw [endUpFrame_movesOn ha hr ⟨h1, h2⟩]
        rfl
      · rw [endUpFrame_completes ha hr (by omega)]
        rfl

end Sys2Proof.TableProofs
end

section
/-! PROOFS. The frames of PLOUT byte by byte (R180, R184, R185): each field of the layouts as the bytes of its number. -/

namespace Sys2Proof.TableProofs

open Sys2Proof Sys2Proof.Machine

/-! ## Fields of two and of four bytes, most significant byte first -/

/-- A number in two bytes. -/
def twoBytes (n : Nat) : List Byte := [BitVec.ofNat 8 (n / 256), BitVec.ofNat 8 n]

/-- A number in four bytes. -/
def fourBytes (n : Nat) : List Byte :=
  [BitVec.ofNat 8 (n / 16777216), BitVec.ofNat 8 (n / 65536), BitVec.ofNat 8 (n / 256), BitVec.ofNat 8 n]

theorem bytes16_eq (v : BitVec 16) : bytes16 v = twoBytes v.toNat := by
  simp only [bytes16, twoBytes, List.cons.injEq, and_true]
  exact ⟨BitVec.eq_of_toNat_eq (by simp [Nat.shiftRight_eq_div_pow]), BitVec.eq_of_toNat_eq (by simp)⟩

theorem bytes32_eq (v : BitVec 32) : bytes32 v = fourBytes v.toNat := by
  simp only [bytes32, fourBytes, List.cons.injEq, and_true]
  refine ⟨?_, ?_, ?_, ?_⟩ <;> exact BitVec.eq_of_toNat_eq (by simp [Nat.shiftRight_eq_div_pow])

/-- A byte of a number depends on the number's bits from that byte up alone. -/
theorem ofNat8_mod_div (n m d : Nat) : BitVec.ofNat 8 (n % (d * 256 * m) / d) = BitVec.ofNat 8 (n / d) := by
  rw [Nat.mul_assoc, Nat.mod_mul_right_div_self]
  exact BitVec.eq_of_toNat_eq (by simp)

theorem put16_eq : put16 = twoBytes := by
  funext n
  rw [put16, bytes16_eq, BitVec.toNat_ofNat, twoBytes, twoBytes]
  exact congrArg₂ _ (ofNat8_mod_div n 1 256) (congrArg (· :: []) (by simpa using ofNat8_mod_div n 256 1))

theorem put32_eq : put32 = fourBytes := by
  funext n
  rw [put32, bytes32_eq, BitVec.toNat_ofNat, fourBytes, fourBytes]
  simp only [List.cons.injEq, and_true]
  refine ⟨ofNat8_mod_div n 1 16777216, ofNat8_mod_div n 256 65536, ofNat8_mod_div n 65536 256, ?_⟩
  simpa using ofNat8_mod_div n 16777216 1

theorem putSigned16_eq (v : Int) : putSigned16 v = twoBytes (v % 65536).toNat := by
  rw [putSigned16, bytes16_eq, BitVec.toNat_ofInt]
  rfl

theorem putSigned32_eq (v : Int) : putSigned32 v = fourBytes (v % 4294967296).toNat := by
  rw [putSigned32, bytes32_eq, BitVec.toNat_ofInt]
  rfl

/-- A signed byte in two's complement. -/
theorem ofInt8_eq (v : Int) : BitVec.ofInt 8 v = BitVec.ofNat 8 (v % 256).toNat :=
  BitVec.eq_of_toNat_eq (by rw [BitVec.toNat_ofInt, BitVec.toNat_ofNat]; omega)

theorem curveBytes_eq (c : Curve) :
    curveBytes c = (curvePoints c).flatMap fun q => twoBytes q.x ++ twoBytes q.y := by
  rw [curveBytes, put16_eq]

/-! ## The records of the four tables (R32, R37) -/

theorem recordBytes_cal (t : Tables) (k : Key) : recordBytes 1 (k.val + 1) t = calBytes t.cal[k] := by
  show (match keyOf? ((k.val + 1 : Nat) : Int) with
    | some k => calBytes t.cal[k]
    | none => []) = _
  rw [keyOf?_keyNo]

theorem recordBytes_keyMap (t : Tables) (k : Key) : recordBytes 2 (k.val + 1) t = entryBytes t.keyMap[k] := by
  show (match keyOf? ((k.val + 1 : Nat) : Int) with
    | some k => entryBytes t.keyMap[k]
    | none => []) = _
  rw [keyOf?_keyNo]

theorem recordBytes_pedal (t : Tables) (p : Pedal) : recordBytes 3 (p.val + 1) t = pedalBytes t.pedal[p] := by
  show (match pedalOf? (p.val + 1) with
    | some p => pedalBytes t.pedal[p]
    | none => []) = _
  rw [pedalOf?_pedalNo]

/-! ## Flags: the first in the lowest bit -/

theorem flagBits_two (a b : Bool) : flagBits [a, b] = a.toNat + 2 * b.toNat := rfl

theorem flagBits_four (a b c d : Bool) :
    flagBits [a, b, c, d] = a.toNat + 2 * b.toNat + 4 * c.toNat + 8 * d.toNat := by
  simp only [flagBits]
  omega

theorem strikeFlagWord_eq (f : StrikeFlags) :
    strikeFlagWord f =
      f.late.toNat + 2 * f.deferred.toNat + 4 * f.redeferred.toNat + 8 * f.clamped.toNat + 16 * f.ceiling.toNat +
        32 * f.missed.toNat + 64 * f.abandoned.toNat + 128 * f.channelOff.toNat + 256 * f.masked.toNat +
        512 * f.outOfRange.toNat + 1024 * f.outOfOrder.toNat + 2048 * f.queueFull.toNat + 4096 * f.noArrival.toNat +
        8192 * f.notMeasured.toNat := by
  simp only [strikeFlagWord, flagBits]
  omega

theorem stickyWord_eq (f : Sticky) :
    stickyWord f =
      f.crcError.toNat + 2 * f.framingError.toNat + 4 * f.eventsDiscarded.toNat + 8 * f.queueFull.toNat +
        16 * f.captureOverrun.toNat + 32 * f.reportsLost.toNat + 64 * f.sensorLoss.toNat + 128 * f.railFault.toNat +
        256 * f.passThroughLost.toNat := by
  simp only [stickyWord, flagBits]
  omega

/-! ## The frames -/

theorem respFieldBytes_eq (f : RespFields) :
    respFieldBytes f = match f with
      | .plain => []
      | .flush n => twoBytes n
      | .clock pt => fourBytes pt.toNat
      | .write i n => put8 i ++ put8 n
      | .read i n => put8 i ++ put8 n := by
  cases f with
  | plain | write | read => rfl
  | flush n => exact congrFun put16_eq n
  | clock pt => exact bytes32_eq pt

theorem latencyBytes_eq {v : Int} (h : -2147483648 ≤ v ∧ v < 2147483648) :
    latencyBytes v = fourBytes (v % 4294967296).toNat :=
  (if_pos h).trans (putSigned32_eq v)

theorem probeLatencyBytes_eq {v : Nat} (h : v < 4294967296) : probeLatencyBytes v = fourBytes v :=
  (if_pos h).trans (congrFun put32_eq v)

theorem upFrame_response (r : Response) : upFrame (.response r) = responseFrame r := rfl

theorem upFrame_capture (e : CaptureEvent) : upFrame (.capture e) = captureFrame e := rfl

theorem upFrame_report (r : Report) : upFrame (.report r) = reportFrame r := rfl

theorem upFrame_status (s : Status) : upFrame (.status s) = statusFrame s := rfl

/-- Settles O46: every frame by its kind, and every field by the bytes of its number. -/
theorem upstreamFramesAreLaidOut : Obligations.UpstreamFramesAreLaidOut := by
  unfold Obligations.UpstreamFramesAreLaidOut
  intro b1 b2 b4
  refine ⟨fun r => ?response, fun table index record p => ⟨rfl, rfl⟩, fun t k p => ?records,
    fun k p pt v restrike clamped gap held cause => ?captured, fun x hlo hhi => ?strike, fun x h => ?probe,
    fun x => ?calibration, fun s => ?status⟩
  case response =>
    rw [upFrame_response, responseFrame, respFieldBytes_eq]
    rfl
  case records =>
    intro curve r c
    refine ⟨?_, ?_, ?_, ?_⟩
    · rw [recordBytes_cal, calBytes]
      simp only [curveBytes_eq, put16_eq, putSigned16_eq]
      rfl
    · rw [recordBytes_keyMap]
      rfl
    · rw [recordBytes_pedal, pedalBytes, curveBytes_eq, put16_eq]
      rfl
    · show configBytes c = _
      rw [configBytes, put16_eq, ofInt8_eq]
      rfl
  case captured =>
    refine ⟨?_, ?_, ?_, ?_⟩
    · rw [upFrame_capture, captureFrame, bytes32_eq, put16_eq, flagBits_four]
      rfl
    · rw [upFrame_capture, captureFrame, bytes32_eq, flagBits_two]
      rfl
    · rw [upFrame_capture, captureFrame, bytes32_eq]
      rfl
    · rw [upFrame_capture, captureFrame, bytes32_eq, put16_eq, flagBits_two]
      rfl
  case strike =>
    simp only [upFrame_report, reportFrame, bytes16_eq, bytes32_eq, put16_eq, latencyBytes_eq ⟨hlo, hhi⟩, strikeFlagWord_eq]
    rfl
  case probe =>
    simp only [upFrame_report, reportFrame, put16_eq, probeLatencyBytes_eq h]
    rfl
  case calibration =>
    simp only [upFrame_report, reportFrame, flagBits_four, put16_eq, putSigned16_eq]
    rfl
  case status =>
    simp only [upFrame_status, statusFrame, flagBits_two, bytes32_eq, put16_eq, stickyWord_eq]
    rfl

end Sys2Proof.TableProofs
end

section
/-! PROOFS. The bound of the Action Queue and the ranges of its strikes (R42, R43, R63, R69, R73, R79): the operations that write
the queue, and every command. -/

namespace Sys2Proof.StrikeProofs

open Sys2Proof Sys2Proof.Machine Sys2Proof.TableProofs

/-! ## The two laws from one state to the next -/

/-- The queue stays within its entries and its strikes within their ranges. -/
structure QueueSound (s t : State) : Prop where
  bounded : QueueBounded s → QueueBounded t
  inRange : StrikesInRange s → StrikesInRange t

theorem QueueSound.of_queue {s t : State} (h : t.queue = s.queue) : QueueSound s t := by
  constructor <;> intro hs
  · unfold QueueBounded
    rwa [h]
  · unfold StrikesInRange
    rwa [h]

theorem queueSound_stable : Stable QueueSound :=
  ⟨fun h => .of_queue (base_queue h), fun h h' => ⟨h'.bounded ∘ h.bounded, h'.inRange ∘ h.inRange⟩⟩

theorem QueueSound.behind {s t u : State} (h' : QueueSound t u) (h : QueueSound s t) : QueueSound s u :=
  queueSound_stable.trans h h'

theorem calm_sound {s t : State} (h : Calm s t) : QueueSound s t := .of_queue h.queueEq

/-- An empty queue with every key closed meets both laws (R82). -/
theorem QueueSound.of_emptied {s t : State} (h : t.queue.actions = [] ∧ openKeys t.queue = 0) : QueueSound s t := by
  obtain ⟨ha, hk⟩ := h
  refine ⟨fun _ => ?_, fun _ => ?_⟩
  · simp [QueueBounded, ha, hk]
  · simp [StrikesInRange, ha]

/-! ## Strikes in the queue -/

/-- A Release given to a strike leaves the strike's values (R80). -/
theorem giveRelease_strikeOf (k : Key) (t : PT) (a : Action) : strikeOf (giveRelease k t a) = strikeOf a := by
  unfold giveRelease
  split
  · next st hb =>
    split
    · simp [strikeOf, hb]
    · rfl
  · rfl

/-- What an entry does to the actions already queued leaves their strikes in range. -/
theorem noteRelease_inRange {a : Action} {as : List Action} (h : ∀ b ∈ as, ∀ st ∈ strikeOf b, StrikeInRange st) :
    ∀ b ∈ noteRelease a as, ∀ st ∈ strikeOf b, StrikeInRange st := by
  unfold noteRelease
  split
  · next k _ _ _ =>
    simp only [List.mem_map, forall_exists_index, and_imp]
    rintro _ b hb rfl
    rw [giveRelease_strikeOf]
    exact h b hb
  · exact h

/-- An entry whose own strike is in range leaves all of them in range (R73, R74). -/
theorem insertAction_inRange {pt : PT} {a : Action} {as : List Action} (ha : ∀ st ∈ strikeOf a, StrikeInRange st)
    (h : ∀ b ∈ as, ∀ st ∈ strikeOf b, StrikeInRange st) :
    ∀ b ∈ insertAction pt a as, ∀ st ∈ strikeOf b, StrikeInRange st := by
  intro b hb
  rcases List.mem_cons.mp ((insertAction_perm pt a as).mem_iff.mp hb) with rfl | hb
  · exact ha
  · exact h b hb

theorem enqueue_inRange {time : PT} {body : ActionBody} {s : State}
    (hb : ∀ st ∈ strikeOf ⟨time, s.queue.nextOrder, body⟩, StrikeInRange st) (h : StrikesInRange s) :
    StrikesInRange (enqueue time body s) := by
  unfold StrikesInRange
  rw [enqueue_queue]
  exact insertAction_inRange hb (noteRelease_inRange h)

/-- An entry takes one place of the queue (R69). -/
theorem enqueue_room {time : PT} {body : ActionBody} {s : State} :
    (enqueue time body s).queue.actions.length = s.queue.actions.length + 1 ∧
      openKeys (enqueue time body s).queue = openKeys s.queue := by
  rw [enqueue_queue]
  exact ⟨by simp, rfl⟩

/-! ## Open keys (R63) -/

/-- The open keys, counted over the keys. -/
theorem openKeys_eq (q : ActionQueue) :
    openKeys q = ((List.finRange 88).filter fun k => (q.intake[k]).isOpen).length := by
  have hl : q.intake.toList = (List.finRange 88).map fun k => q.intake[k] := by
    apply List.ext_getElem <;> simp
  rw [openKeys, hl, List.filter_map, List.length_map]
  rfl

/-- Writing one intake record leaves the other keys as they were. -/
theorem openKeys_set (q : ActionQueue) (k : Key) (r : IntakeRecord) :
    openKeys { q with intake := q.intake.set k.val r k.isLt } + (q.intake[k]).isOpen.toNat =
      openKeys q + r.isOpen.toNat := by
  have key : ∀ (l : List IntakeRecord) (i : Nat) (hi : i < l.length),
      ((l.set i r).filter (·.isOpen)).length + (l[i]).isOpen.toNat =
        (l.filter (·.isOpen)).length + r.isOpen.toNat := by
    intro l
    induction l with
    | nil => intro i hi; simp at hi
    | cons b l ih =>
      intro i hi
      cases i with
      | zero => cases hb : b.isOpen <;> cases hr : r.isOpen <;> simp [hb, hr]
      | succ i =>
        have := ih i (by simpa using hi)
        simp only [List.set_cons_succ, List.getElem_cons_succ, List.filter_cons]
        split
        · simp only [List.length_cons]
          omega
        · exact this
  simpa [openKeys, Vector.toList_set] using key q.intake.toList k.val (by simp)

/-! ## Hand-over and deferral -/

/-- A strike returned for deferral leaves the queue, Abandoned, or stands in it again with one deferral more, which is its
16th at most (R78, R79, R80). -/
theorem deferStrike_cases (a : Action) (st : Strike) (own : Option PT) (s : State) :
    deferStrike a st own s = addReport (abandonedReport st) s ∨
      st.deferrals < 16 ∧
        deferStrike a st own s =
          { s with
            queue :=
              { s.queue with
                actions :=
                  insertAction s.clock.pt
                    ⟨a.time + 100#32, a.order, .strike { st with deferrals := st.deferrals + 1 } own⟩
                    s.queue.actions } } := by
  unfold deferStrike
  simp only
  generalize hb : (decide (16 ≤ st.deferrals) || _ : Bool) = b
  cases b with
  | true => exact .inl rfl
  | false =>
    obtain ⟨hlt, _⟩ := Bool.or_eq_false_iff.mp hb
    exact .inr ⟨by simpa using hlt, rfl⟩

/-- A hand-over puts back at most the strike it takes (R76, R78, R79). -/
theorem handOver_sound {a : Action} {rest : List Action} {s : State} (hq : s.queue.actions = a :: rest) :
    QueueSound s (handOver a { s with queue := { s.queue with actions := rest } }) := by
  have removed : QueueSound s { s with queue := { s.queue with actions := rest } } := by
    constructor
    · intro h
      simp only [QueueBounded, hq, List.length_cons, openKeys] at h ⊢
      omega
    · intro h b hb
      exact h b (by rw [hq]; exact List.mem_cons_of_mem a hb)
  generalize he : ({ s with queue := { s.queue with actions := rest } } : State) = e at removed ⊢
  unfold handOver
  split
  · next st own hbody =>
    split
    · split
      · exact (QueueSound.of_queue (takeStrike_queue _ _ e)).behind removed
      · rcases deferStrike_cases a st own e with h | ⟨hlt, h⟩ <;> rw [h]
        · exact (QueueSound.of_queue (addReport_queue _ e)).behind removed
        · subst he
          constructor
          · intro hs
            simp only [QueueBounded, hq, List.length_cons, openKeys, insertAction_length] at hs ⊢
            omega
          · intro hs
            obtain ⟨hs1, hs2, hl, ht, _⟩ := hs a (by simp [hq]) st (by simp [strikeOf, hbody])
            refine insertAction_inRange (fun st' hst' => ?_) (removed.inRange hs)
            simp only [strikeOf, Option.mem_def, Option.some.injEq] at hst'
            subst hst'
            exact ⟨hs1, hs2, hl, ht, by simp only; omega⟩
    · exact (QueueSound.of_queue (addReport_queue _ e)).behind removed
  · exact (QueueSound.of_queue (releaseKey_queue _ e)).behind removed
  · exact (QueueSound.of_queue (pedalAction_queue _ _ e)).behind removed

theorem handOverDue_sound (n : Nat) (s : State) : QueueSound s (handOverDue n s) := by
  induction n generalizing s with
  | zero => exact queueSound_stable.refl s
  | succ n ih =>
    unfold handOverDue
    split
    · exact queueSound_stable.refl s
    · next a rest hq =>
      split
      · exact (ih _).behind (handOver_sound hq)
      · exact queueSound_stable.refl s

/-- What is due is handed over and the rail served, behind an intake that keeps both laws (R75). -/
theorem handedOver_sound {s e : State} (h : QueueSound s e) : QueueSound s (railService (dueNow e)) :=
  (calm_sound (railService_calm _)).behind ((handOverDue_sound _ e).behind h)

/-! ## Intake -/

/-- The values computed at intake lie in their ranges (R42, R43). -/
theorem computeStrike_inRange (r : CalRecord) (k : Key) (channel carried : Nat) (target : PT) (event : BitVec 16) :
    StrikeInRange (computeStrike r k channel carried target event) := by
  have hv : 50 ≤ targetSpeed carried ∧ targetSpeed carried ≤ 6000 := by
    unfold targetSpeed clampNat
    (repeat' split) <;> omega
  have hl : levelOne r carried ≤ 1023 := by
    have := clampInt_bounds (show (0 : Int) ≤ 1023 by omega)
      ((interpolate (selectedCurve r) (targetSpeed carried) : Int) + r.levelOffset)
    unfold levelOne
    omega
  have hd : driveLevel r carried ≤ 1023 := by
    unfold driveLevel
    split <;> omega
  have ht : plannedLead r carried ≤ 65535 := by
    have := clampInt_bounds (show (0 : Int) ≤ 65535 by omega)
      ((interpolate r.leadCurve (targetSpeed carried) : Int) + r.leadTrim)
    unfold plannedLead
    omega
  exact ⟨hv.1, hv.2, hd, ht, by simp [computeStrike]⟩

/-- The first effect of an admitted Note-On takes one place: its implicit Release, or the reserve of the key it opens
(R64, R65). -/
theorem admitKey_room (k : Key) (channel : Nat) (target : PT) (s : State) :
    (admitKey k channel target s).queue.actions.length + openKeys (admitKey k channel target s).queue =
      s.queue.actions.length + openKeys s.queue + 1 := by
  cases ho : (s.queue.intake[k]).isOpen with
  | true =>
    obtain ⟨ha, hk⟩ := enqueue_room (time := placed s.clock.pt target (ptUnits (s.tables.cal[k]).repGap))
      (body := .release k channel true) (s := s)
    have hi : ((implicitRelease k channel target s).queue.intake[k]).isOpen = true := by
      rw [implicitRelease, enqueue_queue]
      exact ho
    have hset := openKeys_set (implicitRelease k channel target s).queue k
      { (implicitRelease k channel target s).queue.intake[k] with isOpen := true }
    simp only [hi, Bool.toNat_true] at hset
    have he : (admitKey k channel target s) = openKey k (implicitRelease k channel target s) := by
      rw [admitKey, if_pos ho]
    rw [he, openKey, setIntake_queue]
    unfold implicitRelease at hset ⊢
    simp only [ha]
    omega
  | false =>
    have hset := openKeys_set s.queue k { s.queue.intake[k] with isOpen := true }
    simp only [ho, Bool.toNat_true, Bool.toNat_false] at hset
    have he : (admitKey k channel target s) = openKey k s := by
      rw [admitKey, if_neg (Bool.eq_false_iff.mp ho)]
    rw [he, openKey, setIntake_queue]
    simp only
    omega

theorem admitKey_inRange (k : Key) (channel : Nat) (target : PT) {s : State} (h : StrikesInRange s) :
    StrikesInRange (admitKey k channel target s) := by
  unfold admitKey openKey
  split
  · exact enqueue_inRange (s := s) (by simp [strikeOf]) h
  · exact h

/-- A strike is queued where the key's entry and its own have room (R69). -/
theorem admitted_sound {st : Strike} {time : PT} {target : PT} {s : State} (hst : StrikeInRange st)
    (hr : hasRoom 2 s.queue = true) :
    QueueSound s (enqueue time (.strike st none) (admitKey st.key st.channel target s)) := by
  constructor
  · intro _
    obtain ⟨ha, hk⟩ := enqueue_room (time := time) (body := .strike st none)
      (s := admitKey st.key st.channel target s)
    have hroom := admitKey_room st.key st.channel target s
    simp only [hasRoom, decide_eq_true_eq] at hr
    simp only [QueueBounded, ha, hk]
    omega
  · intro h
    refine enqueue_inRange (fun st' h' => ?_) (admitKey_inRange _ _ _ h)
    simp only [strikeOf, Option.mem_def, Option.some.injEq] at h'
    exact h' ▸ hst

theorem respond_sound (r : Response) (s : State) : QueueSound s (respond r s) := .of_queue rfl
theorem addReport_sound (r : Report) (s : State) : QueueSound s (addReport r s) := .of_queue (addReport_queue r s)

theorem refuseForRoom_sound (st : Strike) (missed : Bool) (s : State) : QueueSound s (refuseForRoom st missed s) :=
  (addReport_sound _ _).behind (.of_queue rfl)

/-- Admission takes places that are free (R64 to R66, R69, R70). -/
theorem admitStrike_sound {st : Strike} (j : Judgement) (target : PT) (s : State) (hst : StrikeInRange st) :
    QueueSound s (admitStrike st j target s) := by
  unfold admitStrike
  cases j with
  | missed =>
    simp only
    split
    · next hr =>
      refine (addReport_sound _ _).behind ⟨fun _ => ?_, admitKey_inRange _ _ _⟩
      have := admitKey_room st.key st.channel target s
      simp only [hasRoom, decide_eq_true_eq] at hr
      simp only [QueueBounded]
      omega
    · exact refuseForRoom_sound _ _ s
  | late =>
    simp only
    split
    · next hr => exact admitted_sound (st := { st with late := true }) hst hr
    · exact refuseForRoom_sound _ _ s
  | normal =>
    simp only
    split
    · next hr => exact admitted_sound hst hr
    · exact refuseForRoom_sound _ _ s

/-- Replacing a key's last taken target opens and closes no key (R61). -/
theorem takeTarget_sound (k : Key) (target : PT) (s : State) : QueueSound s (takeTarget k target s) := by
  refine ⟨fun h => ?_, id⟩
  have hset := openKeys_set s.queue k { s.queue.intake[k] with last := some target }
  simp only [QueueBounded, takeTarget, setIntake_queue] at h ⊢
  simp only at hset
  omega

theorem intakeNoteOn_sound (f : NoteOnFields) (s : State) : QueueSound s (intakeNoteOn f s) := by
  unfold intakeNoteOn
  split
  · exact addReport_sound _ s
  · split
    · exact addReport_sound _ s
    · unfold intakeStrike
      split
      · exact addReport_sound _ s
      · exact (admitStrike_sound _ _ _ (computeStrike_inRange _ _ _ _ _ _)).behind (takeTarget_sound _ _ s)

/-- A Release queued for an open key takes the entry the key held (R63, R67). -/
theorem closeKey_sound (k : Key) (channel : Nat) (target : PT) (s : State) (ho : (s.queue.intake[k]).isOpen = true) :
    QueueSound s (closeKey k channel target s) := by
  constructor
  · intro h
    have hset := openKeys_set s.queue k { s.queue.intake[k] with isOpen := false }
    obtain ⟨ha, hk⟩ := enqueue_room (time := placed s.clock.pt (raisedTarget s.queue.intake[k] target) 0)
      (body := .release k channel false) (s := setIntake k { s.queue.intake[k] with isOpen := false } s)
    simp only [ho, Bool.toNat_true, Bool.toNat_false] at hset
    simp only [QueueBounded, closeKey, ha, hk] at h ⊢
    rw [setIntake_queue]
    simp only
    omega
  · exact fun h => enqueue_inRange (s := setIntake k _ s) (by simp [strikeOf]) h

theorem intakeNoteOff_sound (note : Nat) (target : PT) (s : State) : QueueSound s (intakeNoteOff note target s) := by
  unfold intakeNoteOff
  split
  · exact queueSound_stable.refl s
  · split
    · exact queueSound_stable.refl s
    · next h =>
      simp only [not_or, Bool.not_eq_false] at h
      obtain ⟨_, _, ho⟩ := h
      exact closeKey_sound _ _ _ s ho

theorem intakePedal_sound (f : PedalTargetFields) (s : State) : QueueSound s (intakePedal f s) := by
  unfold intakePedal
  split
  · exact queueSound_stable.refl s
  · split
    · next hr =>
      refine ⟨fun _ => ?_, fun h => enqueue_inRange (by simp [strikeOf]) h⟩
      simp only [hasRoom, decide_eq_true_eq] at hr
      simp only [QueueBounded, enqueue_room.1, enqueue_room.2]
      omega
    · exact .of_queue rfl

theorem takeEvent_sound {intake : State → State} (h : ∀ s, QueueSound s (intake s)) (s : State) :
    QueueSound s (takeEvent intake s) := by
  unfold takeEvent
  split
  · exact handedOver_sound (h s)
  · exact .of_queue rfl

/-! ## Stops, faults and Restart -/

/-- A Stop from performance leaves a flushed queue (R82). -/
theorem stopTransition_sound (cause : StopCause) {release : State → State} (h : ∀ s, Calm s (release s)) (s : State) :
    QueueSound s (stopTransition cause release s) := by
  obtain ⟨ha, hk, _⟩ := stopTransition_emptied cause h s
  exact .of_emptied ⟨ha, hk⟩

theorem railFault_sound (s : State) : QueueSound s (railFault s) := by
  have fault (s : State) : QueueSound s (clockFault s) := by
    unfold clockFault
    split
    · exact .of_emptied (flushQueue_emptied s.queue)
    · exact queueSound_stable.refl s
  exact (calm_sound ((abortRun_calm _).after (pedalsFault_calm _))).behind
    ((fault _).behind (calm_sound ((restartIdle_calm _).after (faultRail_calm s))))

theorem takeAck_sound (tag : Byte) (p : List Byte) (s : State) : QueueSound s (takeAck tag p s) := by
  unfold takeAck
  split
  · split
    · exact queueSound_stable.refl s
    · exact railFault_sound s
  · next e rest _ =>
    split
    · exact queueSound_stable.of_base ((ackEffect_base _ _).trans rfl)
    · exact railFault_sound s

theorem leavePerformance_sound (part : PartState) (cause : StopCause) (s : State) :
    QueueSound s (leavePerformance part cause s) := .of_queue rfl

theorem doStop_sound (tag : Byte) (s : State) : QueueSound s (doStop tag s) := by
  have served {t : State} (h : QueueSound s t) : QueueSound s (answerStop tag .done (railService t)) :=
    (respond_sound _ _).behind ((calm_sound (railService_calm t)).behind h)
  have performing : QueueSound s (stopTransition .request (releaseEverything false) s) :=
    stopTransition_sound _ (releaseEverything_calm false) s
  unfold doStop
  cases s.clock.part with
  | unconfigured => exact .of_queue rfl
  | stopped =>
    exact served ((leavePerformance_sound _ _ _).behind (calm_sound ((recoverIfFaulted_calm _).after (abortRun_calm s))))
  | running | held => exact served performing
  | faulted =>
    exact served ((calm_sound ((pedalsToRest_calm _).after ((releaseEverything_calm false _).after
      (driveFaultStop_calm _)))).behind (leavePerformance_sound _ _ s))

theorem doRestart_sound (tag : Byte) (s : State) : QueueSound s (doRestart tag s) := by
  have hc : Calm (restartBlocks s)
      (railService (pedalsToRest (releaseEverything true (driveRestart (restartBlocks s))))) :=
    (railService_calm _).after
      ((pedalsToRest_calm _).after ((releaseEverything_calm true _).after (driveRestart_calm _)))
  have hreset : QueueSound s (restartBlocks s) := .of_emptied (restartQueue_emptied s.queue)
  exact (respond_sound _ _).behind ((calm_sound hc).behind hreset)

theorem doResume_sound (tag : Byte) (s : State) : QueueSound s (doResume tag s) := by
  unfold doResume
  cases s.clock.part with
  | held => exact handedOver_sound (.of_queue rfl)
  | unconfigured | stopped | running | faulted => exact .of_queue rfl

/-! ## The commands that leave the queue -/

theorem writeRecord_queue {table i : Nat} {bs : List Byte} {s t : State} (h : writeRecord table i bs s = .applied t) :
    t.queue = s.queue := by
  unfold writeRecord at h
  split at h
  · unfold writeCal at h
    (repeat' split at h) <;> cases h
    rfl
  · unfold writeEntry at h
    (repeat' split at h) <;> cases h
    unfold applyEntry
    simp only
    split <;> rfl
  · unfold writePedal at h
    (repeat' split at h) <;> cases h
    exact endGapIfOver_queue _ _

theorem writeRecords_queue (table size n i : Nat) (bs : List Byte) (s : State) :
    (writeRecords table size n i bs s).2.2.2.queue = s.queue := by
  induction n generalizing i bs s with
  | zero => rfl
  | succ n ih =>
    unfold writeRecords
    split
    · rfl
    · next t ht => exact (ih _ _ t).trans (writeRecord_queue ht)

theorem writeTable_queue (tag : Byte) (p : List Byte) (s : State) : (writeTable tag p s).queue = s.queue := by
  unfold writeTable answerWrite
  split
  · rfl
  · simp only
    split
    · rfl
    · split
      · split
        · rfl
        · exact writeRecords_queue _ _ _ _ _ s
      · rfl

theorem offerFirst_queue (k : Key) (event : Bool → Bool → CaptureEvent) (s : State) :
    (offerFirst k event s).queue = s.queue := by
  unfold offerFirst; (repeat' split) <;> rfl
theorem offerRestrike_queue (k : Key) (event : Bool → Bool → CaptureEvent) (s : State) :
    (offerRestrike k event s).queue = s.queue := by
  unfold offerRestrike; (repeat' split) <;> rfl
theorem offerNoteOff_queue (k : Key) (time : PT) (s : State) : (offerNoteOff k time s).queue = s.queue := by
  unfold offerNoteOff; split <;> rfl

theorem completeFlight_queue (k : Key) (stamp : Stamp) (time : PT) (s : State) :
    (completeFlight k stamp time s).queue = s.queue := by
  unfold completeFlight
  simp only
  split
  · exact offerRestrike_queue k _ _
  · exact offerFirst_queue k _ _

/-- A crossing taken by a capture context is nothing to the queue (R127, R128, R130). -/
theorem captureCrossing_queue (k : Key) (x : Crossing) (time : PT) (s : State) :
    (captureCrossing k x time s).queue = s.queue := by
  have keyUp : (offerNoteOff k time (setCapture k (atRest s.capture[k]) s)).queue = s.queue := offerNoteOff_queue k time _
  unfold captureCrossing
  simp only
  cases (s.capture[k]).state with
  | rest => cases x <;> rfl
  | descending =>
    cases x with
    | k2Down => exact offerFirst_queue k _ _
    | k1Down | k1Up | k2Up | g1 | g2 => rfl
  | gated =>
    cases x with
    | g2 stamp => exact completeFlight_queue k stamp time s
    | k1Up => exact keyUp
    | k1Down | k2Down | k2Up | g1 => rfl
  | down | quiet | rearmed =>
    cases x with
    | k1Up => exact keyUp
    | k1Down | k2Down | k2Up | g1 | g2 => rfl

theorem measureG2_queue (k : Key) (stamp : Stamp) (time : PT) (s : State) :
    (measureG2 k stamp time s).queue = s.queue := by
  unfold measureG2
  simp only
  split
  · exact closeMeasurement_queue k _ s
  · rfl

theorem routeCrossing_queue (k : Key) (x : Crossing) (s : State) : (routeCrossing k x s).queue = s.queue := by
  have driven (time : PT) : (driveCrossing k x time s).queue = s.queue := by
    cases x with
    | g1 stamp => exact (driveG1_calm k stamp time s).queueEq
    | g2 stamp =>
      rcases driveG2_cases k stamp time s with h | h <;> rw [h]
      exact measureG2_queue k stamp time s
    | k1Down => exact (driveKeyCrossing_calm k .k1 .down time s).queueEq
    | k1Up => exact (driveKeyCrossing_calm k .k1 .up time s).queueEq
    | k2Down => exact (driveKeyCrossing_calm k .k2 .down time s).queueEq
    | k2Up => exact (driveKeyCrossing_calm k .k2 .up time s).queueEq
  unfold routeCrossing
  simp only
  split
  · exact driven _
  · split
    · exact captureCrossing_queue k x _ s
    · rfl

theorem crossingFrame_sound (note : Byte) (x : Crossing) (s : State) : QueueSound s (crossingFrame note x s) := by
  unfold crossingFrame
  split
  · exact queueSound_stable.sensorFrame (fun s => queueSound_stable.refl s) s
  · next k _ =>
    exact (calm_sound (railService_calm _)).behind
      (queueSound_stable.sensorFrame (fun s => .of_queue (routeCrossing_queue k x s)) s)

theorem captureTimeout_queue (k : Key) (s : State) : (captureTimeout k s).queue = s.queue := by
  unfold captureTimeout
  simp only
  split
  · rfl
  · exact offerFirst_queue k _ _

theorem settleEnds_queue (c : CalContext) (s : State) : (settleEnds c s).queue = s.queue := by
  have result : (keyResult c s).queue = s.queue := by
    unfold keyResult sweepResult quickResult
    (repeat' split) <;> simp
  unfold settleEnds
  split
  · exact (beginProbe_calm _ s).queueEq
  · exact (nextKey_calm c _).queueEq.trans result

theorem loseSensor_sound (s : State) : QueueSound s (loseSensor s) :=
  (calm_sound (loseSensor_base_calm s)).behind (.of_queue rfl)

theorem sensorBad_sound (s : State) : QueueSound s (sensorBad s) := by
  unfold sensorBad
  split
  · split
    · exact .of_queue rfl
    · exact loseSensor_sound s
  · exact .of_queue rfl

theorem calibrate_sound (kind tag : Byte) (f : CalFields) (s : State) : QueueSound s (calibrate kind tag f s) := by
  unfold calibrate
  split
  · exact .of_queue rfl
  · exact (calm_sound (startRun_calm f _)).behind (.of_queue rfl)

theorem doConfigure_queue (tag : Byte) (p : List Byte) (s : State) : (doConfigure tag p s).queue = s.queue := by
  unfold doConfigure; split <;> rfl
theorem doStart_queue (tag : Byte) (s : State) : (doStart tag s).queue = s.queue := by
  unfold doStart; (repeat' split) <;> rfl
theorem doHold_queue (tag : Byte) (s : State) : (doHold tag s).queue = s.queue := by
  unfold doHold; split <;> rfl
theorem doClockSet_queue (tag : Byte) (p : List Byte) (s : State) : (doClockSet tag p s).queue = s.queue := by
  unfold doClockSet; split <;> rfl

/-! ## Every command -/

theorem exec_sound (c : Instr) (s : State) : LeadsTo QueueSound s (exec c s) := by
  have st := queueSound_stable
  have served {s t : State} (h : QueueSound s t) : QueueSound s (railService t) :=
    (calm_sound (railService_calm t)).behind h
  cases c with
  | powerOnReset r q => exact leadsTo_next (.of_emptied ⟨(powerOn_emptied r q).1, (powerOn_emptied r q).2⟩)
  | ptTick =>
    refine leadsTo_next ?_
    split
    · exact handedOver_sound (.of_queue rfl)
    · exact st.refl s
  | noteOn _ p =>
    refine leadsTo_next (st.deliver _ (fun s => ?_) s)
    cases noteOnFields? p with
    | none => exact .of_queue rfl
    | some f => exact takeEvent_sound (intakeNoteOn_sound f) s
  | noteOff _ p =>
    refine leadsTo_next (st.deliver _ (fun s => ?_) s)
    cases noteOffFields? p with
    | none => exact .of_queue rfl
    | some f => exact takeEvent_sound (intakeNoteOff_sound f.1 f.2) s
  | pedalTarget _ p =>
    refine leadsTo_next (st.deliver _ (fun s => ?_) s)
    cases pedalTargetFields? p with
    | none => exact .of_queue rfl
    | some f => exact takeEvent_sound (intakePedal_sound f) s
  | configure tag p => exact leadsTo_next (st.request _ _ p _ (fun s => .of_queue (doConfigure_queue tag p s)) s)
  | start tag p => exact leadsTo_next (st.request _ _ p _ (fun s => .of_queue (doStart_queue tag s)) s)
  | hold tag p => exact leadsTo_next (st.request _ _ p _ (fun s => .of_queue (doHold_queue tag s)) s)
  | resume tag p => exact leadsTo_next (st.request _ _ p _ (doResume_sound tag) s)
  | stop tag p => exact leadsTo_next (st.request _ _ p _ (doStop_sound tag) s)
  | restart tag p => exact leadsTo_next (st.request _ _ p _ (doRestart_sound tag) s)
  | clearErrors _ p =>
    refine leadsTo_next (st.request _ _ p _ (fun s => ?_) s)
    exact .of_queue rfl
  | clockSet tag p => exact leadsTo_next (st.request _ _ p _ (fun s => .of_queue (doClockSet_queue tag p s)) s)
  | clockLatch _ p => exact leadsTo_next (st.request _ _ p (fun _ => _) (fun s => respond_sound _ s) s)
  | tableWrite tag p => exact leadsTo_next (st.deliver _ (st.unlessFull fun s => .of_queue (writeTable_queue tag p s)) s)
  | tableRead tag p => exact leadsTo_next (st.deliver _ (st.unlessFull fun s => st.of_base (readTable_base tag p s)) s)
  | calibrateQuick _ p => exact leadsTo_next (st.request _ _ p _ (fun s => served (calibrate_sound _ _ _ s)) s)
  | calibrateSweep _ p => exact leadsTo_next (st.request _ _ p _ (fun s => served (calibrate_sound _ _ _ s)) s)
  | railPassThrough _ p => exact leadsTo_next (st.deliver _ (fun s => served (calm_sound (takePass_calm p s))) s)
  | unknown _ _ _ => exact leadsTo_next (st.deliver _ (st.unlessFull fun s => respond_sound _ s) s)
  | hunt bytes => exact leadsTo_next (st.of_base (feed_base bytes s))
  | verify bytes => exact leadsTo_next (st.of_base (feed_base bytes s))
  | crcError bytes =>
    refine leadsTo_next ?_
    split
    · exact st.of_base (badCheckFrame_base bytes s)
    · exact st.of_base (feed_base bytes s)
  | framingError bytes =>
    refine leadsTo_next ?_
    split
    · exact st.of_base (returnToHunt_base bytes _)
    · exact st.of_base (feed_base bytes s)
  | linkLossStop =>
    refine leadsTo_next ?_
    split
    · exact served (stopTransition_sound _ (requestReleaseAll_calm false false) s)
    · exact st.refl s
  | frameBoundary =>
    refine leadsTo_next ?_
    split
    · exact st.of_base (choose_base _ s)
    · split
      · exact st.of_base ((choose_base _ _).trans (endUpFrame_base _ s))
      · exact st.refl s
  | statusSpacing =>
    refine leadsTo_next ?_
    split
    · split
      · exact st.of_base (choose_base _ s)
      · exact st.refl s
    · exact st.refl s
  | idle _ => exact leadsTo_next (st.sninFrame _ (st.sensorFrame fun s => st.refl s) s)
  | keyTrip note p d _ _ => exact leadsTo_next (st.sninFrame _ (crossingFrame_sound note _) s)
  | hammerTrip note g stamp _ => exact leadsTo_next (st.sninFrame _ (crossingFrame_sound note _) s)
  | pedalSample raw1 raw2 raw3 _ =>
    exact leadsTo_next (st.sninFrame _ (st.sensorFrame fun s => st.of_base (samplePedals_base raw1 raw2 raw3 s)) s)
  | sensorBadFrame bytes =>
    refine leadsTo_next ?_
    split
    · exact served (st.after (sensorBad_sound _) rfl)
    · exact .of_queue rfl
  | lossWindowExpiry =>
    refine leadsTo_next ?_
    split
    · exact served (loseSensor_sound s)
    · exact st.refl s
  | pushTimerExpiry k =>
    refine leadsTo_next ?_
    split
    · exact served (calm_sound (.ite (setDrive_calm k _ s) (endPush_calm k s)))
    · exact st.refl s
  | gateTimerExpiry k =>
    exact leadsTo_next (calm_sound (.ite ((closeOpen_calm k _).after (setDrive_calm k _ s)) (.refl s)))
  | restTimerExpiry k =>
    exact leadsTo_next (calm_sound (.ite ((railService_calm _).after (comeToRest_calm k s)) (.refl s)))
  | sensorlessReleaseTimer k =>
    exact leadsTo_next (calm_sound (.ite ((railService_calm _).after (comeToRest_calm k s)) (.refl s)))
  | captureGateTimeout k =>
    refine leadsTo_next ?_
    split
    · exact .of_queue (captureTimeout_queue k s)
    · exact st.refl s
  | restWaitExpiry =>
    refine leadsTo_next ?_
    split <;> exact .of_queue rfl
  | settleExpiry =>
    refine leadsTo_next ?_
    split
    · exact st.refl s
    · exact served (.of_queue (settleEnds_queue _ s))
  | rateGapEnd p => exact leadsTo_next (calm_sound (endGapIfOver_calm p s))
  | ack tag p => exact leadsTo_next (st.rlinFrame _ (fun s => served (takeAck_sound tag p s)) s)
  | railReply p _ =>
    refine leadsTo_next (st.rlinFrame _ (fun s => ?_) s)
    unfold takeReply
    split <;> exact .of_queue rfl
  | railUnexpectedFrame _ _ _ =>
    refine leadsTo_next (st.rlinFrame _ (fun s => ?_) s)
    split
    · exact st.refl s
    · exact railFault_sound s
  | railBadFrame _ => exact leadsTo_next (.of_queue rfl)
  | acknowledgementWindow =>
    refine leadsTo_next ?_
    split
    · exact railFault_sound s
    · exact st.refl s
  | railTransmitEnd =>
    refine leadsTo_next ?_
    split
    · exact served (st.refl s)
    · split
      · exact calm_sound ((railServiceAt_calm _ _).after (endRailFrame_calm _ s))
      · exact st.refl s
  | parkTimer =>
    refine leadsTo_next ?_
    split
    · exact served (calm_sound (parkExpires_calm s))
    · exact st.refl s
  | discardedSensorFrame _ _ _ => exact leadsTo_next (st.sninFrame _ (st.sensorFrame fun s => st.refl s) s)

/-- Settles O8: every command keeps the bound and the ranges, and what else a step does leaves the queue. -/
theorem queueStaysBounded : Obligations.QueueStaysBounded :=
  ⟨fun _ _ => step_keeps (P := fun s => QueueBounded s) (fun _ _ hb => (queueSound_stable.of_base hb).bounded)
      fun c s t hs h => (exec_sound c s t h).bounded hs,
    fun _ _ => step_keeps (P := fun s => StrikesInRange s) (fun _ _ hb => (queueSound_stable.of_base hb).inRange)
      fun c s t hs h => (exec_sound c s t h).inRange hs,
    openKeys_eq⟩

end Sys2Proof.StrikeProofs
end

section
/-! PROOFS. The arithmetic of strikes, measurements and calibration (R40 to R43, R48, R54, R55). -/

namespace Sys2Proof.StrikeProofs

open Sys2Proof Sys2Proof.Machine Sys2Proof.TableProofs

/-! ## Rounding and clamping (R40) -/

/-- Rounding to the nearest integer, an exact half toward +∞ (R40). -/
theorem roundDiv_eq_floor (n : Int) {d : Nat} (hd : 0 < d) : roundDiv n d = ⌊(n : ℚ) / d + 1 / 2⌋ := by
  have hd' : (d : ℚ) ≠ 0 := by exact_mod_cast hd.ne'
  have key : (n : ℚ) / d + 1 / 2 = ((2 * n + d : Int) : ℚ) / ((2 * d : Nat) : ℚ) := by
    push_cast
    field_simp
  rw [key, Rat.floor_intCast_div_natCast]
  rfl

/-- What lies between two integers is rounded to a value between them. -/
theorem roundDiv_bounds {n lo hi : Int} {d : Nat} (hd : 0 < d) (hlo : lo * d ≤ n) (hhi : n ≤ hi * d) :
    lo ≤ roundDiv n d ∧ roundDiv n d ≤ hi := by
  unfold roundDiv
  constructor
  · rw [Int.le_ediv_iff_mul_le (by omega)]
    linarith
  · refine Int.lt_add_one_iff.mp ((Int.ediv_lt_iff_lt_mul (by omega)).mpr ?_)
    have : (0 : Int) < d := by exact_mod_cast hd
    linarith

/-- A count of µs in PT units is its tenth, rounded (R40, R43, R45). -/
theorem ptUnits_eq_floor (us : Nat) : (ptUnits us : Int) = ⌊(us : ℚ) / 10 + 1 / 2⌋ := by
  have h := roundDiv_eq_floor (us : Int) (d := 10) (by omega)
  obtain ⟨hnonneg, _⟩ := roundDiv_bounds (n := (us : Int)) (lo := 0) (hi := us) (d := 10) (by omega) (by simp) (by omega)
  rw [ptUnits, Int.toNat_of_nonneg hnonneg, h]
  norm_num

theorem clampInt_eq (lo hi v : Int) (h : lo ≤ hi) : clampInt lo hi v = max lo (min v hi) := by
  unfold clampInt
  (repeat' split) <;> omega

theorem clampNat_eq (lo hi v : Nat) (h : lo ≤ hi) : clampNat lo hi v = max lo (min v hi) := by
  unfold clampNat
  (repeat' split) <;> omega

/-! ## Curves (R41) -/

/-- The exact value on a segment lies between its two ends, scaled by the segment's width. -/
theorem segment_value_bounds {a b : Int} {w d lo hi : Int} (hw : 0 ≤ w) (hd : w ≤ d) (hla : lo ≤ a) (hlb : lo ≤ b)
    (hah : a ≤ hi) (hbh : b ≤ hi) : lo * d ≤ a * d + (b - a) * w ∧ a * d + (b - a) * w ≤ hi * d := by
  have mix : a * d + (b - a) * w = a * (d - w) + b * w := by ring
  rw [mix]
  constructor <;> nlinarith

/-- The value on a segment lies between its two ends (R41). -/
theorem lerp_bounds {p q : CurvePoint} {v : Nat} (h1 : p.x ≤ v) (h2 : v < q.x) :
    min p.y q.y ≤ lerp p q v ∧ lerp p q v ≤ max p.y q.y := by
  have hcast : ((q.x - p.x : Nat) : Int) = (q.x : Int) - p.x := by omega
  obtain ⟨hlo, hhi⟩ := segment_value_bounds (a := p.y) (b := q.y) (w := (v : Int) - p.x) (d := (q.x : Int) - p.x)
    (lo := (min p.y q.y : Nat)) (hi := (max p.y q.y : Nat)) (by omega) (by omega) (by omega) (by omega) (by omega)
    (by omega)
  rw [← hcast] at hlo hhi
  obtain ⟨hl, hh⟩ := roundDiv_bounds (by omega) hlo hhi
  rw [hcast] at hl hh
  unfold lerp
  omega

/-- The value on a segment is the exact one, rounded (R40, R41). -/
theorem lerp_eq_floor {p q : CurvePoint} {v : Nat} (h1 : p.x ≤ v) (h2 : v < q.x) :
    (lerp p q v : Int) =
      ⌊(p.y : ℚ) + ((q.y : ℚ) - p.y) * ((v : ℚ) - p.x) / ((q.x : ℚ) - p.x) + 1 / 2⌋ := by
  have hcast : ((q.x - p.x : Nat) : Int) = (q.x : Int) - p.x := by omega
  have hwidth : (q.x : ℚ) - p.x ≠ 0 := by
    have : (p.x : ℚ) < q.x := by exact_mod_cast h1.trans_lt h2
    linarith
  obtain ⟨hlo, hhi⟩ := segment_value_bounds (a := p.y) (b := q.y) (w := (v : Int) - p.x) (d := (q.x : Int) - p.x)
    (lo := 0) (hi := (max p.y q.y : Nat)) (by omega) (by omega) (by omega) (by omega) (by omega) (by omega)
  rw [← hcast] at hlo hhi
  obtain ⟨hnonneg, _⟩ := roundDiv_bounds (by omega) hlo hhi
  rw [hcast] at hnonneg
  rw [lerp, Int.toNat_of_nonneg hnonneg, roundDiv_eq_floor _ (by omega)]
  congr 2
  push_cast [Nat.cast_sub (h1.trans h2.le)]
  field_simp

/-- At the first point of a segment the value is its y. -/
theorem lerp_start {p q : CurvePoint} (h : p.x < q.x) : lerp p q p.x = p.y := by
  have hlow := lerp_eq_floor le_rfl h
  simp only [sub_self, mul_zero, zero_div, add_zero] at hlow
  have : ⌊(p.y : ℚ) + 1 / 2⌋ = p.y := by
    rw [Int.floor_eq_iff]
    constructor <;> push_cast <;> linarith
  omega

/-- Going up points of increasing x, the value is taken on the segment that holds the input. -/
theorem segment_eq_lerp {l : List CurvePoint} {i : Nat} {p q : CurvePoint} {v : Nat}
    (hx : (l.map (·.x)).Pairwise (· < ·)) (hp : l[i]? = some p) (hq : l[i + 1]? = some q) (h1 : p.x ≤ v) (h2 : v < q.x) :
    Machine.segment l v = lerp p q v := by
  induction l generalizing i with
  | nil => cases hp
  | cons a l ih =>
    cases l with
    | nil => simp at hq
    | cons b l =>
      cases i with
      | zero =>
        simp only [List.getElem?_cons_zero, List.getElem?_cons_succ, zero_add, Option.some.injEq] at hp hq
        rw [Machine.segment, hp, hq, if_pos h2]
      | succ i =>
        simp only [List.getElem?_cons_succ] at hp hq
        have htail : ((b :: l).map (·.x)).Pairwise (· < ·) := (List.pairwise_cons.mp hx).2
        have hb : b.x ≤ p.x := by
          rcases List.mem_cons.mp (List.mem_of_getElem? hp) with rfl | hmem
          · exact le_rfl
          · exact ((List.pairwise_cons.mp htail).1 _ (List.mem_map_of_mem hmem)).le
        rw [Machine.segment, if_neg (by omega)]
        exact ih htail hp hq

/-- The value at an input not below the first point lies between the y of two of the points. -/
theorem segment_bounds (a : CurvePoint) (l : List CurvePoint) {v : Nat} (h : a.x ≤ v) :
    (∃ p ∈ a :: l, p.y ≤ Machine.segment (a :: l) v) ∧ ∃ p ∈ a :: l, Machine.segment (a :: l) v ≤ p.y := by
  induction l generalizing a with
  | nil => exact ⟨⟨a, by simp, le_rfl⟩, a, by simp, le_rfl⟩
  | cons b l ih =>
    rw [Machine.segment]
    split
    · next hlt =>
      obtain ⟨hlo, hhi⟩ := lerp_bounds h hlt
      constructor
      · rcases min_choice a.y b.y with hm | hm
        · exact ⟨a, by simp, by omega⟩
        · exact ⟨b, by simp, by omega⟩
      · rcases max_choice a.y b.y with hm | hm
        · exact ⟨a, by simp, by omega⟩
        · exact ⟨b, by simp, by omega⟩
    · obtain ⟨⟨p, hp, hlo⟩, r, hr, hhi⟩ := ih b (by omega)
      exact ⟨⟨p, List.mem_cons_of_mem a hp, hlo⟩, r, List.mem_cons_of_mem a hr, hhi⟩

/-- Between its first and its last point a curve is interpolated on its segments (R41). -/
theorem interpolate_inside {c : Curve} {v : Nat} (hx : c.p1.x < c.p2.x) (h1 : c.p1.x ≤ v) (h8 : v < c.p8.x) :
    interpolate c v = Machine.segment (curvePoints c) v := by
  unfold interpolate
  split
  · have hv : v = c.p1.x := by omega
    rw [curvePoints, Machine.segment, if_pos (hv ▸ hx), hv, lerp_start hx]
  · rw [if_neg (by omega)]

/-- Settles O16: the segments of `curvePoints` hold every input between the ends. -/
theorem curvesInterpolate : Obligations.CurvesInterpolate := by
  intro c v hx
  have h12 : c.p1.x < c.p2.x := by
    simp only [curvePoints, List.map_cons, List.pairwise_cons] at hx
    exact hx.1 _ (by simp)
  have h18 : c.p1.x < c.p8.x := by
    simp only [curvePoints, List.map_cons, List.pairwise_cons] at hx
    exact hx.1 _ (by simp)
  have low (h : v ≤ c.p1.x) : interpolate c v = c.p1.y := if_pos h
  have high (h : c.p8.x ≤ v) : interpolate c v = c.p8.y := by rw [interpolate, if_neg (by omega), if_pos h]
  refine ⟨low, high, fun i p q hp hq h1 h2 => ?_, ?_⟩
  · have hp1 : c.p1.x ≤ p.x := by
      rcases List.mem_cons.mp (List.mem_of_getElem? hp) with rfl | hmem
      · exact le_rfl
      · exact ((List.pairwise_cons.mp hx).1 _ (List.mem_map_of_mem hmem)).le
    have hq8 : q.x ≤ c.p8.x := by
      have hmem := List.mem_of_getElem? hq
      simp only [curvePoints, List.map_cons, List.map_nil, List.pairwise_cons, List.mem_cons, List.not_mem_nil,
        or_false, forall_eq_or_imp, forall_eq] at hx hmem
      rcases hmem with rfl | rfl | rfl | rfl | rfl | rfl | rfl | rfl <;> omega
    rw [interpolate_inside h12 (by omega) (by omega), segment_eq_lerp hx hp hq h1 h2]
    exact lerp_eq_floor h1 h2
  · rcases le_or_gt v c.p1.x with h | h
    · exact ⟨⟨c.p1, by simp [curvePoints], (low h).ge⟩, c.p1, by simp [curvePoints], (low h).le⟩
    · rcases le_or_gt c.p8.x v with h' | h'
      · exact ⟨⟨c.p8, by simp [curvePoints], (high h').ge⟩, c.p8, by simp [curvePoints], (high h').le⟩
      · rw [interpolate_inside h12 h.le h']
        exact segment_bounds c.p1 _ h.le

/-! ## The strike at intake (R42, R43) -/

theorem targetSpeed_eq (carried : Nat) : targetSpeed carried = max 50 (min carried 6000) :=
  clampNat_eq 50 6000 carried (by omega)

theorem levelOne_eq (r : CalRecord) (carried : Nat) :
    (levelOne r carried : Int) =
      max 0 (min ((interpolate (selectedCurve r) (targetSpeed carried) : Int) + r.levelOffset) 1023) := by
  rw [levelOne, clampInt_eq 0 1023 _ (by omega)]
  omega

theorem plannedLead_eq (r : CalRecord) (carried : Nat) :
    (plannedLead r carried : Int) =
      max 0 (min ((interpolate r.leadCurve (targetSpeed carried) : Int) + r.leadTrim) 65535) := by
  rw [plannedLead, clampInt_eq 0 65535 _ (by omega)]
  omega

/-- Settles O17: each field of the strike is one step of R42 or R43. -/
theorem strikesAreComputed : Obligations.StrikesAreComputed := by
  intro r k channel carried target event v curve l1 t1 u st
  have hv : targetSpeed carried = v := targetSpeed_eq carried
  have hcurve : selectedCurve r = curve := rfl
  have hl1 : (levelOne r carried : Int) = l1 := by rw [levelOne_eq, hv, hcurve]
  have ht1 : (plannedLead r carried : Int) = t1 := by rw [plannedLead_eq, hv]
  have hu : (ptUnits (plannedLead r carried) : Int) = u := by
    rw [ptUnits_eq_floor]
    simp only [u]
    rw [← ht1, Int.cast_natCast]
  refine ⟨rfl, rfl, rfl, rfl, rfl, hv, ?_, ?_, ?_, ht1, hu, ?_, ?_⟩
  · change (driveLevel r carried : Int) = min l1 r.ceiling
    rw [driveLevel]
    split <;> omega
  · change strikeClamped r carried = _
    rw [strikeClamped, hv, hcurve, offCurve, ← Bool.decide_or, decide_eq_decide, ne_comm]
  · change strikeCeiling r carried = _
    rw [strikeCeiling, ← hl1, decide_eq_decide, Nat.cast_lt]
  · have hlead : plannedLead r carried ≤ 65535 := by omega
    change ptUnits (plannedLead r carried) ≤ 6554
    unfold ptUnits roundDiv
    omega
  · change before target (ptUnits (plannedLead r carried)) = _
    rw [before, ← hu, BitVec.ofInt_natCast]

/-! ## Measurement (R48) -/

theorem gateInterval_eq (g1 g2 : Stamp) :
    gateInterval g1 g2 =
      if (g2.toNat + 65536 - g1.toNat) % 65536 = 0 then 1 else (g2.toNat + 65536 - g1.toNat) % 65536 := by
  have h : (g2 - g1).toNat = (g2.toNat + 65536 - g1.toNat) % 65536 := by
    rw [BitVec.toNat_sub]
    omega
  rw [gateInterval, h]

/-- Settles O19: the rounded quotient is not negative, so the clamp of natural numbers is that of integers. -/
theorem hammerSpeedIsMeasured : Obligations.HammerSpeedIsMeasured := by
  intro spacing g1 g2 diff delta raw
  have hdelta : gateInterval g1 g2 = delta := gateInterval_eq g1 g2
  have hpos : 0 < delta := by
    simp only [delta]
    split <;> omega
  have hraw : (rawSpeed spacing g1 g2 : Int) = raw := by
    have hfloor := roundDiv_eq_floor ((spacing * 1000 : Nat) : Int) hpos
    obtain ⟨hnonneg, _⟩ := roundDiv_bounds (n := ((spacing * 1000 : Nat) : Int)) (lo := 0)
      (hi := ((spacing * 1000 : Nat) : Int)) hpos (by simp) (le_mul_of_one_le_right (by omega) (by omega))
    rw [rawSpeed, hdelta, Int.toNat_of_nonneg hnonneg, hfloor]
    push_cast
    rfl
  have hclamp : hammerSpeed spacing g1 g2 = max 50 (min (rawSpeed spacing g1 g2) 6000) := clampNat_eq _ _ _ (by omega)
  constructor
  · rw [hclamp, ← hraw]
    omega
  · rw [speedClamped, hclamp, ← hraw, decide_eq_decide]
    omega

/-! ## Calibration arithmetic (R54, R55) -/

/-- The onset index is the lowest that arrived (R54, step 1). -/
theorem onsetIndex_iff (probes : List ProbeRecord) (o : Nat) :
    onsetIndex probes = some o ↔
      (∃ p, probes[o]? = some p ∧ p.arrived = true) ∧ ∀ j < o, ∀ p, probes[j]? = some p → p.arrived = false := by
  rw [onsetIndex, List.findIdx?_eq_some_iff_getElem]
  constructor
  · rintro ⟨ho, harr, hbelow⟩
    refine ⟨⟨probes[o], List.getElem?_eq_getElem ho, harr⟩, fun j hj p hp => ?_⟩
    obtain ⟨hlt, rfl⟩ := List.getElem?_eq_some_iff.mp hp
    simpa using hbelow j hj
  · rintro ⟨⟨p, hp, harr⟩, hbelow⟩
    obtain ⟨ho, rfl⟩ := List.getElem?_eq_some_iff.mp hp
    refine ⟨ho, harr, fun j hj => ?_⟩
    simp [hbelow j hj _ (List.getElem?_eq_getElem (hj.trans ho))]

/-- Settles O21, rule by rule. -/
theorem calibrationArithmetic : Obligations.CalibrationArithmetic := by
  refine ⟨onsetIndex_iff, fun o upper adjust => ?_, fun r probes a p hp => ?_, fun p firm => rfl⟩
  · rw [adjustedIndex, clampInt_eq 0 15 _ (by omega)]
    omega
  · have hlevel : (probes.map fun x => (x.level : Int)).getD a 0 = p.level := by
      simp [List.getD_eq_getElem?_getD, hp]
    have hoffset : onsetOffset r probes a = max (-255) (min ((p.level : Int) - (selectedCurve r).p1.y) 255) := by
      rw [onsetOffset, hlevel, clampInt_eq _ _ _ (by omega)]
    refine hoffset.trans ?_
    unfold selectedCurve
    cases r.selected <;> rfl

end Sys2Proof.StrikeProofs
end

section
/-! PROOFS. An arrived strike's report (R49, R50, R97, R98), the events that release a key or move a pedal (R56, R58, R67, R68,
R71), and the crossings and samples of the Sensor Link (R47, R114, R116, R117, R120, R124). -/

namespace Sys2Proof.StrikeProofs

open Sys2Proof Sys2Proof.Machine Sys2Proof.TableProofs

/-! ## Closing a strike's measurement (R49, R50, R97, R98) -/

theorem closeMeasurement_strike {k : Key} {st : Strike} {s : State} (o : MeasOutcome)
    (hj : (s.drive[k]).job = some (.strike st)) :
    closeMeasurement k o s =
      strikeClosed s.drive[k] st o (setDrive k { s.drive[k] with measuring := false, gateTimer := none } s) := by
  unfold closeMeasurement
  simp only [hj]

theorem measuredLatency_eq (arrival issue : PT) :
    measuredLatency arrival issue =
      if earlier arrival issue then -(10 * ((issue - arrival).toNat : Int))
      else 10 * ((arrival - issue).toNat : Int) := by
  unfold measuredLatency
  split <;> omega

/-- The auto-trim update is a field write of the Calibration Table where its conditions hold, and nothing elsewhere (R50). -/
theorem applyTrim_eq (d : DriveContext) (st : Strike) (latency : Int) (s : State) :
    applyTrim d st latency s =
      { s with
        tables :=
          if s.tables.config.autoTrim = true ∧ st.deferrals = 0 ∧ d.trimEligible = true ∧
              -20000 ≤ latency - st.lead ∧ latency - st.lead ≤ 20000 then
            { s.tables with
              cal :=
                s.tables.cal.set st.key.val
                  { s.tables.cal[st.key] with
                    leadTrim := max (-2000) (min ((s.tables.cal[st.key]).leadTrim + (latency - st.lead).tdiv 8) 2000) }
                  st.key.isLt }
          else s.tables } := by
  have hcond : trimApplies d st (latency - st.lead) s = true ↔
      s.tables.config.autoTrim = true ∧ st.deferrals = 0 ∧ d.trimEligible = true ∧
        -20000 ≤ latency - st.lead ∧ latency - st.lead ≤ 20000 := by
    simp only [trimApplies, trimErrorOk, Bool.and_eq_true, decide_eq_true_eq, and_assoc]
  unfold applyTrim
  simp only
  by_cases h : trimApplies d st (latency - st.lead) s = true
  · rw [if_pos h, if_pos (hcond.mp h), trimmed, clampInt_eq _ _ _ (by omega)]
    rfl
  · rw [if_neg h, if_neg (mt hcond.mpr h)]

/-- Settles O20: the measurement is closed, the trim applied, and the report written. -/
theorem arrivalIsReported : Obligations.ArrivalIsReported := by
  rintro s _ st g1 g2 time issue hj rfl hi r latency error moved applies
  have hlatency : measuredLatency time issue = latency := measuredLatency_eq time issue
  rw [closeMeasurement_strike _ hj]
  simp only [strikeClosed, hi, Option.getD_some, hlatency, applyTrim_eq]
  rfl

/-! ## Payloads (R56) -/

/-- Four bytes, most significant first, as one field. -/
theorem ofNat_four_bytes (a b c d : Byte) :
    BitVec.ofNat 32 ((a.toNat * 256 + b.toNat) * 65536 + (c.toNat * 256 + d.toNat)) = a ++ b ++ c ++ d := by
  apply BitVec.eq_of_toNat_eq
  have ha := a.isLt
  have hb := b.isLt
  have hc := c.isLt
  have hd := d.isLt
  simp only [BitVec.toNat_append, BitVec.toNat_ofNat]
  rw [← Nat.shiftLeft_add_eq_or_of_lt hb, ← Nat.shiftLeft_add_eq_or_of_lt hc, ← Nat.shiftLeft_add_eq_or_of_lt hd]
  simp only [Nat.shiftLeft_eq]
  omega

theorem bits32_second (n a b c d : Byte) (rest : List Byte) :
    bits32 (n :: a :: b :: c :: d :: rest) 1 = a ++ b ++ c ++ d := ofNat_four_bytes a b c d

/-! ## Keys and pedals -/

theorem keyOf?_keyNo (k : Key) : keyOf? ((k.val : Int) + 1) = some k := by
  have h : 1 ≤ (k.val : Int) + 1 ∧ (k.val : Int) + 1 ≤ 88 := by omega
  simp [keyOf?, h]

theorem keyOf?_outside {n : Int} (h : n < 1 ∨ 88 < n) : keyOf? n = none := by
  rw [keyOf?, dif_neg (by omega)]

theorem pedalOf?_pedalNo (p : Pedal) : pedalOf? (p.val + 1) = some p := by
  have h : 1 ≤ p.val + 1 ∧ p.val + 1 ≤ 3 := by omega
  simp [pedalOf?, h]

/-! ## Performance events (R57, R75) -/

/-- A performance event taken at a frame in Running or Held is taken in, and what is due handed over (R57, R75). -/
theorem deliver_event {s : State} (f : Frame) (intake : State → State) (hf : AtFrame s) (hp : inPerformance s = true) :
    deliver f (takeEvent intake) s = railService (dueNow (intake { s with link := { s.link with badCount := 0 } })) := by
  rw [deliver_atFrame f _ hf, takeEvent]
  exact if_pos hp

/-- With nothing due, an event ends with the taking of rail commands alone. -/
theorem dueNow_after {e : State} (h : NoneDue e) : AfterService e (railService (dueNow e)) := by
  rw [dueNow_none e h]
  exact railService_after e

/-- An action placed at its own target: at now when that is past (R45). -/
theorem placed_zero (now target : PT) : placed now target 0 = if earlier target now then now else target := by
  unfold placed placementLateness
  cases earlier target now <;> simp [before]

/-! ## Note-Offs (R58, R67, R68) -/

theorem masked_iff (e : MapEntry) : masked e = true ↔ e.channel = 0 ∨ e.role = .capture ∨ e.role = .muted := by
  simp [masked]

theorem masked_eq_false {e : MapEntry} (hc : e.channel ≠ 0) (hr : e.role = .replay ∨ e.role = .both) :
    masked e = false := by
  rcases hr with h | h <;> simp [masked, hc, h]

/-- The Release of an open key enters the queue, the own Release of the key's strikes, and the key is closed (R63, R67,
R80). -/
theorem closeKey_eq (k : Key) (channel : Nat) (target : PT) (s : State) :
    closeKey k channel target s =
      let raised := raisedTarget s.queue.intake[k] target
      let time := if earlier raised s.clock.pt then s.clock.pt else raised
      wake
        { s with
          queue :=
            { s.queue with
              actions :=
                insertAction s.clock.pt ⟨time, s.queue.nextOrder, .release k channel false⟩
                  (s.queue.actions.map (giveRelease k time))
              intake := s.queue.intake.set k.val ⟨false, (s.queue.intake[k]).last⟩ k.isLt
              nextOrder := s.queue.nextOrder + 1 } } := by
  simp only [closeKey, placed_zero]
  rfl

/-- A Release becomes the own Release of a strike of its key that has none (R80). -/
theorem giveRelease_cases (k : Key) (time : PT) (a : Action) :
    (∀ st, a.body = .strike st none → st.key = k → giveRelease k time a = { a with body := .strike st (some time) }) ∧
      ((∀ st, a.body = .strike st none → st.key ≠ k) → giveRelease k time a = a) := by
  constructor
  · intro st hb hk
    simp [giveRelease, hb, hk]
  · intro h
    unfold giveRelease
    split
    · next st hb => rw [if_neg (h st hb)]
    · rfl

/-- Settles O29: an open, unmasked key is closed with its Release; any other Note-Off is discarded. -/
theorem noteOffsRelease : Obligations.NoteOffsRelease := by
  refine ⟨fun note t3 t2 t1 t0 => ?_, giveRelease_cases, ?_⟩
  · rw [noteOffFields?, if_pos (by simp), bits32_second]
    rfl
  · intro s tag p note target hf hp hfields e key taken
    have htaken : ∀ e', intakeNoteOff note target e = e' → taken e' := by
      rintro _ rfl
      refine ⟨rfl, ?_, dueNow_after⟩
      simp only [exec, execNoteOff, hfields, deliver_event _ _ hf hp]
      rfl
    constructor
    · intro k hk hr hch hrole ho raised time
      apply htaken
      have hmask : masked s.tables.keyMap[k] = false := masked_eq_false hch hrole
      have hkey : keyOf? ((note : Int) + e.tables.config.transpose) = some k :=
          (congrArg keyOf? hk).trans (keyOf?_keyNo k)
      rw [intakeNoteOff, hkey]
      simp only
      rw [if_neg (by simpa [e] using ⟨hr, hmask, ho⟩), closeKey_eq]
      rfl
    · rintro (h | h | ⟨k, hk, h⟩) <;> apply htaken
      · rw [intakeNoteOff, keyOf?_outside (.inl h)]
      · rw [intakeNoteOff, keyOf?_outside (.inr h)]
      · have hkey : keyOf? ((note : Int) + e.tables.config.transpose) = some k :=
          (congrArg keyOf? hk).trans (keyOf?_keyNo k)
        rw [intakeNoteOff, hkey]
        simp only
        rw [if_pos]
        rw [masked_iff]
        tauto

/-! ## Pedal Targets (R58, R71) -/

/-- Settles O30: with room the pedal's action is queued. -/
theorem pedalTargetsAreQueued : Obligations.PedalTargetsAreQueued := by
  constructor
  · intro p pedal t3 t2 t1 t0 x1 x0 hp
    have hpedal : pedalOf? (byteAt [pedal, t3, t2, t1, t0, x1, x0] 0) = some p :=
      (congrArg pedalOf? hp).trans (pedalOf?_pedalNo p)
    rw [pedalTargetFields?, if_pos (by simp), hpedal, bits32_second]
    rfl
  · intro s tag p f hf hp hfields hb e time queued taken
    have htaken : ∀ e', intakePedal f e = e' → taken e' := by
      rintro _ rfl
      refine ⟨rfl, ?_, dueNow_after⟩
      simp only [exec, execPedalTarget, hfields, deliver_event _ _ hf hp]
      rfl
    have replay (hr : s.tables.config.replayEnable = true) : ¬e.tables.config.replayEnable = false := by simp [e, hr]
    refine ⟨fun hr hroom => htaken _ ?_, fun hr hfull => htaken _ ?_, fun hr => htaken _ ?_⟩
    · rw [intakePedal, if_neg (replay hr), if_pos (by simpa [hasRoom, queueSize, e] using hroom),
        clampNat_eq _ _ _ (by omega), Nat.zero_max]
      rfl
    · rw [intakePedal, if_neg (replay hr), if_neg (by simp [hasRoom, queueSize, e, hfull])]
    · rw [intakePedal, if_pos hr]

/-! ## Crossings (R47, R120, R124) -/

/-- A good frame of a link that is up, or the second in a row of a lost one, is delivered (R120). -/
theorem sensorFrame_delivered {s : State} (act : State → State) (h : s.sensor.up = true ∨ 1 ≤ s.sensor.goodCount) :
    sensorFrame act s = act { s with sensor := ⟨true, 0, 0, some (s.localTime + 10000)⟩ } :=
  if_pos (h.imp_right fun h => by omega)

/-- A good frame of a lost link that does not bring it up is counted (R120). -/
theorem sensorFrame_counted {s : State} (act : State → State) (h : ¬(s.sensor.up = true ∨ 1 ≤ s.sensor.goodCount)) :
    sensorFrame act s = { s with sensor := { s.sensor with goodCount := s.sensor.goodCount + 1 } } :=
  if_neg fun h' => h (h'.imp_right fun h => by omega)

/-- A crossing of a key of the piano is routed and the rail served (R124). -/
theorem crossingFrame_key {note : Byte} {k : Key} (x : Crossing) (s : State) (h : note.toNat = k.val + 1) :
    crossingFrame note x s = railService (sensorFrame (routeCrossing k x) s) := by
  have hkey : keyOf? (note.toNat : Int) = some k := by
    rw [h]
    exact_mod_cast keyOf?_keyNo k
  rw [crossingFrame, hkey]

theorem captured_iff (r : Role) : captured r = true ↔ r = .capture ∨ r = .both := by cases r <;> simp [captured]

theorem captured_eq_false {r : Role} (h : r = .replay ∨ r = .muted) : captured r = false := by
  rcases h with rfl | rfl <;> rfl

/-- Settles O50: the drive context first, then the role. -/
theorem crossingsAreRouted : Obligations.CrossingsAreRouted := by
  intro s k tag note c x hn hs hc e time delivered role
  have hexec : exec c s = .next (railService (sensorFrame (routeCrossing k x) s)) := by
    rw [← crossingFrame_key x s hn]
    rcases hc with ⟨stamp, rfl, rfl⟩ | ⟨stamp, rfl, rfl⟩ | ⟨stamp, rfl, rfl⟩ | ⟨stamp, rfl, rfl⟩ | ⟨stamp, rfl, rfl⟩ |
      ⟨stamp, rfl, rfl⟩
    all_goals exact congrArg Host.Outcome.next (sninFrame_atPlace _ _ hs)
  have routed (h : delivered) : exec c s = .next (railService (routeCrossing k x e)) := by
    rw [hexec, sensorFrame_delivered _ h]
  refine ⟨fun h => ?_, fun h hd => ?_, fun h hd hr => ?_, fun h hd hr => ?_⟩
  · exact after_of_service hexec (sensorFrame_counted _ h)
  · rw [routed h, routeCrossing, if_pos hd]
    rfl
  · rw [routed h, routeCrossing, if_neg (not_not.mpr hd), if_pos ((captured_iff _).mpr hr)]
    rfl
  · refine after_of_service (routed h) ?_
    rw [routeCrossing, if_neg (not_not.mpr hd), if_neg (Bool.eq_false_iff.mp (captured_eq_false hr))]

/-! ## Pedal samples (R51, R114, R116, R117) -/

theorem capturing_iff (s : State) :
    capturing s = true ↔
      (s.clock.part = .running ∨ s.clock.part = .held) ∧ s.tables.config.captureEnable = true := by
  rw [capturing, Bool.and_eq_true, inPerformance_iff]

/-- A pedal has moved by its deadband, or to an end stop (R114, step 2). -/
theorem pedalMoved_iff (deadband now reported : Nat) :
    pedalMoved deadband now reported = true ↔
      (deadband : Int) ≤ |(now : Int) - reported| ∨ (now = 0 ∨ now = 1023) ∧ reported ≠ now := by
  have hdist : deadband ≤ max now reported - min now reported ↔ (deadband : Int) ≤ |(now : Int) - reported| := by
    rcases le_total now reported with h | h
    · rw [abs_of_nonpos (by omega)]
      omega
    · rw [abs_of_nonneg (by omega)]
      omega
  simp only [pedalMoved, Bool.or_eq_true, Bool.and_eq_true, decide_eq_true_eq, hdist]

/-- A Pedal event offered for a context just converted (R116, R117). -/
theorem offerPedal_setPedal (p : Pedal) (time : PT) (c : PedalCapture) (s : State) :
    offerPedal p time (setPedal p c s) =
      if s.captureFifo.length + announcedKeys s + 1 ≤ 128 then
        { setPedal p { c with reported := c.current, gap := false } s with
          captureFifo := s.captureFifo ++ [.pedal p time c.current c.gap (decide (s.clock.part = .held))] }
      else
        { setPedal p { c with gap := true } s with sticky := { s.sticky with captureOverrun := true } } := by
  have hfits : captureFits 1 (setPedal p c s) = decide (s.captureFifo.length + announcedKeys s + 1 ≤ 128) := rfl
  have hself : (setPedal p c s).pedals[p] = c := by simp
  have hset (d : PedalCapture) : setPedal p d (setPedal p c s) = setPedal p d s := by simp [setPedal]
  simp only [offerPedal, hfits, hself, hset, decide_eq_true_eq]
  split
  · rfl
  · simp [setPedal]

/-- Settles O53: each raw value is converted and held, and a movement offered. -/
theorem pedalSamplesAreTaken : Obligations.PedalSamplesAreTaken := by
  refine ⟨fun s => ⟨inPerformance_iff s, capturing_iff s⟩, fun s tag a b c hs hd => ?_, fun s time p raw => ?_⟩
  · change Host.Outcome.next (sninFrame _ _ s) = _
    rw [sninFrame_atPlace _ _ hs, sensorFrame_delivered _ hd]
    rfl
  · intro r old now put moved
    have hraw : pedalRaw time p raw s =
        if capturing s = true ∧ moved then offerPedal p time (setPedal p { old with current := now } s)
        else setPedal p { old with current := now } s := by
      refine if_congr ?_ rfl rfl
      rw [Bool.and_eq_true, pedalMoved_iff, setPedal_get, if_pos rfl]
      rfl
    rw [hraw]
    split
    · rw [offerPedal_setPedal]
      rfl
    · rfl

end Sys2Proof.StrikeProofs
end

section
/-! PROOFS. Calibration runs (09): requests and acceptance (R158, R159), the notes made current (R160, R161), the timers of a run
(R163, R164, R165), and a probe from its outcome to its end or abort (R53, R104, R162, R167). -/

namespace Sys2Proof.StrikeProofs

open Sys2Proof Sys2Proof.Machine Sys2Proof.TableProofs

/-! ## The run beside requests -/

theorem requestRail_withRun (r : RailCmd) (run : Option CalContext) (s : State) :
    requestRail r { s with run := run } = { requestRail r s with run := run } := by
  unfold requestRail wake
  cases wakesRail r with
  | false => rfl
  | true =>
    simp only [if_true]
    split <;> rfl

/-! ## Probe requests (R104, R124, R161) -/

/-- The state in which an Idle context has taken a probe at a level, before its Push is requested: drive notice, Pushing with
the probe marker (R104, R124, R161). -/
def probePushing (k : Key) (channel level : Nat) (s : State) : State :=
  { s with
    drive :=
      s.drive.set k.val { DriveContext.clear with state := .pushing, job := some (.probe channel level) } k.isLt
    capture := s.capture.set k.val CaptureContext.clear k.isLt
    captureFifo :=
      if (s.capture[k]).announced = true then s.captureFifo ++ [.noteOff k s.clock.pt .drive] else s.captureFifo }

theorem probePushing_withRun (k : Key) (channel level : Nat) (run : Option CalContext) (s : State) :
    probePushing k channel level { s with run := run } = { probePushing k channel level s with run := run } := rfl

theorem takeProbe_eq (c : CalContext) (s : State) :
    takeProbe c s =
      { requestRail (.push c.current c.channel (currentLevel c)) (probePushing c.current c.channel (currentLevel c) s) with
        run := some { c with taken := true } } := by
  simp only [takeProbe, driveNotice_eq]
  rfl

theorem currentLevel_eq {c : CalContext} {p : ProbeRecord} (h : c.probes[c.index]? = some p) :
    currentLevel c = p.level := by
  simp [currentLevel, List.getD_eq_getElem?_getD, h]

/-- The context of a probe that begins with the Sensor Link up: its level recorded (R52, R161). -/
def probeBegun (c : CalContext) (level : Nat) (taken : Bool) : CalContext :=
  { c with phase := .probing, probes := c.probes ++ [⟨level, false, 0, 0⟩], taken := taken, timer := none }

/-- With the Sensor Link lost a probe aborts the run (R161, R167). -/
theorem beginProbe_lost (c : CalContext) {s : State} (h : s.sensor.up = false) :
    beginProbe c s = addReport (abortedResult c) { s with run := none } := by
  simp only [beginProbe, h, Bool.false_eq_true, if_false, abortRun, abortKey, and_false]
  rfl

theorem beginProbe_up (c : CalContext) {s : State} (h : s.sensor.up = true) :
    beginProbe c s =
      if (s.drive[c.current]).state = .idle then
        takeProbe (probeBegun c (probeLevel c s.tables.cal[c.current] c.index) false)
          { s with run := some (probeBegun c (probeLevel c s.tables.cal[c.current] c.index) false) }
      else { s with run := some (probeBegun c (probeLevel c s.tables.cal[c.current] c.index) false) } := by
  simp only [beginProbe, h, if_true]
  rfl

/-- An Idle context takes the probe at once (R104, R161). -/
theorem beginProbe_idle {c : CalContext} {s : State} {level : Nat} (h : s.sensor.up = true)
    (hi : (s.drive[c.current]).state = .idle) (hn : c.probes.length = c.index)
    (hl : probeLevel c s.tables.cal[c.current] c.index = level) :
    beginProbe c s =
      { requestRail (.push c.current c.channel level) (probePushing c.current c.channel level s) with
        run := some (probeBegun c level true) } := by
  have hlevel : currentLevel (probeBegun c level false) = level :=
    currentLevel_eq (p := ⟨level, false, 0, 0⟩) (by simp [probeBegun, ← hn])
  rw [beginProbe_up c h, if_pos hi, hl, takeProbe_eq, hlevel]
  rw [probePushing_withRun, requestRail_withRun]
  rfl

/-- Another leaves the request waiting (R104). -/
theorem beginProbe_waits {c : CalContext} {s : State} {level : Nat} (h : s.sensor.up = true)
    (hi : (s.drive[c.current]).state ≠ .idle) (hl : probeLevel c s.tables.cal[c.current] c.index = level) :
    beginProbe c s = { s with run := some (probeBegun c level false) } := by
  rw [beginProbe_up c h, if_neg hi, hl]

/-! ## Acceptance (R158, R159) -/

theorem calFieldsOk_eq_false_iff (f : CalFields) :
    calFieldsOk f = false ↔
      f.first = 0 ∨ 88 < f.last ∨ f.last < f.first ∨
        (f.kind = .sweep ∧
          (1023 < f.base ∨ f.step = 0 ∨ 64 < f.step ∨ 15 < f.upper ∨ f.adjust < -15 ∨ 15 < f.adjust)) := by
  unfold calFieldsOk
  cases f.kind with
  | quick =>
    simp only [Bool.and_true, decide_eq_false_iff_not, reduceCtorEq, false_and, or_false]
    omega
  | sweep =>
    simp only [Bool.and_eq_false_iff, decide_eq_false_iff_not, true_and]
    omega

/-- The checks of R158, steps 2 to 7, in their order. -/
theorem calRefusal_eq (f : CalFields) (s : State) :
    calRefusal f s =
      if s.clock.part = .unconfigured then some .notConfigured
      else if s.clock.part ≠ .stopped then some .busy
      else if s.run.isSome then some .busy
      else if s.rail.state = .faulted then some .railFault
      else if s.tables.config.replayEnable = false then some .notConfigured
      else if f.first = 0 ∨ 88 < f.last ∨ f.last < f.first ∨
          (f.kind = .sweep ∧
            (1023 < f.base ∨ f.step = 0 ∨ 64 < f.step ∨ 15 < f.upper ∨ f.adjust < -15 ∨ 15 < f.adjust)) then
        some .invalid
      else none := by
  unfold calRefusal
  cases hp : s.clock.part with
  | unconfigured => rfl
  | stopped =>
    simp only [reduceCtorEq, if_false, ne_eq, not_true_eq_false, calFieldsOk_eq_false_iff]
  | running | held | faulted => simp

theorem startRun_eq {f : CalFields} {first last : Key} (hf : f.first = first.val + 1) (hl : f.last = last.val + 1)
    (s : State) : startRun f s = makeCurrent 88 first (newRun f first last) (wake s) := by
  have h1 : keyOf? (f.first : Int) = some first := (congrArg keyOf? (by omega)).trans (keyOf?_keyNo first)
  have h2 : keyOf? (f.last : Int) = some last := (congrArg keyOf? (by omega)).trans (keyOf?_keyNo last)
  rw [startRun, h1, h2]

/-- A calibration request that is taken, of the right Length, is judged, and the rail served (R158). -/
theorem exec_calibrate {s : State} {tag kind : Byte} {p : List Byte} {c : Instr} {f : CalFields} (hs : RequestTaken s)
    (hc : c = .calibrateQuick tag p ∧ p.length = 2 ∧ kind = 0x22 ∧ f = quickFields p ∨
      c = .calibrateSweep tag p ∧ p.length = 7 ∧ kind = 0x23 ∧ f = sweepFields p) :
    exec c s = .next (railService (calibrate kind tag f (goodFrame s))) := by
  rcases hc with ⟨rfl, hn, rfl, rfl⟩ | ⟨rfl, hn, rfl, rfl⟩
  · simp only [exec, execCalibrateQuick]
    rw [deliver_taken _ _ hs, checkLength, if_pos hn]
  · simp only [exec, execCalibrateSweep]
    rw [deliver_taken _ _ hs, checkLength, if_pos hn]

/-! ## Notes made current (R160, R161) -/

theorem keySkipped_iff (k : Key) (s : State) :
    keySkipped k s = true ↔
      (s.tables.keyMap[k]).channel = 0 ∨ (s.tables.keyMap[k]).role = .capture ∨ (s.tables.keyMap[k]).role = .muted ∨
        channelAvailable s.rail (s.tables.keyMap[k]).channel = false := by
  simp only [keySkipped, Bool.or_eq_true, decide_eq_true_eq, Bool.not_eq_true', or_assoc]

theorem makeCurrent_skipped {n : Nat} {k : Key} {c : CalContext} {s : State} (h : keySkipped k s = true) :
    makeCurrent (n + 1) k c s =
      if h : k.val < c.last.val then makeCurrent n ⟨k.val + 1, by omega⟩ c (addReport (skippedResult c k) s)
      else { addReport (skippedResult c k) s with run := none } := by
  rw [makeCurrent, if_pos h]

theorem makeCurrent_played {n : Nat} {k : Key} {c : CalContext} {s : State} (h : ¬keySkipped k s = true) :
    makeCurrent (n + 1) k c s =
      beginProbe { c with current := k, channel := (s.tables.keyMap[k]).channel, index := 0, probes := [] } s := by
  rw [makeCurrent, if_neg h]

/-- The level of probe 0 (R52). -/
theorem probeLevel_zero (c : CalContext) (r : CalRecord) :
    probeLevel c r 0 = match c.kind with
      | .sweep => min (min c.base 1023) r.ceiling
      | .quick => min r.refLevel r.ceiling := by
  unfold probeLevel
  cases c.kind <;> simp

/-- Settles O41: the requests, their judgement, and each case of a note made current. -/
theorem calibrationsAreTaken : Obligations.CalibrationsAreTaken := by
  refine ⟨fun first last base1 base0 step upper adjust => ⟨rfl, ?_⟩, fun s tag kind p c f hs hc => ?_, ?_⟩
  · have hadjust : signed8 [first, last, base1, base0, step, upper, adjust] 6 = adjust.toInt := by
      simp [signed8, byteAt]
    rw [sweepFields, hadjust]
    rfl
  · have hexec := exec_calibrate hs hc
    intro refusal
    have hrefusal : calRefusal f (goodFrame s) = refusal := calRefusal_eq f (goodFrame s)
    constructor
    · intro code hcode
      refine after_of_service hexec ?_
      rw [calibrate, hrefusal, hcode]
      rfl
    · intro hnone k last hfirst hlast
      rw [hexec, calibrate, hrefusal, hnone]
      simp only
      rw [startRun_eq hfirst hlast]
      rfl
  · intro n k c s entry skipped noChannel r level context
    have hskip : keySkipped k s = true ↔ skipped := keySkipped_iff k s
    have played (h : ¬skipped) : makeCurrent (n + 1) k c s =
        beginProbe { c with current := k, channel := entry.channel, index := 0, probes := [] } s :=
      makeCurrent_played (mt hskip.mp h)
    have hlevel : probeLevel { c with current := k, channel := entry.channel, index := 0, probes := [] } r 0 = level :=
      probeLevel_zero _ r
    refine ⟨fun h k' hk' hlt => ?_, fun h hle => ?_, fun h hup => ?_, fun h hup hi => ?_, fun h hup hi => ?_⟩
    · have : k' = ⟨k.val + 1, by omega⟩ := Fin.ext hk'
      rw [makeCurrent_skipped (hskip.mpr h), dif_pos hlt, this]
      rfl
    · rw [makeCurrent_skipped (hskip.mpr h), dif_neg (by omega)]
      rfl
    · rw [played h, beginProbe_lost _ hup]
      rfl
    · rw [played h, beginProbe_idle hup hi rfl hlevel]
      rfl
    · rw [played h, beginProbe_waits hup hi hlevel]
      rfl

/-! ## The timers of a run (R163, R164, R165) -/

theorem runTimerDue_some {s : State} {c : CalContext} {phase : ProbePhase} (hr : s.run = some c)
    (h : c.phase = phase ∧ ∃ d, c.timer = some d ∧ d ≤ s.localTime) : runTimerDue phase s = some c := by
  simp only [runTimerDue, hr, timerDue_iff]
  exact if_pos h

theorem runTimerDue_none {s : State} {c : CalContext} {phase : ProbePhase} (hr : s.run = some c)
    (h : c.phase ≠ phase ∨ ¬∃ d, c.timer = some d ∧ d ≤ s.localTime) : runTimerDue phase s = none := by
  simp only [runTimerDue, hr, timerDue_iff]
  exact if_neg (not_and_or.mpr h)

/-- The settle of the last probe ends the key with its result (R163). -/
theorem settleEnds_last {c : CalContext} (s : State) (h : c.upper ≤ c.index) :
    settleEnds c s = nextKey c (keyResult c s) := by
  rw [settleEnds, if_neg (by omega)]

/-- Settles O42: the two timers, the probe that the settle begins, and the results of a key. -/
theorem runTimersExpire : Obligations.RunTimersExpire := by
  intro s c hr due k r level
  have ended (hp : c.phase = .settling) (hd : due) : exec .settleExpiry s = .next (railService (settleEnds c s)) := by
    simp only [exec, execSettleExpiry, runTimerDue_some hr ⟨hp, hd⟩]
  have next (h : c.index < c.upper) : settleEnds c s = beginProbe { c with index := c.index + 1 } s := if_pos h
  have hlevel : probeLevel { c with index := c.index + 1 } r (c.index + 1) = level := rfl
  refine ⟨fun hp hd => ?_, fun h => ?_, fun h => ?_, fun hp hd hlt hup hi => ?_, fun hp hd hlt hup hi => ?_,
    fun hp hd hlt hup => ?_, fun hp hd hle k' hk' hlast => ?_, fun hp hd hle hlast => ?_, fun hk ho => ?_,
    fun o hk ho => ?_, fun p hk hprobes => ?_⟩
  · simp only [exec, execRestWaitExpiry, runTimerDue_some hr ⟨hp, hd⟩]
    rfl
  · simp only [exec, execRestWaitExpiry, runTimerDue_none hr h]
  · simp only [exec, execSettleExpiry, runTimerDue_none hr h]
  · intro c' hn
    refine after_of_service (ended hp hd) ?_
    rw [next hlt, beginProbe_idle (c := { c with index := c.index + 1 }) hup hi hn hlevel]
    rfl
  · refine after_of_service (ended hp hd) ?_
    rw [next hlt, beginProbe_waits (c := { c with index := c.index + 1 }) hup hi hlevel]
    rfl
  · refine after_of_service (ended hp hd) ?_
    rw [next hlt, beginProbe_lost _ hup]
    rfl
  · have : k' = ⟨c.current.val + 1, by omega⟩ := Fin.ext hk'
    rw [ended hp hd, settleEnds_last s hle, nextKey, dif_pos hlast, this]
  · refine after_of_service (ended hp hd) ?_
    rw [settleEnds_last s hle, nextKey, dif_neg (by rw [hlast]; omega)]
  · simp only [keyResult, hk, sweepResult, ho]
    rfl
  · simp only [keyResult, hk, sweepResult, ho]
    rfl
  · have hp : quickProbe c = p := by simp [quickProbe, hprobes]
    simp only [keyResult, hk, quickResult, hp]
    rfl

/-! ## A probe's outcome (R53, R104, R162) -/

theorem closeMeasurement_probe {k : Key} {channel level : Nat} {s : State} (o : MeasOutcome)
    (hj : (s.drive[k]).job = some (.probe channel level)) :
    closeMeasurement k o s =
      probeOutcome k s.drive[k] o (setDrive k { s.drive[k] with measuring := false, gateTimer := none } s) := by
  unfold closeMeasurement
  simp only [hj]

theorem takesOutcome_iff (c : CalContext) (k : Key) :
    takesOutcome c k = true ↔ c.phase = .probing ∧ c.taken = true ∧ c.current = k := by
  simp only [takesOutcome, Bool.and_eq_true, decide_eq_true_eq, and_assoc]

/-- A probe's measurement that closes NotMeasured is discarded (R96, R104). -/
theorem probeOutcome_notMeasured (k : Key) (d : DriveContext) (s : State) : probeOutcome k d .notMeasured s = s := by
  unfold probeOutcome
  cases s.run with
  | none => rfl
  | some c => exact ite_self s

/-- An outcome met at a moment at which none is awaited is discarded (R162). -/
theorem probeOutcome_discarded {k : Key} {s : State}
    (h : ∀ c, s.run = some c → c.phase ≠ .probing ∨ c.taken = false ∨ c.current ≠ k) (d : DriveContext)
    (o : MeasOutcome) : probeOutcome k d o s = s := by
  unfold probeOutcome
  split
  · rfl
  · next c hc =>
    rw [if_neg]
    rw [takesOutcome_iff]
    rintro ⟨hp, ht, hk⟩
    rcases h c hc with h | h | h
    · exact h hp
    · rw [ht] at h
      cases h
    · exact h hk

/-- An outcome is recorded at the current index, with a Probe Report (R162, R163). -/
theorem probeRecorded_eq {c : CalContext} {p : ProbeRecord} (hp : c.probes[c.index]? = some p) (k : Key)
    (arrived : Bool) (speed latency : Nat) (s : State) :
    probeRecorded c k arrived speed latency s =
      addReport (.probe ⟨k.val + 1, c.index, p.level, arrived, speed, latency⟩)
        { s with
          run := some
            { c with
              probes := c.probes.set c.index ⟨p.level, arrived, speed, latency⟩, phase := .awaitingRest
              timer := some (s.localTime + 200000) } } := by
  have hprobes : (c.probes.modify c.index fun p => { p with arrived := arrived, speed := speed, latency := latency }) =
      c.probes.set c.index ⟨p.level, arrived, speed, latency⟩ := by
    rw [List.modify_eq_set_getElem?, hp]
    rfl
  rw [probeRecorded, recordProbe, hprobes, currentLevel_eq hp]

/-- The latency of a probe is not below 0 (R53). -/
theorem probeLatency_eq (sent now delay : Nat) :
    probeLatency sent now delay = (max 0 ((now : Int) - sent - 10 * delay)).toNat := by
  unfold probeLatency
  omega

/-! ## A context that becomes Idle (R104, R163) -/

/-- The state in which a context has become Idle, its capture context at Rest, and the run is still to be told (R91, R125). -/
def madeIdle (k : Key) (s : State) : State :=
  { s with
    drive := s.drive.set k.val DriveContext.clear k.isLt
    capture := s.capture.set k.val CaptureContext.clear k.isLt }

theorem becomeIdle_eq (k : Key) (s : State) : becomeIdle k s = idleReport k (madeIdle k s) := rfl

section

variable {s : State} {c : CalContext} (hr : s.run = some c)

include hr

/-- The current note's context becoming Idle ends the rest wait (R163). -/
theorem idleReport_rest (hp : c.phase = .awaitingRest) : idleReport c.current s = beginSettle c s := by
  simp only [idleReport, hr, hp, if_true]

/-- It is nothing to a run that settles, or whose probe is under way. -/
theorem idleReport_unnoticed (h : c.phase = .settling ∨ c.phase = .probing ∧ c.taken = true) :
    idleReport c.current s = s := by
  rcases h with hp | ⟨hp, ht⟩
  · simp only [idleReport, hr, hp, if_true]
  · simp only [idleReport, hr, hp, ht, if_true]

/-- It has a probe request taken that waits (R104, R161). -/
theorem idleReport_request (hp : c.phase = .probing) (ht : c.taken = false) :
    idleReport c.current s = takeProbe c s := by
  simp only [idleReport, hr, hp, ht, if_true, Bool.false_eq_true, if_false]

end

/-- A probe taken by a context that has just become Idle: nothing is announced, and the rest notice is given already. -/
theorem probePushing_madeIdle (k : Key) (channel level : Nat) (s : State) :
    probePushing k channel level (madeIdle k s) =
      { madeIdle k s with
        drive :=
          s.drive.set k.val { DriveContext.clear with state := .pushing, job := some (.probe channel level) }
            k.isLt } := by
  simp [probePushing, madeIdle, CaptureContext.clear]

/-! ## Abort (R167) -/

/-- The abort of a key that is not Pushing, or whose request was not taken, does nothing to it (R167). -/
theorem abortKey_none {c : CalContext} {s : State}
    (h : c.phase ≠ .probing ∨ c.taken = false ∨ (s.drive[c.current]).state ≠ .pushing) : abortKey c s = s := by
  unfold abortKey
  split
  · next ha =>
    obtain ⟨hp, ht⟩ := ha
    have notPushing : (s.drive[c.current]).state ≠ .pushing :=
      (h.resolve_left (not_not.mpr hp)).resolve_left (by simp [ht])
    split
    · next hd _ => exact absurd hd notPushing
    · next hd _ => exact absurd hd notPushing
    · rfl
  · rfl

theorem abortRun_eq {s : State} {c : CalContext} (hr : s.run = some c) :
    abortRun s = addReport (abortedResult c) { abortKey c s with run := none } := by
  unfold abortRun
  simp only [hr]

/-- The Waiting Push of a probe is withdrawn, its context Idle with its rest notice; the run in flight, its request taken,
takes no notice (R104, R167). -/
theorem giveUpPush_probe {s : State} {c : CalContext} {channel level : Nat} (hr : s.run = some c)
    (hp : c.phase = .probing) (ht : c.taken = true) (hj : (s.drive[c.current]).job = some (.probe channel level)) :
    giveUpPush c.current s =
      { s with
        drive := s.drive.set c.current.val DriveContext.clear c.current.isLt
        capture := s.capture.set c.current.val CaptureContext.clear c.current.isLt
        rail := { s.rail with waiting := s.rail.waiting.filter fun r => !isPushOf c.current r.cmd } } := by
  have hgive : giveUpPush c.current s = becomeIdle c.current (withdraw (isPushOf c.current) s) := by
    unfold giveUpPush
    simp only [hj]
  have hrun : (madeIdle c.current (withdraw (isPushOf c.current) s)).run = some c := hr
  rw [hgive, becomeIdle_eq, idleReport_unnoticed hrun (.inr ⟨hp, ht⟩)]
  rfl

/-- The sent push of a probe ends with its Release; a marked measurement is closed and discarded (R96, R104, R167). -/
theorem beginRelease_probe {k : Key} {s : State} {channel level : Nat}
    (hj : (s.drive[k]).job = some (.probe channel level)) :
    beginRelease k s =
      requestRail (.release k channel)
        (setDrive k
          (if (s.drive[k]).measuring = true ∧ (s.drive[k]).notMeasured = true then
            { s.drive[k] with
              state := .releasing, rearmed := false, pushTimer := none, measuring := false, gateTimer := none }
          else { s.drive[k] with state := .releasing, rearmed := false, pushTimer := none }) s) := by
  have hchannel : ((s.drive[k]).job.map jobChannel).getD 0 = channel := by rw [hj]; rfl
  rw [beginRelease_eq, hchannel, ← setDrive_requestRail, ← setDrive_requestRail]
  split
  · next hm =>
    obtain ⟨hm, hn⟩ := hm
    have hmarked (t : State) (h : (t.drive[k]).measuring = true ∧ (t.drive[k]).notMeasured = true) :
        closeMarked k t = closeMeasurement k .notMeasured t := by
      simp only [closeMarked, h.1, h.2, Bool.and_self, if_true]
    rw [hmarked _ (by rw [setDrive_self]; exact ⟨hm, hn⟩),
      closeMeasurement_probe (channel := channel) (level := level) _ (by rw [setDrive_self]; exact hj),
      probeOutcome_notMeasured, setDrive_setDrive, setDrive_self]
  · next hm =>
    refine closeMarked_unmarked _ _ ?_
    rw [setDrive_self]
    simpa only [not_and_or, Bool.not_eq_true] using hm

/-- Settles O43: outcome, rest, request and abort of a probe. -/
theorem probesAreCarriedOut : Obligations.ProbesAreCarriedOut := by
  refine ⟨fun s k channel level hj => ?_, fun s c hr => ?_, fun s k h => becomeIdle_other k s h, fun s h => ?_,
    fun s c hr => ?_⟩
  · intro d e
    have closed (o : MeasOutcome) : closeMeasurement k o s = probeOutcome k d o e := closeMeasurement_probe o hj
    refine ⟨?_, fun h o => ?_, fun c p hr hp ht hk hprobe => ?_⟩
    · rw [closed, probeOutcome_notMeasured]
    · rw [closed, probeOutcome_discarded (s := e) h]
    · have hrun : e.run = some c := hr
      have htakes : takesOutcome c k = true := (takesOutcome_iff c k).mpr ⟨hp, ht, hk⟩
      intro recorded
      constructor
      · rw [closed]
        simp only [probeOutcome, hrun, htakes, if_true]
        exact probeRecorded_eq hprobe k false 0 0 e
      · intro g1 g2 time sent hsent
        rw [closed]
        simp only [probeOutcome, hrun, htakes, if_true]
        have hsent' : d.sentAt.getD 0 = sent := congrArg (·.getD 0) hsent
        rw [hsent', probeLatency_eq]
        exact probeRecorded_eq hprobe k true _ _ e
  · intro k e
    have hrun : (madeIdle c.current s).run = some c := hr
    refine ⟨fun hp => ?_, fun h => ?_, fun p hp ht hprobe => ?_⟩
    · rw [becomeIdle_eq, idleReport_rest hrun hp]
      rfl
    · rw [becomeIdle_eq, idleReport_unnoticed hrun h]
      rfl
    · rw [becomeIdle_eq, idleReport_request hrun hp ht, takeProbe_eq, currentLevel_eq hprobe, probePushing_madeIdle]
      rfl
  · unfold abortRun
    rw [h]
  · intro k d put aborted
    refine ⟨fun h => ?_, fun channel level hp ht hd hj => ⟨fun hw => ?_, fun hsent => ?_⟩⟩
    · rw [abortRun_eq hr, abortKey_none h]
      rfl
    · have hkey : abortKey c s = giveUpPush c.current s := by
        simp only [abortKey, hp, ht, and_self, if_true]
        rw [show (s.drive[c.current]).state = .pushing from hd, show (s.drive[c.current]).stage = .waiting from hw]
      rw [abortRun_eq hr, hkey, giveUpPush_probe hr hp ht hj]
      rfl
    · intro released
      have hkey : abortKey c s = beginRelease c.current s := by
        simp only [abortKey, hp, ht, and_self, if_true]
        rw [show (s.drive[c.current]).state = .pushing from hd, show (s.drive[c.current]).stage = .sent from hsent]
      rw [abortRun_eq hr, hkey, beginRelease_probe hj, ← requestRail_withRun]
      rfl

end Sys2Proof.StrikeProofs
end

section
/-! PROOFS. The taking of the next rail command: what its sending records, and what its dropping leaves (R88, R91, R101, R103,
R104, R107, R140, R144, R149, R156). -/

namespace Sys2Proof.StrikeProofs

open Sys2Proof Sys2Proof.Machine Sys2Proof.TableProofs

/-! ## Sent or dropped (R143, R144) -/

/-- The request taken is out of the waiting list. -/
def takenOut (q : Request) (s : State) : State :=
  { s with rail := { s.rail with waiting := s.rail.waiting.erase q } }

theorem railServiceAt_sent {start : Nat} {s s' : State} {q : Request} (hf : slotFree s.rail = true)
    (hq : nextRequest s.rail = some q) (h : takeCommand start q.cmd (takenOut q s) = .sent s') :
    railServiceAt start s = s' := by
  rw [railServiceAt_next hf hq]
  change (match takeCommand start q.cmd (takenOut q s) with | .sent s' => s' | .dropped s' => railServiceAt start s') = _
  rw [h]

theorem railServiceAt_dropped {start : Nat} {s s' : State} {q : Request} (hf : slotFree s.rail = true)
    (hq : nextRequest s.rail = some q) (h : takeCommand start q.cmd (takenOut q s) = .dropped s') :
    railServiceAt start s = railServiceAt start s' := by
  rw [railServiceAt_next hf hq]
  change (match takeCommand start q.cmd (takenOut q s) with | .sent s' => s' | .dropped s' => railServiceAt start s') = _
  rw [h]

/-! ## Pushes (R46, R88, R104) -/

theorem takeCommand_probe {start : Nat} {k : Key} {channel level ch l : Nat} {s : State}
    (hj : (s.drive[k]).job = some (.probe ch l)) :
    takeCommand start (.push k channel level) s = .sent (sendCommand start (.push k channel level) s) := by
  simp only [takeCommand, contextStrike, hj]

theorem takeCommand_strike {start : Nat} {k : Key} {channel level : Nat} {st : Strike} {s : State}
    (hj : (s.drive[k]).job = some (.strike st)) :
    takeCommand start (.push k channel level) s =
      if s.tables.config.lateLimit < issueLateness st s then .dropped (missAtIssue k st s)
      else .sent (sendCommand start (.push k channel level) (markContextLate k st s)) := by
  simp only [takeCommand, contextStrike, hj]

/-- A strike Missed at issue, of a key that is not the current note of a run (R88, R91). -/
theorem missAtIssue_other {k : Key} {st : Strike} {s : State} (h : ∀ c, s.run = some c → c.current ≠ k) :
    missAtIssue k st s = addReport (missedReport st) (madeIdle k s) := by
  rw [missAtIssue, becomeIdle_other k _ (by rwa [addReport_run]), setDrive_addReport, setCapture_addReport]
  rfl

/-- A strike not Missed is marked Late from 100 on (R46). -/
theorem markLate_eq {lateness limit : Nat} (h : lateness ≤ limit) (st : Strike) :
    markLate lateness limit st = { st with late := st.late || decide (100 ≤ lateness) } := by
  unfold markLate
  by_cases h100 : 100 ≤ lateness
  · rw [if_pos ⟨h100, h⟩]
    simp [h100]
  · rw [if_neg (fun hc => h100 hc.1)]
    simp [h100]

/-- A strike's Push is sent with its Late mark: one write of its context (R88). -/
theorem sendCommand_strike (start : Nat) (k : Key) (channel level : Nat) (d : DriveContext) (s : State) :
    sendCommand start (.push k channel level) (setDrive k d s) =
      reloadPark
        (setDrive k
          (pushSent s.tables.cal[k] (decide (s.clock.part = .running)) s.sensor.up s.localTime s.clock.pt d)
          (transmit start (.push k channel level) s)) := by
  have hpass : transmit start (.push k channel level) (setDrive k d s) =
      setDrive k d (transmit start (.push k channel level) s) := rfl
  simp only [sendCommand, recordSending, hpass, setDrive_self, setDrive_setDrive]
  rfl

/-- A probe's Push leaves trim eligibility clear (R104). -/
theorem pushSent_probe {d : DriveContext} {channel level : Nat} (hj : d.job = some (.probe channel level))
    (r : CalRecord) (running sensorUp : Bool) (now : Nat) (pt : PT) :
    pushSent r running sensorUp now pt d =
      { d with
        job := some (.probe channel level), stage := .sent, issue := some pt, sentAt := some now
        pushTimer := some (now + r.pushLimit * 1000), gateTimer := some (now + (r.pushLimit + 60) * 1000)
        measuring := true, g1 := none, notMeasured := !sensorUp, trimEligible := false } := by
  simp only [pushSent, hj]

/-! ## Release All of a Restart (R103, R156) -/

/-- Every context Idle at a Restart's Release All, what waits for one that was not withdrawn, the run still to be told. -/
def allMadeIdle (s : State) : State :=
  { s with
    drive := Vector.replicate 88 DriveContext.clear
    rail := { s.rail with waiting := s.rail.waiting.filter fun r => !ofContext notIdle s.drive r.cmd } }

theorem allIdle_eq (s : State) :
    allIdle s =
      match s.run with
      | none => allMadeIdle s
      | some c => if notIdle s.drive[c.current] then idleReport c.current (allMadeIdle s) else allMadeIdle s := by
  have hmap : s.drive.map (releaseAllNotice true s.localTime s.sensor.up) = Vector.replicate 88 DriveContext.clear := by
    ext i hi
    simp [releaseAllNotice]
  unfold allIdle
  rw [hmap]
  rfl

theorem notIdle_iff (d : DriveContext) : notIdle d = true ↔ d.state ≠ .idle := decide_eq_true_iff

/-- The run takes no notice: its key was Idle, or nothing of it waits for rest or for a request (R163). -/
theorem allIdle_unnoticed {s : State}
    (h : ∀ c, s.run = some c →
      (s.drive[c.current]).state = .idle ∨ c.phase = .settling ∨ c.phase = .probing ∧ c.taken = true) :
    allIdle s = allMadeIdle s := by
  rw [allIdle_eq]
  cases hr : s.run with
  | none => rfl
  | some c =>
    have hrun : (allMadeIdle s).run = some c := hr
    simp only
    rcases h c hr with hi | hrest
    · exact if_neg (by rw [notIdle_iff]; exact not_not.mpr hi)
    · rw [idleReport_unnoticed hrun hrest, ite_self]

/-- The run is told that its key has become Idle (R104, R163). -/
theorem allIdle_noticed {s : State} {c : CalContext} (hr : s.run = some c) (hi : (s.drive[c.current]).state ≠ .idle) :
    allIdle s = idleReport c.current (allMadeIdle s) := by
  rw [allIdle_eq, hr]
  exact if_pos ((notIdle_iff _).mpr hi)

/-- What waits for no driven key stays (R103). -/
theorem withdrawn_eq (drive : Vector DriveContext 88) (c : RailCmd) :
    (!ofContext notIdle drive c) =
      match c with
      | .push k _ _ => decide ((drive[k]).state = .idle)
      | .hold k _ _ => decide ((drive[k]).state = .idle)
      | .release k _ => decide ((drive[k]).state = .idle)
      | _ => true := by
  have rested (d : DriveContext) : (!notIdle d) = decide (d.state = .idle) := by simp [notIdle]
  cases c with
  | push k _ _ => exact rested drive[k]
  | hold k _ _ => exact rested drive[k]
  | release k _ => exact rested drive[k]
  | releaseAll | pedalSet | park | unpark | passThrough => rfl

/-! ## Park (R149) -/

theorem forall_mem_toList_iff {α : Type} {n : Nat} (v : Vector α n) (P : α → Prop) :
    (∀ x ∈ v.toList, P x) ↔ ∀ i : Fin n, P v[i] := by
  constructor
  · exact fun h i => h _ (by simp)
  · intro h x hx
    obtain ⟨i, hi, rfl⟩ := Vector.mem_iff_getElem.mp (Vector.mem_toList_iff.mp hx)
    exact h ⟨i, hi⟩

theorem not_keepsAwake_iff (c : RailCmd) :
    (!keepsAwake c) = true ↔
      (∀ k ch l, c ≠ .push k ch l) ∧ (∀ k ch l, c ≠ .hold k ch l) ∧ ∀ p, c ≠ .pedalSet p := by
  cases c <;> simp [keepsAwake, wakesRail]

theorem parkConditions_iff (s : State) :
    parkConditions s = true ↔
      (∀ k : Key, (s.drive[k]).state = .idle) ∧ (∀ p : Pedal, (s.replay[p]).commanded = 0) ∧ s.run = none ∧
        ∀ r ∈ s.rail.waiting,
          (∀ k c l, r.cmd ≠ .push k c l) ∧ (∀ k c l, r.cmd ≠ .hold k c l) ∧ ∀ p, r.cmd ≠ .pedalSet p := by
  rw [← forall_mem_toList_iff s.drive (·.state = .idle), ← forall_mem_toList_iff s.replay (·.commanded = 0)]
  simp only [parkConditions, Bool.and_eq_true, decide_eq_true_eq, Option.isNone_iff_eq_none, List.all_eq_true,
    not_keepsAwake_iff, and_assoc]

/-- Settles O56: one case for each command, sent or dropped. -/
theorem railCommandsAreSent : Obligations.RailCommandsAreSent := by
  refine ⟨fun s => rfl, ?_⟩
  rintro start s ⟨cmd, time⟩ htx hfl hq w t now reload gone awake put sentRelease sentPush
  have hf : slotFree s.rail = true := by simp [slotFree, htx, hfl]
  have sent {s' : State} (h : takeCommand start cmd w = .sent s') : t = s' := railServiceAt_sent hf hq h
  have dropped {s' : State} (h : takeCommand start cmd w = .dropped s') : t = railServiceAt start s' :=
    railServiceAt_dropped hf hq h
  refine ⟨fun k channel level hc => ?_, fun k channel level hc => ?_, fun k channel hc => ?_, fun recovery hc => ?_,
    fun recovery hc => ?_, fun p hc => ?_, fun hc => ?_, fun hc => ?_⟩ <;> change cmd = _ at hc <;> subst hc
  · intro bytes
    constructor
    · intro st hj late missed
      have htake := takeCommand_strike (start := start) (channel := channel) (level := level) (s := w) hj
      constructor
      · intro hlate hrun
        rw [dropped (htake.trans (if_pos hlate)), missAtIssue_other (s := w) hrun]
        rfl
      · intro hlate
        rw [sent (htake.trans (if_neg (not_lt.mpr hlate))), markContextLate, sendCommand_strike,
          markLate_eq (lateness := issueLateness st w) hlate]
        rfl
    · intro ch l hj
      rw [sent (takeCommand_probe (s := w) hj)]
      simp only [sendCommand, recordSending]
      rw [pushSent_probe (d := (transmit start (.push k channel level) w).drive[k]) hj]
      rfl
  · exact sent rfl
  · exact sent rfl
  · exact sent rfl
  · intro idle
    have ht : t = allIdle (transmit start (.releaseAll recovery true) w) := sent rfl
    have hidle : allMadeIdle (transmit start (.releaseAll recovery true) w) = idle := by
      simp only [allMadeIdle, withdrawn_eq]
      rfl
    constructor
    · intro h
      rw [ht, allIdle_unnoticed (s := transmit start _ w) h, hidle]
    · intro c hr hi
      have htold : t = idleReport c.current idle := by
        rw [ht, allIdle_noticed (s := transmit start _ w) hr hi, hidle]
      have hrun : idle.run = some c := hr
      constructor
      · intro hp
        rw [htold, idleReport_rest hrun hp]
        rfl
      · intro p hp htaken hprobe
        have hfifo : (if (s.capture[c.current]).announced = true then
              s.captureFifo ++ [CaptureEvent.noteOff c.current s.clock.pt .drive] else s.captureFifo) =
            s.captureFifo ++
              if (s.capture[c.current]).announced = true then
                [CaptureEvent.noteOff c.current s.clock.pt .drive] else [] := by
          split <;> simp
        rw [htold, idleReport_request hrun hp htaken, takeProbe_eq, currentLevel_eq hprobe, ← hfifo]
        rfl
  · exact sent rfl
  · exact sent rfl
  · intro mayPark
    have hmay : (w.rail.state = .active ∧ parkConditions w = true) ↔ mayPark := and_congr_right' (parkConditions_iff w)
    constructor
    · intro h
      exact sent (if_pos (hmay.mpr h))
    · intro h
      exact dropped (if_neg (mt hmay.mp h))

end Sys2Proof.StrikeProofs
end

section
/-! PROOFS. The Action Queue (04): the place an action takes (R74), the deferral of a strike (R78 to R80, R86), the
performance events that are discarded (R56, R57), and the intake of a Note-On (R58 to R66, R69, R70, R81). -/

namespace Sys2Proof.IntakeProofs

open Sys2Proof Sys2Proof.Machine Sys2Proof.StrikeProofs

/-! ## The place of an action (R74) -/

/-- In a queue that is in order an action is placed behind every action whose time is its own or earlier and ahead of every
later one (R74). -/
theorem insertAction_splits (pt : PT) (a : Action) (as : List Action)
    (hord : (as.map fun b => place pt b.time).Pairwise (· ≤ ·)) :
    ∃ front back, as = front ++ back ∧ insertAction pt a as = front ++ a :: back ∧
      (∀ b ∈ front, place pt b.time ≤ place pt a.time) ∧ ∀ b ∈ back, place pt a.time < place pt b.time := by
  induction as with
  | nil => exact ⟨[], [], by simp [insertAction]⟩
  | cons c rest ih =>
    rw [List.map_cons, List.pairwise_cons] at hord
    by_cases hlt : place pt a.time < place pt c.time
    · refine ⟨[], c :: rest, rfl, by simp [insertAction, hlt], by simp, fun b hb => ?_⟩
      rcases List.mem_cons.mp hb with rfl | hb
      · exact hlt
      · exact hlt.trans_le (hord.1 _ (List.mem_map_of_mem hb))
    · obtain ⟨front, back, hsplit, hins, hfront, hback⟩ := ih hord.2
      exact ⟨c :: front, back, by simp [hsplit], by simp [insertAction, hlt, hins],
        List.forall_mem_cons.mpr ⟨not_lt.mp hlt, hfront⟩, hback⟩

/-! ## Deferral (R78, R79, R80, R86) -/

/-- A strike whose channel is unavailable is reported ChannelOff (R86). -/
theorem handOver_channelOff {time : PT} {order : Nat} {st : Strike} {own : Option PT} {s : State}
    (hc : channelAvailable s.rail st.channel = false) :
    handOver ⟨time, order, .strike st own⟩ s = addReport (channelOffReport st) s := by
  simp [handOver, hc]

/-- A strike whose channel is available, its key not ready, is returned for deferral (R78, R86). -/
theorem handOver_deferred {time : PT} {order : Nat} {st : Strike} {own : Option PT} {s : State}
    (hc : channelAvailable s.rail st.channel = true) (hr : keyReady st.key s = false) :
    handOver ⟨time, order, .strike st own⟩ s = deferStrike ⟨time, order, .strike st own⟩ st own s := by
  simp [handOver, hc, hr]

/-- A strike returned is abandoned at its 17th return or when its new time would not be earlier than its own Release, else it
is placed again 100 units later (R78, R79, R80). -/
theorem deferStrike_eq (time : PT) (order : Nat) (body : ActionBody) (st : Strike) (own : Option PT) (s : State) :
    deferStrike ⟨time, order, body⟩ st own s =
      if st.deferrals ≥ 16 ∨ (∃ r ∈ own, earlier (time + 100#32) r = false) then addReport (abandonedReport st) s
      else
        { s with
          queue :=
            { s.queue with
              actions :=
                insertAction s.clock.pt ⟨time + 100#32, order, .strike { st with deferrals := st.deferrals + 1 } own⟩
                  s.queue.actions } } := by
  unfold deferStrike
  cases own <;> simp

/-- Settles O24: the fields of a report are its strike's own, a strike returned is deferred or abandoned, and an action is
placed by its time. -/
theorem actionsAreDeferredAndPlaced : Obligations.ActionsAreDeferredAndPlaced := by
  refine ⟨fun _ _ _ _ _ _ _ _ => ⟨rfl, rfl, rfl⟩, fun s time order st own => ⟨handOver_channelOff, fun hc hr => ?_⟩,
    insertAction_splits⟩
  rw [handOver_deferred hc hr, deferStrike_eq]
  rfl

/-! ## Payloads (R56) -/

/-- Two bytes, most significant first, as one field. -/
theorem ofNat_two_bytes (a b : Byte) : BitVec.ofNat 16 (a.toNat * 256 + b.toNat) = a ++ b := by
  apply BitVec.eq_of_toNat_eq
  have ha := a.isLt
  have hb := b.isLt
  rw [BitVec.toNat_append, BitVec.toNat_ofNat, ← Nat.shiftLeft_add_eq_or_of_lt hb, Nat.shiftLeft_eq]
  omega

theorem noteOnFields?_bytes (note v1 v0 t3 t2 t1 t0 e1 e0 : Byte) :
    noteOnFields? [note, v1, v0, t3, t2, t1, t0, e1, e0] =
      some ⟨note.toNat, v1.toNat * 256 + v0.toNat, t3 ++ t2 ++ t1 ++ t0, e1 ++ e0⟩ := by
  rw [← ofNat_four_bytes, ← ofNat_two_bytes]
  rfl

theorem noteOnFields?_none {p : List Byte} (h : p.length ≠ 9) : noteOnFields? p = none := if_neg h

theorem noteOffFields?_none {p : List Byte} (h : p.length ≠ 5) : noteOffFields? p = none := if_neg h

/-- A Pedal Target of another Length, or of a pedal outside 1..3, has no fields (R56). -/
theorem pedalTargetFields?_none {p : List Byte} (h : p.length ≠ 7 ∨ byteAt p 0 = 0 ∨ 3 < byteAt p 0) :
    pedalTargetFields? p = none := by
  unfold pedalTargetFields?
  split
  · next hlen =>
    have hpedal : pedalOf? (byteAt p 0) = none := dif_neg (by omega)
    rw [hpedal]
  · rfl

/-! ## Performance events taken in or discarded (R56, R57) -/

/-- What the three performance events have in common: one whose payload has no fields is discarded, any other is taken (R56,
R57). -/
def takeFields {α : Type} (fields : Option α) (intake : α → State → State) (s : State) : State :=
  match fields with
  | none => discardEvent s
  | some f => takeEvent (intake f) s

theorem exec_noteOn (tag : Byte) (p : List Byte) (s : State) :
    exec (.noteOn tag p) s = .next (deliver ⟨0x01, tag, p⟩ (takeFields (noteOnFields? p) intakeNoteOn) s) := by
  cases h : noteOnFields? p <;> simp only [exec, execNoteOn, h] <;> rfl

theorem exec_noteOff (tag : Byte) (p : List Byte) (s : State) :
    exec (.noteOff tag p) s =
      .next (deliver ⟨0x02, tag, p⟩ (takeFields (noteOffFields? p) fun f => intakeNoteOff f.1 f.2) s) := by
  cases h : noteOffFields? p <;> simp only [exec, execNoteOff, h] <;> rfl

theorem exec_pedalTarget (tag : Byte) (p : List Byte) (s : State) :
    exec (.pedalTarget tag p) s =
      .next (deliver ⟨0x03, tag, p⟩ (takeFields (pedalTargetFields? p) intakePedal) s) := by
  cases h : pedalTargetFields? p <;> simp only [exec, execPedalTarget, h] <;> rfl

/-- A performance event is discarded outside Running and Held, and when its payload has no fields (R56, R57). -/
theorem takeFields_discards {α : Type} {fields : Option α} (intake : α → State → State) {s : State}
    (h : inPerformance s = false ∨ fields = none) : takeFields fields intake s = discardEvent s := by
  cases fields with
  | none => rfl
  | some f =>
    have hp : inPerformance s = false := by simpa using h
    simp [takeFields, takeEvent, hp]

/-- Delivered in Locked, such an event leaves EventsDiscarded and no other effect (R57). -/
theorem deliver_discarded {α : Type} {fields : Option α} (f : Frame) (intake : α → State → State) {s : State}
    (hf : AtFrame s) (h : inPerformance s = false ∨ fields = none) :
    deliver f (takeFields fields intake) s =
      { s with link := { s.link with badCount := 0 }, sticky := { s.sticky with eventsDiscarded := true } } := by
  rw [deliver_atFrame f _ hf]
  exact takeFields_discards intake h

/-- Settles O26: each of the three payloads has no fields where it is wrong. -/
theorem eventsAreDiscarded : Obligations.EventsAreDiscarded := by
  intro s tag p hf t
  refine ⟨fun h => ?_, fun h => ?_, fun h => ?_⟩
  · rw [exec_noteOn, deliver_discarded _ _ hf (h.imp_right noteOnFields?_none)]
  · rw [exec_noteOff, deliver_discarded _ _ hf (h.imp_right noteOffFields?_none)]
  · rw [exec_pedalTarget, deliver_discarded _ _ hf (h.imp_right pedalTargetFields?_none)]

/-! ## The intake of a Note-On, step by step (R58 to R61) -/

/-- A Note-On taken at a frame in Running or Held is taken in, and what is due is handed over (R57, R75). -/
theorem exec_noteOn_taken {s : State} {tag : Byte} {p : List Byte} {f : NoteOnFields} (hf : AtFrame s)
    (hp : inPerformance s = true) (hfields : noteOnFields? p = some f) :
    exec (.noteOn tag p) s =
      .next (railService (dueNow (intakeNoteOn f { s with link := { s.link with badCount := 0 } }))) := by
  rw [exec_noteOn, hfields]
  exact congrArg _ (deliver_event _ (intakeNoteOn f) hf hp)

theorem intakeNoteOn_outOfRange {f : NoteOnFields} {s : State}
    (h : (f.note : Int) + s.tables.config.transpose < 1 ∨ 88 < (f.note : Int) + s.tables.config.transpose) :
    intakeNoteOn f s = addReport (unplayedReport f f.note 0 { outOfRange := true }) s := by
  rw [intakeNoteOn, keyOf?_outside h]

section Key

variable {f : NoteOnFields} {k : Key} {s : State}

theorem intakeNoteOn_masked (hk : (f.note : Int) + s.tables.config.transpose = k.val + 1)
    (h : s.tables.config.replayEnable = false ∨ masked s.tables.keyMap[k] = true) :
    intakeNoteOn f s = addReport (unplayedReport f (keyNo k) 0 { masked := true }) s := by
  rw [intakeNoteOn, hk, keyOf?_keyNo]
  exact if_pos h

theorem intakeNoteOn_unmasked (hk : (f.note : Int) + s.tables.config.transpose = k.val + 1)
    (hr : s.tables.config.replayEnable = true) (hm : masked s.tables.keyMap[k] = false) :
    intakeNoteOn f s = intakeStrike k (s.tables.keyMap[k]).channel f s := by
  rw [intakeNoteOn, hk, keyOf?_keyNo]
  exact if_neg (by simpa [hr] using hm)

end Key

/-- A target is out of order when it is earlier than the last taken one (R61). -/
theorem outOfOrder_iff (r : IntakeRecord) (target : PT) :
    outOfOrder r target = true ↔ ∃ last, r.last = some last ∧ earlier target last = true := by
  unfold outOfOrder
  cases r.last <;> simp

theorem outOfOrder_eq_false {r : IntakeRecord} {target : PT} (h : ∀ last ∈ r.last, earlier target last = false) :
    outOfOrder r target = false := by
  rw [Bool.eq_false_iff, ne_eq, outOfOrder_iff]
  rintro ⟨last, hl, hearlier⟩
  exact Bool.false_ne_true ((h last hl).symm.trans hearlier)

theorem intakeStrike_outOfOrder {k : Key} {f : NoteOnFields} {s : State} (channel : Nat)
    (h : outOfOrder s.queue.intake[k] f.target = true) :
    intakeStrike k channel f s = addReport (unplayedReport f (keyNo k) channel { outOfOrder := true }) s := if_pos h

/-- A Note-On that passes the order check comes to its admission, its strike computed and its target taken (R61, R62). -/
theorem intakeStrike_inOrder {k : Key} {f : NoteOnFields} {s : State} (channel : Nat)
    (h : outOfOrder s.queue.intake[k] f.target = false) :
    intakeStrike k channel f s =
      admitStrike (computeStrike s.tables.cal[k] k channel f.speed f.target f.event)
        (judgeIntake s.clock.pt f.target (ptUnits (plannedLead s.tables.cal[k] f.speed)) s.tables.config.lateLimit)
        f.target (takeTarget k f.target s) := if_neg (by rw [h]; exact Bool.false_ne_true)

/-- Settles O27: the three checks of a Note-On, in their order. -/
theorem noteOnsThatNameNoStrike : Obligations.NoteOnsThatNameNoStrike := by
  refine ⟨noteOnFields?_bytes, ?_⟩
  intro s tag p f hf hp hfields e key taken report
  have htaken : ∀ e', intakeNoteOn f e = e' → taken e' := by
    rintro _ rfl
    exact ⟨rfl, exec_noteOn_taken hf hp hfields, dueNow_after⟩
  refine ⟨fun hkey => htaken _ (intakeNoteOn_outOfRange hkey), fun k hk => ⟨fun h => htaken _ ?_, ?_⟩⟩
  · exact intakeNoteOn_masked hk (h.imp_right (masked_iff _).mpr)
  · intro hr hch hrole hlast
    have hstrike : intakeNoteOn f e = intakeStrike k (s.tables.keyMap[k]).channel f e :=
      intakeNoteOn_unmasked hk hr (masked_eq_false hch hrole)
    exact htaken _ (hstrike.trans (intakeStrike_outOfOrder _ ((outOfOrder_iff _ _).mpr hlast)))

/-! ## Admission (R63 to R66, R69, R70, R72) -/

/-- A rail that was woken is not woken again (R72, R150). -/
theorem enqueue_wake (time : PT) (body : ActionBody) (s : State) : enqueue time body (wake s) = enqueue time body s := by
  by_cases h : s.rail.state = .parked <;> simp [enqueue, wake, h]

/-- The queue after the first effect of an admitted Note-On: its target taken, the key open, and, where it was open before,
its implicit Release queued, the own Release of the key's strikes that have none (R61, R63, R64, R65, R80). -/
def admittedQueue (k : Key) (channel : Nat) (target : PT) (s : State) : ActionQueue :=
  let time := placed s.clock.pt target (ptUnits (s.tables.cal[k]).repGap)
  let wasOpen := (s.queue.intake[k]).isOpen
  { s.queue with
    actions :=
      if wasOpen then
        insertAction s.clock.pt ⟨time, s.queue.nextOrder, .release k channel true⟩
          (s.queue.actions.map (giveRelease k time))
      else s.queue.actions
    intake := s.queue.intake.set k.val ⟨true, some target⟩ k.isLt
    nextOrder := if wasOpen then s.queue.nextOrder + 1 else s.queue.nextOrder }

/-- The opening of a key and a wake of the rail pass by one another. -/
theorem openKey_wake (k : Key) (s : State) : openKey k (wake s) = wake (openKey k s) := by
  by_cases h : s.rail.state = .parked <;> simp [openKey, setIntake, wake, h]

/-- A key opened keeps the target it has just taken (R61, R64). -/
theorem openKey_takeTarget (k : Key) (target : PT) (s : State) :
    openKey k (takeTarget k target s) =
      { s with queue := { s.queue with intake := s.queue.intake.set k.val ⟨true, some target⟩ k.isLt } } := by
  simp [openKey, takeTarget, setIntake]

/-- The first effect of an admitted Note-On (R64, R65): its queue, and a wake when a Release entered it. -/
theorem admitKey_takeTarget (k : Key) (channel : Nat) (target : PT) (s : State) :
    admitKey k channel target (takeTarget k target s) =
      (if (s.queue.intake[k]).isOpen then wake else id) { s with queue := admittedQueue k channel target s } := by
  have hopen : ((takeTarget k target s).queue.intake[k]).isOpen = (s.queue.intake[k]).isOpen := by
    simp [takeTarget, setIntake]
  unfold admitKey
  rw [hopen]
  cases h : (s.queue.intake[k]).isOpen with
  | false => simp only [admittedQueue, h, Bool.false_eq_true, if_false, id, openKey_takeTarget]
  | true =>
    simp only [admittedQueue, h, if_true, implicitRelease, enqueue, openKey_wake]
    simp [openKey, takeTarget, setIntake, noteRelease]

/-- A strike admitted enters the queue behind what its Note-On has left there (R64, R65, R72). -/
theorem enqueue_admitted (k : Key) (channel : Nat) (target time : PT) (st : Strike) (s : State) :
    enqueue time (.strike st none) (admitKey k channel target (takeTarget k target s)) =
      let q := admittedQueue k channel target s
      wake
        { s with
          queue :=
            { q with
              actions := insertAction s.clock.pt ⟨time, q.nextOrder, .strike st none⟩ q.actions
              nextOrder := q.nextOrder + 1 } } := by
  rw [admitKey_takeTarget]
  cases (s.queue.intake[k]).isOpen
  · rfl
  · exact enqueue_wake time _ _

/-- The room the queue has for an event is what its free count covers (R69). -/
theorem hasRoom_iff {s : State} (hb : QueueBounded s) (need : Nat) :
    hasRoom need s.queue = true ↔ need ≤ 512 - s.queue.actions.length - openKeys s.queue := by
  unfold QueueBounded queueSize at hb
  rw [hasRoom, decide_eq_true_iff, queueSize]
  omega

/-- The taking of a target leaves the room of the queue (R61, R69). -/
theorem hasRoom_takeTarget (need : Nat) (k : Key) (target : PT) (s : State) :
    hasRoom need (takeTarget k target s).queue = hasRoom need s.queue := by
  have hopen : openKeys (takeTarget k target s).queue = openKeys s.queue :=
    Nat.add_right_cancel (openKeys_set s.queue k { s.queue.intake[k] with last := some target })
  simp only [hasRoom, hopen]
  rfl

/-- The free entries a judgement needs (R64, R66, R69). -/
def entriesNeeded (judgement : Judgement) : Nat := if judgement = .missed then 1 else 2

/-- With room, a Missed Note-On is reported and any other is queued, a Late one at now (R64, R66, R69). -/
theorem admitStrike_room {st : Strike} {judgement : Judgement} {target : PT} {s : State}
    (h : hasRoom (entriesNeeded judgement) s.queue = true) :
    admitStrike st judgement target s =
      if judgement = .missed then addReport (missedAtIntake st) (admitKey st.key st.channel target s)
      else if judgement = .late then
        enqueue s.clock.pt (.strike { st with late := true } none) (admitKey st.key st.channel target s)
      else enqueue st.planned (.strike st none) (admitKey st.key st.channel target s) := by
  cases judgement <;> exact if_pos h

/-- Without room a Note-On is refused, with the marks of its judgement (R66, R70). -/
theorem admitStrike_noRoom {st : Strike} {judgement : Judgement} {target : PT} {s : State} (hl : st.late = false)
    (h : hasRoom (entriesNeeded judgement) s.queue = false) :
    admitStrike st judgement target s =
      refuseForRoom { st with late := decide (judgement = .late) } (decide (judgement = .missed)) s := by
  have hst : { st with late := false } = st := by rw [← hl]
  have hfull : ¬hasRoom (entriesNeeded judgement) s.queue = true := by simp [h]
  cases judgement with
  | normal => exact (if_neg hfull).trans (by rw [← hst]; rfl)
  | late => exact if_neg hfull
  | missed => exact (if_neg hfull).trans (by rw [← hst]; rfl)

/-- Settles O28: by its judgement and the room, a Note-On is queued, reported Missed or refused. -/
theorem noteOnsAreAdmitted : Obligations.NoteOnsAreAdmitted := by
  refine ⟨noteOnFields?_bytes, giveRelease_cases, ?_⟩
  intro s tag p f k hf hp hfields hk hr hch hrole hlast r pt channel st wasOpen judgement free need e n release ended next
    strike records admitted refused taken hb
  have hadmit : intakeNoteOn f e = admitStrike st judgement f.target (takeTarget k f.target e) :=
    (intakeNoteOn_unmasked (s := e) hk hr (masked_eq_false hch hrole)).trans
      (intakeStrike_inOrder channel (outOfOrder_eq_false hlast))
  have htaken : ∀ e', admitStrike st judgement f.target (takeTarget k f.target e) = e' → taken e' := by
    rintro _ rfl
    exact ⟨hadmit, hadmit ▸ exec_noteOn_taken hf hp hfields, dueNow_after⟩
  have hroom : hasRoom (entriesNeeded judgement) (takeTarget k f.target e).queue = true ↔ need ≤ free := by
    rw [hasRoom_takeTarget]
    exact hasRoom_iff hb _
  constructor
  · intro hfree
    apply htaken
    rw [admitStrike_room (hroom.mpr hfree)]
    by_cases hm : judgement = .missed
    · simp only [admitted, if_pos hm]
      exact congrArg _ (admitKey_takeTarget k channel f.target e)
    · simp only [admitted, if_neg hm]
      by_cases hl : judgement = .late
      · simp only [strike, if_pos hl]
        exact enqueue_admitted k channel f.target pt _ e
      · simp only [strike, if_neg hl]
        exact enqueue_admitted k channel f.target st.planned st e
  · intro hfull
    exact htaken _ (admitStrike_noRoom rfl (Bool.eq_false_iff.mpr fun h => absurd (hroom.mp h) (by omega)))

end Sys2Proof.IntakeProofs
end

section
/-! PROOFS. The Rail Controller's waiting list (08): how a request and a wake enter it (R72, R142, R150), the order in which
its requests go (R140, R143), and when a pass-through frame goes (R153). -/

namespace Sys2Proof.RailListProofs

open Sys2Proof Sys2Proof.Machine

/-! ## Requests and wakes (R72, R142, R150) -/

theorem wake_parked {s : State} (h : s.rail.state = .parked) :
    wake s =
      { s with rail := { s.rail with state := .waking, waiting := s.rail.waiting ++ [⟨.unpark, s.localTime⟩] } } := if_pos h

theorem wake_notParked {s : State} (h : s.rail.state ≠ .parked) : wake s = s := if_neg h

/-- The state in which a request stands at the tail of the waiting list with its moment, before any wake (R142). -/
def requested (c : RailCmd) (s : State) : State :=
  { s with rail := { s.rail with waiting := s.rail.waiting ++ [⟨c, s.localTime⟩] } }

theorem requestRail_eq (c : RailCmd) (s : State) :
    requestRail c s = if wakesRail c = true then wake (requested c s) else requested c s := rfl

/-- The commands whose request wakes the rail (R150). -/
theorem wakesRail_iff (c : RailCmd) :
    wakesRail c = true ↔ (∃ k ch l, c = .push k ch l) ∨ (∃ k ch l, c = .hold k ch l) ∨ ∃ p, c = .pedalSet p := by
  cases c <;> simp [wakesRail]

/-- A request that does not wake the rail, or finds it not Parked, only enters the list (R142, R150). -/
theorem requestRail_noWake {c : RailCmd} {s : State} (h : s.rail.state ≠ .parked ∨ ¬wakesRail c = true) :
    requestRail c s = requested c s := by
  rw [requestRail_eq]
  by_cases hw : wakesRail c = true
  · rw [if_pos hw]
    exact wake_notParked (h.resolve_right (not_not_intro hw))
  · exact if_neg hw

/-! ## The order of the list (R140, R143) -/

/-- What the order of two requests looks at, in its order of weight: class, moment, and the rank among the requests of one
class and moment (R143). -/
def requestKey (q : Request) : ℕ ×ₗ ℕ ×ₗ ℕ := toLex (railClass q.cmd, toLex (q.time, railRank q.cmd))

/-- The order of requests is the lexicographic one of their keys (R143). -/
theorem goesBefore_iff (a b : Request) : goesBefore a b = true ↔ requestKey a < requestKey b := by
  simp [goesBefore, requestKey, Prod.Lex.toLex_lt_toLex]

theorem requestKey_le_iff (a b : Request) :
    requestKey a ≤ requestKey b ↔
      railClass a.cmd < railClass b.cmd ∨
        railClass a.cmd = railClass b.cmd ∧
          (a.time < b.time ∨ a.time = b.time ∧ railRank a.cmd ≤ railRank b.cmd) := by
  simp [requestKey, Prod.Lex.toLex_le_toLex]

/-- The first of two requests has the lesser key (R143). -/
theorem firstOf_some (b r : Request) :
    ∃ q, firstOf (some b) r = some q ∧ requestKey q ≤ requestKey b ∧ requestKey q ≤ requestKey r := by
  by_cases h : goesBefore r b = true
  · exact ⟨r, by simp [firstOf, h], ((goesBefore_iff r b).mp h).le, le_rfl⟩
  · exact ⟨b, by simp [firstOf, h], le_rfl, not_lt.mp (mt (goesBefore_iff r b).mpr h)⟩

/-- Of a list taken up with one request in hand, the first of all is left, none of lesser key (R143). -/
theorem foldl_firstOf_some (l : List Request) (b : Request) :
    ∃ q, l.foldl firstOf (some b) = some q ∧ requestKey q ≤ requestKey b ∧ ∀ o ∈ l, requestKey q ≤ requestKey o := by
  induction l generalizing b with
  | nil => exact ⟨b, rfl, le_rfl, by simp⟩
  | cons r l ih =>
    obtain ⟨first, hfirst, hb, hr⟩ := firstOf_some b r
    obtain ⟨q, hq, hqf, hql⟩ := ih first
    refine ⟨q, ?_, hqf.trans hb, List.forall_mem_cons.mpr ⟨hqf.trans hr, hql⟩⟩
    rw [List.foldl_cons, hfirst, hq]

/-- Of a list with nothing in hand, the first of all is left; nothing of an empty one (R143). -/
theorem foldl_firstOf_none (l : List Request) :
    (l.foldl firstOf none = none ↔ l = []) ∧
      ∀ q, l.foldl firstOf none = some q → ∀ o ∈ l, requestKey q ≤ requestKey o := by
  cases l with
  | nil => simp
  | cons r l =>
    obtain ⟨q, hq, hqr, hql⟩ := foldl_firstOf_some l r
    have hfold : (r :: l).foldl firstOf none = some q := hq
    rw [hfold]
    refine ⟨by simp, ?_⟩
    rintro _ ⟨⟩
    exact List.forall_mem_cons.mpr ⟨hqr, hql⟩

/-- No request goes when the rail state lets none of the list go (R143). -/
theorem nextRequest_none_iff (r : Rail) : nextRequest r = none ↔ ∀ q ∈ r.waiting, ¬mayGo r.state q.cmd = true := by
  rw [nextRequest, (foldl_firstOf_none _).1, List.filter_eq_nil_iff]

/-- The request taken next waits, the rail state lets it go, and none that it lets go is before it (R143). -/
theorem nextRequest_some {r : Rail} {q : Request} (h : nextRequest r = some q) :
    q ∈ r.waiting ∧ mayGo r.state q.cmd = true ∧
      ∀ o ∈ r.waiting, mayGo r.state o.cmd = true → requestKey q ≤ requestKey o := by
  obtain ⟨hwaits, hgoes⟩ := List.mem_filter.mp ((firstOf_mem _ _ _ h).resolve_right (by simp))
  exact ⟨hwaits, hgoes,
    fun o ho hgo => (foldl_firstOf_none _).2 q h o (List.mem_filter.mpr ⟨ho, hgo⟩)⟩

/-- A Parked rail lets go what needs no wake (R143). -/
theorem mayGo_parked (c : RailCmd) :
    mayGo .parked c = true ↔
      (∃ a b, c = .releaseAll a b) ∨ c = .unpark ∨ (∃ k ch, c = .release k ch) ∨ ∃ p, c = .passThrough p := by
  cases c <;> simp [mayGo]

theorem mayGo_waking (c : RailCmd) : mayGo .waking c = true ↔ (∃ a b, c = .releaseAll a b) ∨ c = .unpark := by
  cases c <;> simp [mayGo]

/-- A Faulted rail lets go the Release All of the recovery alone (R143, R157). -/
theorem mayGo_faulted (c : RailCmd) : mayGo .faulted c = true ↔ ∃ restart, c = .releaseAll true restart := by
  cases c <;> simp [mayGo]

/-! ## Pass-through frames (R153) -/

theorem slotFree_iff (r : Rail) : slotFree r = true ↔ r.tx = none ∧ r.inFlight.length < 4 := by
  simp [slotFree]

/-- With a frame on RLOUT, or four commands in flight, nothing is taken (R143). -/
theorem railServiceAt_busy {start : Nat} {s : State} (h : ¬slotFree s.rail = true) : railServiceAt start s = s :=
  if_neg h

/-- With a slot free and no request to go, a pass-through frame is looked at (R153). -/
theorem railServiceAt_noRequest {start : Nat} {s : State} (hf : slotFree s.rail = true) (hn : nextRequest s.rail = none) :
    railServiceAt start s = takePassThrough start s := by
  simp [railServiceAt, railTake, hf, hn]

/-- A pass-through frame may go in Active, Parked and Off (R143, R153). -/
theorem mayGo_passThrough (rs : RailState) (p : List Byte) :
    mayGo rs (.passThrough p) = true ↔ rs = .active ∨ rs = .off ∨ rs = .parked := by
  cases rs <;> simp [mayGo]

theorem takePassThrough_none {start : Nat} {s : State}
    (h : s.rail.passQueue = [] ∨ s.rail.state = .waking ∨ s.rail.state = .faulted) : takePassThrough start s = s := by
  unfold takePassThrough
  split
  · rfl
  · next p rest hq =>
    refine if_neg fun hgo => ?_
    rw [mayGo_passThrough] at hgo
    simp only [hq, List.cons_ne_nil, false_or] at h
    rcases h with h | h <;> simp [h] at hgo

theorem takePassThrough_sent {start : Nat} {s : State} {p : List Byte} {rest : List (List Byte)}
    (hq : s.rail.passQueue = p :: rest) (h : s.rail.state = .active ∨ s.rail.state = .off ∨ s.rail.state = .parked) :
    takePassThrough start s = sendPassThrough start p rest s := by
  simp [takePassThrough, hq, (mayGo_passThrough _ p).mpr h]

/-- Settles O55: the requests and wakes, the order as that of keys, and the pass-through frames behind the list. -/
theorem railTakesInOrder : Obligations.RailTakesInOrder := by
  unfold Obligations.RailTakesInOrder
  intro cls rank goes
  have hcls : ∀ c, cls c = railClass c := fun c => by cases c <;> rfl
  have hrank : ∀ c, rank c = railRank c := fun c => by
    cases c with
    | pedalSet p => simp only [rank, railRank, pedalNo]; omega
    | _ => rfl
  have hgoes : ∀ rs c, goes rs c ↔ mayGo rs c = true := fun rs c => by
    cases rs with
    | active => exact iff_of_true trivial rfl
    | off => exact iff_of_true trivial rfl
    | parked => exact (mayGo_parked c).symm
    | waking => exact (mayGo_waking c).symm
    | faulted => exact (mayGo_faulted c).symm
  refine ⟨fun s c => ⟨?_, ?_, wake_parked, wake_notParked⟩, fun r => ⟨?_, fun q hq => ?_⟩, fun start s => ⟨?_, ?_⟩⟩
  · intro hp hw
    rw [requestRail_eq, if_pos ((wakesRail_iff c).mpr hw)]
    exact wake_parked hp
  · intro h
    exact requestRail_noWake (h.imp_right (mt (wakesRail_iff c).mp))
  · simp only [hgoes]
    exact nextRequest_none_iff r
  · obtain ⟨hmem, hgo, hfirst⟩ := nextRequest_some hq
    simp only [hgoes, hcls, hrank, ← requestKey_le_iff]
    exact ⟨hmem, hgo, hfirst⟩
  · intro h
    refine railServiceAt_busy fun hf => ?_
    obtain ⟨htx, hlen⟩ := (slotFree_iff s.rail).mp hf
    rcases h with h | h
    · simp [htx] at h
    · omega
  · intro ht hl hn
    rw [railServiceAt_noRequest ((slotFree_iff s.rail).mpr ⟨ht, hl⟩) hn]
    exact ⟨takePassThrough_none, fun p rest hq h => takePassThrough_sent hq h⟩

end Sys2Proof.RailListProofs
end

section
/-! PROOFS. The laws of the stores and of the requests at the rail (R87, R100, R101, R104, R105, R132, R142, R145, R153, R155,
R179): the relations between the states before and after an operation in which they are proved, and the shared operations. -/

namespace Sys2Proof.LawProofs

open Sys2Proof Sys2Proof.Machine Sys2Proof.TableProofs Sys2Proof.RailListProofs

/-! ## The relations -/

/-- The frame on RLOUT with the moment it began (R144). -/
def onLine (s : State) : Option (Frame × Nat) := s.rail.tx.map fun t => (t.frame, t.start)

/-- The bounds of the stores are kept, each by itself, and the laws of a run in flight. -/
structure Bounds (s t : State) : Prop where
  reports : ReportsBounded s → ReportsBounded t
  rail : RailBounded s → RailBounded t
  releaseAll : OneReleaseAll s → OneReleaseAll t
  capture : CaptureBounded s → CaptureBounded t
  responses : ResponsesBounded s → ResponsesBounded t
  run : RunOnlyStopped s → RunOnlyStopped t
  probe : ProbeDriven s ∧ RunOnlyStopped s → ProbeDriven t

/-- A Response that had room has it still, and no Push begins on RLOUT besides (R101, R179). -/
structure Sound (s t : State) : Prop extends Bounds s t where
  room : s.link.responses.length < 16 → t.link.responses.length < 16
  line : ∀ f n, onLine t = some (f, n) → onLine s = some (f, n) ∨ f.kind ≠ 0x61

/-- The PedalSets stay owned besides (R105, R106). -/
structure Steady (s t : State) : Prop extends Sound s t where
  pedals : PedalRequests s → PedalRequests t

/-- The Pushes stay owned besides: what every operation short of the sending of a Push keeps. -/
structure Keeps (s t : State) : Prop extends Steady s t where
  pushes : PushesOwned s ∧ RunOnlyStopped s → PushesOwned t

theorem Bounds.trans {s t u : State} (h : Bounds s t) (h' : Bounds t u) : Bounds s u where
  reports := h'.reports ∘ h.reports
  rail := h'.rail ∘ h.rail
  releaseAll := h'.releaseAll ∘ h.releaseAll
  capture := h'.capture ∘ h.capture
  responses := h'.responses ∘ h.responses
  run := h'.run ∘ h.run
  probe hs := h'.probe ⟨h.probe hs, h.run hs.2⟩

theorem Sound.trans {s t u : State} (h : Sound s t) (h' : Sound t u) : Sound s u where
  toBounds := h.toBounds.trans h'.toBounds
  room := h'.room ∘ h.room
  line f n hu := (h'.line f n hu).elim (h.line f n) .inr

theorem Steady.trans {s t u : State} (h : Steady s t) (h' : Steady t u) : Steady s u where
  toSound := h.toSound.trans h'.toSound
  pedals := h'.pedals ∘ h.pedals

theorem Keeps.trans {s t u : State} (h : Keeps s t) (h' : Keeps t u) : Keeps s u where
  toSteady := h.toSteady.trans h'.toSteady
  pushes hs := h'.pushes ⟨h.pushes hs, h.run hs.2⟩

theorem Keeps.refl (s : State) : Keeps s s where
  reports := id
  rail := id
  releaseAll := id
  capture := id
  responses := id
  room := id
  run := id
  probe := And.left
  line _ _ := .inl
  pedals := id
  pushes := And.left

theorem Keeps.ite {s t u : State} {c : Prop} [Decidable c] (ht : c → Keeps s t) (hu : ¬c → Keeps s u) :
    Keeps s (if c then t else u) := by
  split
  · next h => exact ht h
  · next h => exact hu h

/-- The same operation for each key, pedal or report in turn. -/
theorem Keeps.foldl {α : Type} {f : State → α → State} (h : ∀ s a, Keeps s (f s a)) (l : List α) (s : State) :
    Keeps s (l.foldl f s) :=
  List.foldlRecOn l f (Keeps.refl s) fun b hb a _ => hb.trans (h b a)

/-! ## What the laws do not speak of -/

/-- All that the laws speak of. -/
structure Vital where
  part : PartState
  reports : Nat
  drive : Vector DriveContext 88
  replay : Vector PedalReplay 3
  capture : Vector CaptureContext 88
  captured : Nat
  run : Option CalContext
  waiting : List Request
  inFlight : Nat
  passQueue : Nat
  replies : Nat
  line : Option (Frame × Nat)
  responses : List Response
  tableRead : Option TableRead

/-- That part of a state. -/
def vital (s : State) : Vital :=
  ⟨s.clock.part, s.reports.length, s.drive, s.replay, s.capture, s.captureFifo.length, s.run, s.rail.waiting,
    s.rail.inFlight.length, s.rail.passQueue.length, s.rail.replies.length, onLine s, s.link.responses, s.tableRead⟩

/-- An operation that changes nothing of it keeps the laws. -/
theorem keeps_of_vital {s t : State} (h : vital t = vital s) : Keeps s t := by
  simp only [vital, Vital.mk.injEq] at h
  obtain ⟨hpart, hreports, hdrive, hreplay, hcapture, hfifo, hrun, hwaiting, hflight, hpass, hreplies, hline, hresp,
    hread⟩ := h
  have hperf : inPerformance t = inPerformance s := inPerformance_congr hpart
  refine
    { reports := fun hs => ?_, rail := fun hs => ?_, releaseAll := fun hs => ?_, capture := fun hs => ?_
      responses := fun hs => ?_, run := fun hs => ?_, probe := fun hs => ?_, room := fun hs => ?_
      line := fun f n hl => .inl (hline ▸ hl), pedals := fun hs => ?_, pushes := fun hs => ?_ }
  · unfold ReportsBounded; rwa [hreports]
  · unfold RailBounded; rwa [hflight, hpass, hreplies]
  · unfold OneReleaseAll; rwa [hwaiting]
  · unfold CaptureBounded announcedKeys; rwa [hfifo, hcapture]
  · unfold ResponsesBounded; rwa [hresp, hread]
  · unfold RunOnlyStopped; rwa [hrun, hpart]
  · unfold ProbeDriven; rw [hrun, hdrive]; exact hs.1
  · rwa [hresp]
  · unfold PedalRequests; rwa [hwaiting, hreplay]
  · unfold PushesOwned PushOwned; rw [hwaiting, hdrive, hperf, hpart]; exact hs.1

theorem reloadPark_keeps (s : State) : Keeps s (reloadPark s) := keeps_of_vital rfl

/-! ## Reports (R100) -/

theorem addReport_keeps (r : Report) (s : State) : Keeps s (addReport r s) := by
  unfold addReport
  split
  · next hlt =>
    exact { Keeps.refl s with reports := fun _ => by simpa [ReportsBounded] using hlt }
  · exact
      { Keeps.refl s with
        reports := fun hs => by
          simp only [ReportsBounded, List.length_append, List.length_drop, List.length_singleton] at hs ⊢
          omega }

theorem addReports_keeps (rs : List Report) (s : State) : Keeps s (addReports rs s) :=
  Keeps.foldl (fun s r => addReport_keeps r s) rs s

/-! ## Requests at the rail (R142) -/

/-- A command that no context owns at the waiting list and that no bound counts: neither Push, PedalSet nor Release All. -/
def unowned (c : RailCmd) : Bool :=
  match c with
  | .push _ _ _ => false
  | .pedalSet _ => false
  | .releaseAll _ _ => false
  | _ => true

theorem unowned_iff (c : RailCmd) :
    unowned c = true ↔ (∀ k, isPushOf k c = false) ∧ (∀ p, c ≠ .pedalSet p) ∧ isReleaseAll c = false := by
  cases c <;> simp [unowned, isPushOf, isReleaseAll]

theorem pushOwned_of_not_push {s : State} {c : RailCmd} (h : ∀ k, isPushOf k c = false) : PushOwned s c := by
  cases c with
  | push k _ _ => simpa [isPushOf] using h k
  | _ => trivial

/-- The PedalSets of a pedal in a list of requests (R105). -/
abbrev pedalSets (p : Pedal) (l : List Request) : Nat := (l.filter fun r => decide (r.cmd = .pedalSet p)).length

theorem requested_keeps {c : RailCmd} (h : unowned c = true) (s : State) : Keeps s (requested c s) := by
  obtain ⟨hpush, hpedal, hall⟩ := (unowned_iff c).mp h
  exact
    { Keeps.refl s with
      releaseAll := fun hs => by simpa [OneReleaseAll, requested, hall] using hs
      pedals := fun hs p =>
        (show pedalSets p (s.rail.waiting ++ [⟨c, s.localTime⟩]) = pedalSets p s.rail.waiting by
          simp [pedalSets, hpedal p]).trans (hs p)
      pushes := fun ⟨⟨howned, hone⟩, _⟩ => by
        refine ⟨fun r hr => ?_, fun k => by simpa [requested, hpush k] using hone k⟩
        rcases List.mem_append.mp hr with hr | hr
        · exact howned r hr
        · rw [List.mem_singleton.mp hr]
          exact pushOwned_of_not_push hpush }

theorem wake_keeps (s : State) : Keeps s (wake s) := by
  by_cases h : s.rail.state = .parked
  · rw [wake_parked h]
    exact (requested_keeps (c := .unpark) rfl s).trans (keeps_of_vital rfl)
  · rw [wake_notParked h]
    exact .refl s

/-- What a request does beyond its place at the tail of the list: it may wake the rail (R150). -/
theorem requestRail_woken (c : RailCmd) (s : State) : Keeps (requested c s) (requestRail c s) := by
  rw [requestRail_eq]
  exact .ite (fun _ => wake_keeps _) fun _ => .refl _

theorem requestRail_keeps {c : RailCmd} (h : unowned c = true) (s : State) : Keeps s (requestRail c s) :=
  (requested_keeps h s).trans (requestRail_woken c s)

/-- The state with another waiting list. -/
def withWaiting (l : List Request) (s : State) : State := { s with rail := { s.rail with waiting := l } }

theorem pushesOwned_of_sublist {s : State} {l : List Request} (h : l.Sublist s.rail.waiting) (hs : PushesOwned s) :
    PushesOwned (withWaiting l s) :=
  ⟨fun r hr => hs.1 r (h.subset hr), fun k => ((h.filter _).length_le).trans (hs.2 k)⟩

/-- Requests other than PedalSets leave the list (R142). -/
theorem withWaiting_keeps {s : State} {l : List Request} (h : l.Sublist s.rail.waiting)
    (hp : ∀ p : Pedal, pedalSets p l = pedalSets p s.rail.waiting) : Keeps s (withWaiting l s) :=
  { Keeps.refl s with
    releaseAll := fun hs => ((h.filter _).length_le).trans hs
    pedals := fun hs p => (hp p).trans (hs p)
    pushes := fun hs => pushesOwned_of_sublist h hs.1 }

theorem withdraw_keeps {which : RailCmd → Bool} (h : ∀ p, which (.pedalSet p) = false) (s : State) :
    Keeps s (withdraw which s) := by
  refine withWaiting_keeps List.filter_sublist fun p => ?_
  rw [pedalSets, List.filter_filter]
  congr 1
  refine List.filter_congr fun r _ => ?_
  by_cases hr : r.cmd = .pedalSet p <;> simp [hr, h]

theorem pedalSets_erase (p : Pedal) (q : Request) (l : List Request) :
    pedalSets p (l.erase q) = pedalSets p l - if q ∈ l ∧ decide (q.cmd = .pedalSet p) = true then 1 else 0 := by
  rw [pedalSets, pedalSets, ← List.countP_eq_length_filter, ← List.countP_eq_length_filter, List.countP_erase]

/-- Another request than a PedalSet is taken out of the list (R144). -/
theorem erased_keeps {q : Request} (hq : ∀ p, q.cmd ≠ .pedalSet p) (s : State) :
    Keeps s (withWaiting (s.rail.waiting.erase q) s) := by
  refine withWaiting_keeps List.erase_sublist fun p => ?_
  rw [pedalSets_erase]
  simp [hq p]

/-- A Release All merged with one that waits leaves all else of the list (R142). -/
theorem mergeReleaseAll_same (a b : Bool) (r : Request) :
    isReleaseAll (mergeReleaseAll a b r).cmd = isReleaseAll r.cmd ∧
      (∀ p, (mergeReleaseAll a b r).cmd = .pedalSet p ↔ r.cmd = .pedalSet p) ∧
      (∀ k, isPushOf k (mergeReleaseAll a b r).cmd = isPushOf k r.cmd) ∧
      ∀ s, PushOwned s r.cmd → PushOwned s (mergeReleaseAll a b r).cmd := by
  obtain ⟨cmd, time⟩ := r
  cases cmd <;> simp [mergeReleaseAll, isReleaseAll, isPushOf]

theorem requestReleaseAll_keeps (a b : Bool) (s : State) : Keeps s (requestReleaseAll a b s) := by
  unfold requestReleaseAll
  split
  · exact
      { Keeps.refl s with
        releaseAll := fun hs => by
          simpa [OneReleaseAll, List.filter_map, Function.comp_def, (mergeReleaseAll_same a b _).1] using hs
        pedals := fun hs p => by
          simpa [List.filter_map, Function.comp_def, (mergeReleaseAll_same a b _).2.1 p] using hs p
        pushes := fun ⟨⟨howned, hone⟩, _⟩ => by
          refine ⟨fun r hr => ?_, fun k => ?_⟩
          · obtain ⟨q, hq, rfl⟩ := List.mem_map.mp hr
            exact (mergeReleaseAll_same a b q).2.2.2 s (howned q hq)
          · simpa [List.filter_map, Function.comp_def, (mergeReleaseAll_same a b _).2.2.1 k] using hone k }
  · next h =>
    have hnone : (s.rail.waiting.filter fun r => isReleaseAll r.cmd) = [] := by
      simpa [List.filter_eq_nil_iff] using h
    exact
      { Keeps.refl s with
        releaseAll := fun _ => by
          rw [OneReleaseAll, List.filter_append, hnone]
          exact List.length_filter_le _ _
        pedals := fun hs p => by simpa using hs p
        pushes := fun ⟨⟨howned, hone⟩, _⟩ => by
          refine ⟨fun r hr => ?_, fun k => by simpa [isPushOf] using hone k⟩
          rcases List.mem_append.mp hr with hr | hr
          · exact howned r hr
          · rw [List.mem_singleton.mp hr]
            trivial }

/-- The in-flight list emptied, the frame on RLOUT completed (R148). -/
theorem clearInFlight_keeps (s : State) : Keeps s { s with rail := clearInFlight s.rail } where
  toSteady :=
    { Keeps.refl s with
      rail := fun ⟨_, hpass, hreplies⟩ => ⟨by simp [clearInFlight], hpass, hreplies⟩
      line := fun f n h => .inl (by simpa [onLine, clearInFlight, Option.map_map, Function.comp_def] using h) }
  pushes := And.left

theorem releaseEverything_keeps (restart : Bool) (s : State) : Keeps s (releaseEverything restart s) :=
  .ite (fun _ => (clearInFlight_keeps s).trans (requestReleaseAll_keeps _ _ _)) fun _ => requestReleaseAll_keeps _ _ s

/-! ## Drive contexts and the run -/

/-- A context in which a Push waits (R87). -/
abbrev PushWaits (d : DriveContext) : Prop := d.state = .pushing ∧ d.stage = .waiting

/-- A context that begins no push: it drives on what it drove, or no Push of it waits and it is not Pushing after. -/
def NoNewPush (d d' : DriveContext) : Prop :=
  d'.state = d.state ∧ d'.stage = d.stage ∧ d'.job = d.job ∨ ¬PushWaits d ∧ d'.state ≠ .pushing

theorem NoNewPush.refl (d : DriveContext) : NoNewPush d d := .inl ⟨rfl, rfl, rfl⟩

/-- A context that is Pushing after as before, with what it drove, or not Pushing: the run's law is kept (R104). -/
theorem withDrive_steady {s : State} {v : Vector DriveContext 88}
    (h : ∀ k : Key, (v[k]).state = .pushing → (s.drive[k]).state = .pushing ∧ (v[k]).job = (s.drive[k]).job) :
    Steady s { s with drive := v } :=
  { Keeps.refl s with
    probe := fun hs c hc hp ht hd => by
      obtain ⟨hpushing, hjob⟩ := h c.current hd
      have := hs.1 c hc hp ht hpushing
      unfold drivesProbe at this ⊢
      rwa [hjob] }

theorem NoNewPush.pushing {d d' : DriveContext} (h : NoNewPush d d') (hd : d'.state = .pushing) :
    d.state = .pushing ∧ d'.job = d.job := by
  rcases h with ⟨hstate, _, hjob⟩ | ⟨_, hne⟩
  · exact ⟨hstate ▸ hd, hjob⟩
  · exact absurd hd hne

theorem withDrive_keeps {s : State} {v : Vector DriveContext 88} (h : ∀ k : Key, NoNewPush s.drive[k] v[k]) :
    Keeps s { s with drive := v } where
  toSteady := withDrive_steady fun k => (h k).pushing
  pushes := fun ⟨⟨howned, hone⟩, _⟩ => by
    refine ⟨fun r hr => ?_, hone⟩
    have hr := howned r hr
    cases hc : r.cmd with
    | push k channel level =>
      rw [hc] at hr
      obtain ⟨hstate, hstage, hpart⟩ := hr
      obtain ⟨hstate', hstage', hjob'⟩ := (h k).resolve_right fun hn => hn.1 ⟨hstate, hstage⟩
      exact ⟨hstate'.trans hstate, hstage'.trans hstage, hpart.imp_right fun hp => ⟨hp.1, hjob'.trans hp.2⟩⟩
    | _ => trivial

theorem setDrive_keeps {k : Key} {d : DriveContext} {s : State} (h : NoNewPush s.drive[k] d) :
    Keeps s (setDrive k d s) := by
  refine withDrive_keeps fun j => ?_
  have hj := setDrive_get k d s j
  simp only [setDrive] at hj
  rw [hj]
  split
  · next hjk => rw [hjk]; exact h
  · exact .refl _

/-- A run in flight written in another phase, or with its request not taken (R159). -/
theorem withRun_keeps {s : State} {c : CalContext} (hp : RunOnlyStopped s → s.clock.part = .stopped)
    (h : c.phase ≠ .probing ∨ c.taken = false) : Keeps s { s with run := some c } :=
  { Keeps.refl s with
    run := fun hs _ => hp hs
    probe := fun _ c' hc hphase ht => by
      cases hc
      rcases h with h | h
      · exact absurd hphase h
      · rw [h] at ht; cases ht }

theorem withoutRun_keeps (s : State) : Keeps s { s with run := none } :=
  { Keeps.refl s with run := fun _ h => (by simp at h), probe := fun _ c hc => (by simp at hc) }

/-! ## Captured events and announced keys (R132) -/

theorem announcedKeys_eq_countP (s : State) : announcedKeys s = s.capture.countP (·.announced) := by
  rw [announcedKeys, ← List.countP_eq_length_filter, Vector.countP_toList]

/-- The announced keys after one context was written. -/
theorem announcedKeys_setCapture (k : Key) (c : CaptureContext) (s : State) :
    announcedKeys (setCapture k c s) + (s.capture[k]).announced.toNat = announcedKeys s + c.announced.toNat := by
  have hpos : (s.capture[k]).announced = true → 0 < s.capture.countP (·.announced) := fun h =>
    Vector.countP_pos_iff.mpr ⟨_, Vector.getElem_mem k.isLt, h⟩
  rw [announcedKeys_eq_countP, announcedKeys_eq_countP, setCapture_capture, Vector.countP_set]
  have toNat_ite (b : Bool) : b.toNat = if b = true then 1 else 0 := by cases b <;> rfl
  rw [toNat_ite, toNat_ite]
  simp only [Fin.getElem_fin] at hpos ⊢
  split
  · next h => have := hpos h; omega
  · omega

/-- What changes the captured events and the announced keys alone keeps all but their bound, which it must keep itself. -/
theorem keeps_of_capture {s t : State} (h : vital t = { vital s with capture := t.capture, captured := t.captureFifo.length })
    (hc : CaptureBounded s → CaptureBounded t) : Keeps s t := by
  have hu : Keeps s { s with capture := t.capture, captureFifo := t.captureFifo } := { Keeps.refl s with capture := hc }
  exact hu.trans (keeps_of_vital h)

theorem setCapture_keeps {k : Key} {c : CaptureContext} {s : State}
    (h : c.announced = false ∨ c.announced = (s.capture[k]).announced) : Keeps s (setCapture k c s) := by
  refine keeps_of_capture rfl fun hs => ?_
  have hset := announcedKeys_setCapture k c s
  have hle : c.announced.toNat ≤ (s.capture[k]).announced.toNat := by
    rcases h with h | h <;> simp [h]
  simp only [CaptureBounded, setCapture_captureFifo] at hs ⊢
  omega

theorem restNotice_keeps (k : Key) (s : State) : Keeps s (restNotice k s) := setCapture_keeps (.inl rfl)

/-- A key that is announced gives the entry it holds to its Note-Off (R124, R131, R132). -/
theorem closedKey_keeps {k : Key} {c : CaptureContext} {s : State} (e : CaptureEvent) (hc : c.announced = false)
    (h : (s.capture[k]).announced = true) : Keeps s (queueEvent e (setCapture k c s)) := by
  refine keeps_of_capture rfl fun hs => ?_
  have hset := announcedKeys_setCapture k c s
  simp only [h, hc, Bool.toNat_true, Bool.toNat_false] at hset
  have hq : announcedKeys (queueEvent e (setCapture k c s)) = announcedKeys (setCapture k c s) := rfl
  simp only [CaptureBounded, hq, queueEvent_captureFifo, List.length_append, List.length_singleton,
    setCapture_captureFifo] at hs ⊢
  omega

theorem driveNotice_keeps (k : Key) (s : State) : Keeps s (driveNotice k s) :=
  .ite (fun h => closedKey_keeps _ rfl h) fun _ => restNotice_keeps k s

/-- The keys announced, counted over the keys. -/
theorem announcedKeys_eq (s : State) :
    announcedKeys s = ((List.finRange 88).filter fun k => (s.capture[k]).announced).length := by
  have hl : s.capture.toList = (List.finRange 88).map fun k => s.capture[k] := by
    apply List.ext_getElem <;> simp
  rw [announcedKeys, hl, List.filter_map, List.length_map]
  rfl

theorem closingEvents_length (cause : ClosingCause) (s : State) : (closingEvents cause s).length = announcedKeys s := by
  rw [closingEvents, List.length_map, announcedKeys_eq]
  rfl

/-- The closure of every announced key uses the entries they hold (R132, R137, R138). -/
theorem closure_keeps (cause : ClosingCause) {s : State} {v : Vector CaptureContext 88} (h : ∀ c ∈ v, c.announced = false) :
    Keeps s { s with captureFifo := s.captureFifo ++ closingEvents cause s, capture := v } := by
  refine keeps_of_capture rfl fun hs => ?_
  have hnone : announcedKeys { s with captureFifo := s.captureFifo ++ closingEvents cause s, capture := v } = 0 := by
    rw [announcedKeys_eq_countP]
    exact Vector.countP_eq_zero.mpr fun c hc => by simp [h c hc]
  simp only [CaptureBounded, hnone, List.length_append, closingEvents_length] at hs ⊢
  omega

theorem closeAnnounced_keeps (cause : ClosingCause) (s : State) : Keeps s (closeAnnounced cause s) := by
  refine closure_keeps cause fun c hc => ?_
  obtain ⟨d, _, rfl⟩ := Vector.mem_map.mp hc
  rfl

theorem captureLoss_keeps (s : State) : Keeps s (captureLoss s) := by
  refine closure_keeps .sensorLoss fun c hc => ?_
  rw [Vector.eq_of_mem_replicate hc]
  rfl

end Sys2Proof.LawProofs
end

section
/-! PROOFS. The operations of the Pedal Controller, the Key Drive Controller and the Calibration Unit keep the laws of the stores
and of the requests at the rail (R87, R91, R101, R104, R105, R106). -/

namespace Sys2Proof.LawProofs

open Sys2Proof Sys2Proof.Machine Sys2Proof.TableProofs Sys2Proof.StrikeProofs Sys2Proof.RailListProofs

/-! ## Pedals (R105 to R110) -/

theorem setReplay_keeps {p : Pedal} {c : PedalReplay} {s : State}
    (h : c.state = .requested ↔ (s.replay[p]).state = .requested) : Keeps s (setReplay p c s) :=
  { Keeps.refl s with
    pedals := fun hs q => by
      refine (hs q).trans (if_congr ?_ rfl rfl)
      rw [setReplay_get]
      split
      · next hq => rw [hq]; exact h.symm
      · exact Iff.rfl }

/-- A context with no PedalSet waiting becomes Requested with the one it requests (R105, R106). -/
theorem requestPedal_keeps {p : Pedal} {c : PedalReplay} {s : State} (hc : c.state = .requested)
    (h : (s.replay[p]).state ≠ .requested) : Keeps s (requestRail (.pedalSet p) (setReplay p c s)) := by
  have key : Keeps s (requested (.pedalSet p) (setReplay p c s)) :=
    { Keeps.refl s with
      releaseAll := fun hs => by simpa [OneReleaseAll, requested, isReleaseAll] using hs
      pedals := fun hs q => by
        change pedalSets q (s.rail.waiting ++ [⟨.pedalSet p, s.localTime⟩]) =
          if ((setReplay p c s).replay[q]).state = .requested then 1 else 0
        have hq : pedalSets q s.rail.waiting = _ := hs q
        rw [pedalSets, List.filter_append, List.length_append, ← pedalSets, hq, setReplay_get]
        by_cases hqp : q = p
        · subst hqp
          rw [if_neg h, if_pos rfl, if_pos hc]
          simp
        · simp [hqp, Ne.symm hqp]
      pushes := fun ⟨⟨howned, hone⟩, _⟩ => by
        refine ⟨fun r hr => ?_, fun k => by simpa [requested, isPushOf] using hone k⟩
        rcases List.mem_append.mp hr with hr | hr
        · exact howned r hr
        · rw [List.mem_singleton.mp hr]
          trivial }
  exact key.trans (requestRail_woken _ _)

theorem issuePosition_keeps {p : Pedal} {s : State} (n : Nat) (h : (s.replay[p]).state ≠ .requested) :
    Keeps s (issuePosition p n s) :=
  .ite (fun _ => requestPedal_keeps rfl h) fun _ => setReplay_keeps (iff_of_false (by simp) h)

theorem pedalAction_keeps (p : Pedal) (n : Nat) (s : State) : Keeps s (pedalAction p n s) := by
  unfold pedalAction
  split
  · next h => exact issuePosition_keeps n (h.trans_ne (by simp))
  · exact setReplay_keeps Iff.rfl
  · next h => exact setReplay_keeps (iff_of_false (by simp) (h.trans_ne (by simp)))
  · exact setReplay_keeps Iff.rfl

theorem endGap_keeps (p : Pedal) (s : State) : Keeps s (endGap p s) := by
  unfold endGap
  split
  · next h => exact setReplay_keeps (iff_of_false (by simp) (h.trans_ne (by simp)))
  · next h => exact issuePosition_keeps _ (h.trans_ne (by simp))
  · exact .refl s
  · exact .refl s

theorem endGapIfOver_keeps (p : Pedal) (s : State) : Keeps s (endGapIfOver p s) :=
  .ite (fun _ => endGap_keeps p s) fun _ => .refl s

theorem restingReplay_ne_requested (p : Pedal) (s : State) : restingReplay p s ≠ .requested := by
  unfold restingReplay
  split <;> simp

theorem pedalToRest_keeps (p : Pedal) (s : State) : Keeps s (pedalToRest p s) := by
  unfold pedalToRest
  split
  · exact setReplay_keeps Iff.rfl
  · next h =>
    refine .ite (fun _ => requestPedal_keeps rfl h) fun _ => setReplay_keeps ?_
    exact iff_of_false (restingReplay_ne_requested p s) h

theorem pedalsToRest_keeps (s : State) : Keeps s (pedalsToRest s) :=
  Keeps.foldl (fun s p => pedalToRest_keeps p s) allPedals s

/-! ## Pushes begun (R87, R104, R161) -/

/-- A context that is made Pushing with its Push at the tail of the list, and the run as it is then. -/
def pushBegun (k : Key) (channel level : Nat) (d : DriveContext) (r : Option CalContext) (s : State) : State :=
  { s with
    drive := s.drive.set k.val d k.isLt
    run := r
    rail := { s.rail with waiting := s.rail.waiting ++ [⟨.push k channel level, s.localTime⟩] } }

theorem pushBegun_get (k : Key) (channel level : Nat) (d : DriveContext) (r : Option CalContext) (s : State) (j : Key) :
    (pushBegun k channel level d r s).drive[j] = if j = k then d else s.drive[j] := setDrive_get k d s j

theorem not_pushWaits_of_state {d : DriveContext} {x : DriveState} (h : d.state = x) (hx : x ≠ .pushing) : ¬PushWaits d :=
  fun hd => hx (h.symm.trans hd.1)

theorem not_pushWaits_of_sent {d : DriveContext} (h : d.stage = .sent) : ¬PushWaits d := fun hd => by
  rw [hd.2] at h
  cases h

/-- No Push of a key waits whose context has none waiting (R87). -/
theorem noPush_of_owned {s : State} {k : Key} (hs : PushesOwned s) (h : ¬PushWaits s.drive[k]) :
    ∀ r ∈ s.rail.waiting, isPushOf k r.cmd = false := by
  intro r hr
  have howned := hs.1 r hr
  cases hc : r.cmd with
  | push j channel level =>
    rw [hc] at howned
    obtain ⟨hstate, hstage, _⟩ := howned
    refine decide_eq_false fun hjk => h ?_
    rw [← hjk]
    exact ⟨hstate, hstage⟩
  | _ => rfl

theorem pushBegun_keeps {k : Key} {channel level : Nat} {d : DriveContext} {r : Option CalContext} {s : State}
    (hwaits : ¬PushWaits s.drive[k]) (hd : PushWaits d)
    (hpart : RunOnlyStopped s →
      inPerformance s = true ∨ s.clock.part = .stopped ∧ d.job = some (.probe channel level))
    (hrun : RunOnlyStopped s → r.isSome → s.clock.part = .stopped)
    (hprobe : ProbeDriven s ∧ RunOnlyStopped s → ProbeDriven (pushBegun k channel level d r s)) :
    Keeps s (pushBegun k channel level d r s) :=
  { Keeps.refl s with
    releaseAll := fun hs => by simpa [OneReleaseAll, pushBegun, isReleaseAll] using hs
    run := hrun
    probe := hprobe
    pedals := fun hs p =>
      (show pedalSets p (s.rail.waiting ++ [⟨.push k channel level, s.localTime⟩]) = pedalSets p s.rail.waiting by
        simp [pedalSets]).trans (hs p)
    pushes := fun ⟨hs, hstopped⟩ => by
      have hnone := noPush_of_owned hs hwaits
      refine ⟨fun q hq => ?_, fun j => ?_⟩
      · rcases List.mem_append.mp hq with hq | hq
        · have howned := hs.1 q hq
          have hother := hnone q hq
          cases hc : q.cmd with
          | push j ch l =>
            rw [hc] at howned hother
            have hjk : j ≠ k := of_decide_eq_false hother
            show PushOwned _ (.push j ch l)
            unfold PushOwned
            simp only
            rw [pushBegun_get, if_neg hjk]
            exact howned
          | _ => trivial
        · rw [List.mem_singleton.mp hq]
          unfold PushOwned
          simp only
          rw [pushBegun_get, if_pos rfl]
          exact ⟨hd.1, hd.2, hpart hstopped⟩
      · change ((s.rail.waiting ++ [_]).filter _).length ≤ 1
        rw [List.filter_append]
        by_cases hjk : j = k
        · rw [hjk, List.filter_eq_nil_iff.mpr fun q hq => by simp [hnone q hq], List.nil_append]
          exact List.length_filter_le _ _
        · have : isPushOf j (.push k channel level) = false := decide_eq_false (Ne.symm hjk)
          simpa [this] using hs.2 j }

/-! ## A run and its probes (R104, R159 to R163) -/

/-- A run may be written: one in flight is there, or the part is Stopped (R158, R169). -/
def MayRun (s : State) : Prop := RunOnlyStopped s → s.clock.part = .stopped

theorem mayRun_of_run {s : State} {c : CalContext} (h : s.run = some c) : MayRun s := fun hs => hs (by simp [h])

theorem MayRun.of_eq {s t : State} (h : MayRun s) (hrun : t.run = s.run) (hpart : t.clock.part = s.clock.part) : MayRun t := by
  unfold MayRun RunOnlyStopped
  rw [hrun, hpart]
  exact h

theorem takeProbe_keeps {c : CalContext} {s : State} (hrun : MayRun s) (hi : (s.drive[c.current]).state = .idle) :
    Keeps s (takeProbe c s) := by
  have htaken : takeProbe c s = requestRail (.push c.current c.channel (currentLevel c))
      { setDrive c.current
          { DriveContext.clear with state := .pushing, job := some (.probe c.channel (currentLevel c)) }
          (driveNotice c.current s) with run := some { c with taken := true } } :=
    (requestRail_withRun _ _ _).symm
  rw [htaken]
  have hdrive : (driveNotice c.current s).drive = s.drive := by rw [driveNotice_eq]; rfl
  have hmay : MayRun (driveNotice c.current s) :=
    hrun.of_eq (by rw [driveNotice_eq]; rfl) (congrArg Clock.part (outer_clock (driveNotice_outer _ s)))
  refine (driveNotice_keeps c.current s).trans (Keeps.trans ?_ (requestRail_woken _ _))
  refine pushBegun_keeps (k := c.current) ?_ ⟨rfl, rfl⟩ (fun h => .inr ⟨hmay h, rfl⟩) (fun h _ => hmay h) ?_
  · rw [hdrive]
    exact not_pushWaits_of_state hi (by simp)
  · rintro - c' ⟨⟩ - - -
    rw [pushBegun_get, if_pos rfl]
    rfl

theorem beginSettle_keeps {c c' : CalContext} {s : State} (h : s.run = some c') : Keeps s (beginSettle c s) :=
  withRun_keeps (mayRun_of_run h) (.inl (by simp))

theorem idleReport_keeps {k : Key} {s : State} (hi : (s.drive[k]).state = .idle) : Keeps s (idleReport k s) := by
  unfold idleReport
  split
  · exact .refl s
  · next c hc =>
    refine .ite (fun hk => ?_) fun _ => .refl s
    split
    · exact beginSettle_keeps hc
    · exact .ite (fun _ => .refl s) fun _ => takeProbe_keeps (mayRun_of_run hc) (hk ▸ hi)
    · exact .refl s

theorem probeOutcome_keeps (k : Key) (d : DriveContext) (o : MeasOutcome) (s : State) :
    Keeps s (probeOutcome k d o s) := by
  unfold probeOutcome
  split
  · exact .refl s
  · next c hc =>
    have recorded (arrived : Bool) (speed latency : Nat) : Keeps s (probeRecorded c k arrived speed latency s) :=
      (withRun_keeps (mayRun_of_run hc) (.inl (by simp))).trans (addReport_keeps _ _)
    refine .ite (fun _ => ?_) fun _ => .refl s
    split
    · exact recorded _ _ _
    · exact recorded _ _ _
    · exact .refl s

/-! ## Measurements (R94 to R97) -/

theorem applyTrim_keeps (d : DriveContext) (st : Strike) (latency : Int) (s : State) : Keeps s (applyTrim d st latency s) :=
  .ite (fun _ => keeps_of_vital rfl) fun _ => .refl s

theorem strikeClosed_keeps (d : DriveContext) (st : Strike) (o : MeasOutcome) (s : State) :
    Keeps s (strikeClosed d st o s) := by
  cases o with
  | arrived g1 g2 time => exact (applyTrim_keeps d st _ s).trans (addReport_keeps _ _)
  | noArrival => exact addReport_keeps _ s
  | notMeasured => exact addReport_keeps _ s

theorem closeMeasurement_keeps (k : Key) (o : MeasOutcome) (s : State) : Keeps s (closeMeasurement k o s) := by
  refine (setDrive_keeps (d := { s.drive[k] with measuring := false, gateTimer := none }) (.inl ⟨rfl, rfl, rfl⟩)).trans ?_
  unfold closeMeasurement
  simp only
  split
  · exact strikeClosed_keeps _ _ o _
  · exact probeOutcome_keeps k _ o _
  · exact .refl _

theorem closeOpen_keeps (k : Key) (s : State) : Keeps s (closeOpen k s) :=
  .ite (fun _ => closeMeasurement_keeps k _ s) fun _ => .refl s

theorem closeMarked_keeps (k : Key) (s : State) : Keeps s (closeMarked k s) :=
  .ite (fun _ => closeMeasurement_keeps k _ s) fun _ => .refl s

theorem probeOutcome_drive (k : Key) (d : DriveContext) (o : MeasOutcome) (s : State) :
    (probeOutcome k d o s).drive = s.drive := by
  unfold probeOutcome probeRecorded
  (repeat' split) <;> simp

theorem strikeClosed_drive (d : DriveContext) (st : Strike) (o : MeasOutcome) (s : State) :
    (strikeClosed d st o s).drive = s.drive := by
  cases o with
  | arrived g1 g2 time =>
    simp only [strikeClosed, addReport_drive, applyTrim]
    split <;> rfl
  | noArrival => exact addReport_drive _ s
  | notMeasured => exact addReport_drive _ s

/-- A measurement that closes writes its own context alone among the drive contexts (R94 to R96). -/
theorem closeMeasurement_drive (k : Key) (o : MeasOutcome) (s : State) :
    (closeMeasurement k o s).drive = (setDrive k { s.drive[k] with measuring := false, gateTimer := none } s).drive := by
  unfold closeMeasurement
  simp only
  split
  · exact strikeClosed_drive _ _ _ _
  · exact probeOutcome_drive _ _ _ _
  · rfl

/-- The close of a measurement leaves what its context drives, and every other context. -/
theorem closeOpen_state (k j : Key) (s : State) :
    ((closeOpen k s).drive[j]).state = (s.drive[j]).state ∧ ((closeOpen k s).drive[j]).stage = (s.drive[j]).stage := by
  unfold closeOpen
  simp only
  split
  · simp only [closeMeasurement_drive, setDrive_get]
    split
    · next h => rw [h]; exact ⟨rfl, rfl⟩
    · exact ⟨rfl, rfl⟩
  · exact ⟨rfl, rfl⟩

/-! ## Contexts that become Idle (R91 to R93) -/

/-- A context of which no Push waits stops driving. -/
theorem setDrive_noPush_keeps {k : Key} {d : DriveContext} {s : State}
    (h : ∀ r ∈ s.rail.waiting, isPushOf k r.cmd = false) (hd : d.state ≠ .pushing) : Keeps s (setDrive k d s) where
  toSteady := withDrive_steady fun j hj => by
    have hget := setDrive_get k d s j
    simp only [setDrive] at hget
    rw [hget] at hj ⊢
    split at hj
    · exact absurd hj hd
    · next hjk => rw [if_neg hjk]; exact ⟨hj, rfl⟩
  pushes := fun ⟨⟨howned, hone⟩, _⟩ => by
    refine ⟨fun r hr => ?_, hone⟩
    have hr' := howned r hr
    have hother := h r hr
    cases hc : r.cmd with
    | push j channel level =>
      rw [hc] at hr' hother
      have hjk : j ≠ k := of_decide_eq_false hother
      unfold PushOwned
      simp only
      rw [setDrive_get, if_neg hjk]
      exact hr'
    | _ => trivial

theorem becomeIdle_of {k : Key} {s : State} (h : Keeps s (setDrive k DriveContext.clear s)) : Keeps s (becomeIdle k s) :=
  (h.trans (restNotice_keeps k _)).trans (idleReport_keeps (by simp [restNotice, DriveContext.clear]))

theorem becomeIdle_keeps {k : Key} {s : State} (h : ¬PushWaits s.drive[k]) : Keeps s (becomeIdle k s) :=
  becomeIdle_of (setDrive_keeps (.inr ⟨h, by simp [DriveContext.clear]⟩))

theorem becomeIdle_noPush_keeps {k : Key} {s : State} (h : ∀ r ∈ s.rail.waiting, isPushOf k r.cmd = false) :
    Keeps s (becomeIdle k s) := becomeIdle_of (setDrive_noPush_keeps h (by simp [DriveContext.clear]))

theorem comeToRest_keeps {k : Key} {s : State} (h : ¬PushWaits s.drive[k]) : Keeps s (comeToRest k s) := by
  refine (closeOpen_keeps k s).trans (becomeIdle_keeps ?_)
  obtain ⟨hstate, hstage⟩ := closeOpen_state k k s
  unfold PushWaits
  rwa [hstate, hstage]

/-! ## Strikes, releases and crossings (R86 to R93) -/

/-- A strike is taken for push in Running, with its key ready (R75, R86, R87). -/
theorem takeStrike_keeps {time : PT} {st : Strike} {s : State} (hp : s.clock.part = .running)
    (hr : keyReady st.key s = true) : Keeps s (takeStrike time st s) := by
  have hwaits : ¬PushWaits s.drive[st.key] := by
    rcases (keyReady_iff st.key s).mp hr with h | ⟨h, _⟩
    · exact not_pushWaits_of_state h (by simp)
    · exact not_pushWaits_of_state h (by simp)
  rw [takeStrike_eq]
  generalize hu : (if (s.drive[st.key]).state = .idle then driveNotice st.key s else closeOpen st.key s) = u
  have hkeeps : Keeps s u := hu ▸ .ite (fun _ => driveNotice_keeps _ s) fun _ => closeOpen_keeps _ s
  have hwaits' : ¬PushWaits u.drive[st.key] := by
    rw [← hu]
    split
    · rw [driveNotice_eq]; exact hwaits
    · obtain ⟨hstate, hstage⟩ := closeOpen_state st.key st.key s
      unfold PushWaits
      rwa [hstate, hstage]
  have hpart : u.clock.part = .running := by
    rw [← hp, ← hu]
    split
    · exact congrArg Clock.part (outer_clock (driveNotice_outer _ s))
    · exact congrArg Clock.part (outer_clock (closeOpen_outer _ s))
  have hnone : RunOnlyStopped u → u.run = none := fun h => by
    by_contra hn
    have := h (Option.isSome_iff_ne_none.mpr hn)
    rw [hpart] at this
    cases this
  refine hkeeps.trans (Keeps.trans ?_ (requestRail_woken _ _))
  refine pushBegun_keeps (k := st.key) (r := u.run) hwaits' ⟨rfl, rfl⟩
    (fun _ => .inl ((inPerformance_iff u).mpr (.inl hpart))) id fun hs c hc => ?_
  have : u.run = some c := hc
  rw [hnone hs.2] at this
  cases this

theorem beginRelease_keeps {k : Key} {s : State} (h : ¬PushWaits s.drive[k]) : Keeps s (beginRelease k s) := by
  have hset : Keeps s (setDrive k { s.drive[k] with state := .releasing, rearmed := false, pushTimer := none } s) :=
    setDrive_keeps (.inr ⟨h, by simp⟩)
  exact (hset.trans (requestRail_keeps rfl _)).trans (closeMarked_keeps k _)

theorem endPush_keeps {k : Key} {s : State} (h : ¬PushWaits s.drive[k]) : Keeps s (endPush k s) := by
  unfold endPush
  simp only
  split
  · have hset : Keeps s (setDrive k { s.drive[k] with state := .holding, pushTimer := none } s) :=
      setDrive_keeps (.inr ⟨h, by simp⟩)
    exact (hset.trans (requestRail_keeps rfl _)).trans (closeMarked_keeps k _)
  · exact beginRelease_keeps h
  · exact .refl s

theorem giveUpPush_keeps (k : Key) (s : State) : Keeps s (giveUpPush k s) := by
  have hgone : ∀ r ∈ (withdraw (isPushOf k) s).rail.waiting, isPushOf k r.cmd = false := fun r hr => by
    simpa using (List.mem_filter.mp hr).2
  refine (withdraw_keeps (which := isPushOf k) (fun _ => rfl) s).trans ?_
  unfold giveUpPush
  simp only
  split
  · exact (addReport_keeps _ _).trans (becomeIdle_noPush_keeps (by rw [addReport_rail]; exact hgone))
  · exact becomeIdle_noPush_keeps hgone
  · exact becomeIdle_noPush_keeps hgone

theorem releaseKey_keeps (k : Key) (s : State) : Keeps s (releaseKey k s) := by
  unfold releaseKey
  refine .ite (fun _ => .refl s) fun _ => ?_
  split
  · split
    · next h => exact beginRelease_keeps (not_pushWaits_of_sent h)
    · exact giveUpPush_keeps k s
  · next h => exact beginRelease_keeps (not_pushWaits_of_state h (by simp))
  · exact .refl s
  · exact .refl s

theorem recordG1_keeps (k : Key) (stamp : Stamp) (s : State) : Keeps s (recordG1 k stamp s) :=
  .ite (fun _ => setDrive_keeps (.inl ⟨rfl, rfl, rfl⟩)) fun _ => .refl s

theorem recordG1_stage (k : Key) (stamp : Stamp) (s : State) : ((recordG1 k stamp s).drive[k]).stage = (s.drive[k]).stage := by
  rw [recordG1_eq, setDrive_self]
  split <;> rfl

theorem measureG2_keeps (k : Key) (stamp : Stamp) (time : PT) (s : State) : Keeps s (measureG2 k stamp time s) := by
  unfold measureG2
  simp only
  split
  · exact closeMeasurement_keeps k _ s
  · exact .refl s

theorem driveCrossing_keeps (k : Key) (x : Crossing) (time : PT) (s : State) : Keeps s (driveCrossing k x time s) := by
  unfold driveCrossing
  refine .ite (fun _ => .refl s) fun _ => ?_
  split
  · exact .refl s
  · split
    · exact .refl s
    · next hsent =>
      cases x with
      | g1 stamp =>
        refine .ite (fun _ => recordG1_keeps k stamp s) fun _ => (recordG1_keeps k stamp s).trans (endPush_keeps ?_)
        exact not_pushWaits_of_sent ((recordG1_stage k stamp s).trans hsent)
      | g2 stamp => exact measureG2_keeps k stamp time s
      | k1Down | k1Up | k2Down | k2Up => exact .refl s
  · cases x with
    | g1 stamp => exact recordG1_keeps k stamp s
    | g2 stamp => exact measureG2_keeps k stamp time s
    | k1Down | k1Up | k2Down | k2Up => exact .refl s
  · next hd =>
    cases x with
    | g1 stamp => exact recordG1_keeps k stamp s
    | g2 stamp => exact measureG2_keeps k stamp time s
    | k2Up | k2Down => exact setDrive_keeps (.inl ⟨rfl, rfl, rfl⟩)
    | k1Up => exact comeToRest_keeps (not_pushWaits_of_state hd (by simp))
    | k1Down => exact .refl s

/-! ## Sensor loss (R93, R96) -/

theorem lossMarks_keeps (k : Key) (s : State) : Keeps s (lossMarks k s) := by
  have marked : Keeps s (setDrive k { s.drive[k] with notMeasured := true } s) := setDrive_keeps (.inl ⟨rfl, rfl, rfl⟩)
  exact .ite (fun _ => marked.trans (.ite (fun _ => closeMeasurement_keeps k _ _) fun _ => .refl _)) fun _ => .refl s

theorem lossReleases_keeps (k : Key) (s : State) : Keeps s (lossReleases k s) := by
  unfold lossReleases
  simp only
  split
  · next hd _ =>
    exact .ite (fun _ => comeToRest_keeps (not_pushWaits_of_state hd (by simp))) fun _ =>
      setDrive_keeps (.inl ⟨rfl, rfl, rfl⟩)
  · exact .refl s

theorem driveLoss_keeps (s : State) : Keeps s (driveLoss s) :=
  Keeps.foldl (fun s k => (lossMarks_keeps k s).trans (lossReleases_keeps k _)) allKeys s

/-! ## Calibration runs (R158 to R167) -/

theorem abortKey_keeps (c : CalContext) (s : State) : Keeps s (abortKey c s) := by
  refine .ite (fun _ => ?_) fun _ => .refl s
  split
  · exact giveUpPush_keeps _ s
  · next h => exact beginRelease_keeps (not_pushWaits_of_sent h)
  · exact .refl s

theorem abortRun_keeps (s : State) : Keeps s (abortRun s) := by
  unfold abortRun
  split
  · exact .refl s
  · next c _ => exact ((abortKey_keeps c s).trans (withoutRun_keeps _)).trans (addReport_keeps _ _)

theorem beginProbe_keeps {c : CalContext} {s : State} (hrun : MayRun s) : Keeps s (beginProbe c s) := by
  unfold beginProbe
  refine .ite (fun _ => ?_) fun _ => (withRun_keeps hrun (.inr rfl)).trans (abortRun_keeps _)
  exact (withRun_keeps hrun (.inr rfl)).trans
    (.ite (fun hi => takeProbe_keeps (mayRun_of_run rfl) hi) fun _ => .refl _)

theorem mayRun_addReport {r : Report} {s : State} (h : MayRun s) : MayRun (addReport r s) :=
  h.of_eq (addReport_run r s) (congrArg Clock.part (outer_clock (addReport_outer r s)))

theorem makeCurrent_keeps (n : Nat) (k : Key) (c : CalContext) {s : State} (hrun : MayRun s) :
    Keeps s (makeCurrent n k c s) := by
  induction n generalizing k s with
  | zero => exact withoutRun_keeps s
  | succ n ih =>
    by_cases hk : keySkipped k s = true
    · rw [makeCurrent_skipped hk]
      refine (addReport_keeps (skippedResult c k) s).trans ?_
      split
      · exact ih _ (mayRun_addReport hrun)
      · exact withoutRun_keeps _
    · rw [makeCurrent_played hk]
      exact beginProbe_keeps hrun

theorem nextKey_keeps (c : CalContext) {s : State} (hrun : MayRun s) : Keeps s (nextKey c s) := by
  unfold nextKey
  split
  · exact makeCurrent_keeps _ _ c hrun
  · exact withoutRun_keeps s

/-- The result of a key writes its record and a report (R164, R165). -/
theorem keyResult_keeps (c : CalContext) (s : State) : Keeps s (keyResult c s) := by
  have written (r : CalRecord) : Keeps s (setCal c.current r s) := keeps_of_vital rfl
  unfold keyResult sweepResult quickResult
  split
  · simp only
    split
    · exact addReport_keeps _ s
    · exact (written _).trans (addReport_keeps _ _)
  · exact (written _).trans (addReport_keeps _ _)

theorem keyResult_mayRun (c : CalContext) {s : State} (h : MayRun s) : MayRun (keyResult c s) := by
  unfold keyResult sweepResult quickResult
  split
  · simp only
    split
    · exact mayRun_addReport h
    · exact mayRun_addReport (h.of_eq rfl rfl)
  · exact mayRun_addReport (h.of_eq rfl rfl)

theorem settleEnds_keeps {c : CalContext} {s : State} (h : s.run = some c) : Keeps s (settleEnds c s) :=
  .ite (fun _ => beginProbe_keeps (mayRun_of_run h)) fun _ =>
    (keyResult_keeps c s).trans (nextKey_keeps c (keyResult_mayRun c (mayRun_of_run h)))

theorem startRun_keeps (f : CalFields) {s : State} (h : s.clock.part = .stopped) : Keeps s (startRun f s) := by
  unfold startRun
  split
  · refine (wake_keeps s).trans (makeCurrent_keeps _ _ _ fun _ => ?_)
    rw [outer_clock (wake_outer s)]
    exact h
  · exact .refl s

end Sys2Proof.LawProofs
end

section
/-! PROOFS. The taking of rail commands, Stops, faults and Restarts keep the laws of the stores and of the requests at the rail
(R10, R13, R14, R88, R101, R103, R111, R144, R148, R156); a Push that is sent is a strike's in performance or a probe's in
Stopped (R101). -/

namespace Sys2Proof.LawProofs

open Sys2Proof Sys2Proof.Machine Sys2Proof.TableProofs Sys2Proof.StrikeProofs Sys2Proof.RailListProofs

/-! ## The taking of commands (R143, R144) -/

/-- A Push frame that may be sent: in Running or Held, or a calibration probe's in Stopped (R101). -/
def PushAllowed (s : State) (f : Frame) : Prop :=
  inPerformance s = true ∨
    (s.clock.part = .stopped ∧ ∃ (k : Key) (channel level : Nat),
      (s.drive[k]).job = some (.probe channel level) ∧ f.payload = put8 channel ++ put16 level)

/-- What a command does at most: the laws are kept, and a Push that begins on RLOUT may be sent (R101). -/
structure Serves (s t : State) : Prop extends Bounds s t where
  pedals : PedalRequests s → PedalRequests t
  pushes : PushesOwned s ∧ RunOnlyStopped s → PushesOwned t
  sends : PushesOwned s ∧ RunOnlyStopped s →
    ∀ f n, onLine t = some (f, n) → onLine s = some (f, n) ∨ f.kind ≠ 0x61 ∨ PushAllowed t f

theorem Keeps.serves {s t : State} (h : Keeps s t) : Serves s t where
  toBounds := h.toBounds
  pedals := h.pedals
  pushes := h.pushes
  sends _ f n hf := (h.line f n hf).imp_right .inl

theorem Serves.after {s e t : State} (h' : Serves e t) (h : Keeps s e) : Serves s t where
  toBounds := h.toBounds.trans h'.toBounds
  pedals := h'.pedals ∘ h.pedals
  pushes hs := h'.pushes ⟨h.pushes hs, h.run hs.2⟩
  sends hs f n hf := by
    rcases h'.sends ⟨h.pushes hs, h.run hs.2⟩ f n hf with hf | hf
    · exact (h.line f n hf).imp_right .inl
    · exact .inr hf

/-- What the laws do not speak of may change after it. -/
theorem Serves.then_vital {s t u : State} (h : Serves s t) (hu : vital u = vital t) : Serves s u where
  toBounds := h.toBounds.trans (keeps_of_vital hu).toBounds
  pedals := (keeps_of_vital hu).pedals ∘ h.pedals
  pushes hs := (keeps_of_vital hu).pushes ⟨h.pushes hs, h.run hs.2⟩
  sends hs f n hf := by
    have hline : onLine u = onLine t := congrArg Vital.line hu
    have hperf : inPerformance u = inPerformance t := inPerformance_congr (congrArg Vital.part hu)
    have hpart : u.clock.part = t.clock.part := congrArg Vital.part hu
    have hdrive : u.drive = t.drive := congrArg Vital.drive hu
    unfold PushAllowed
    rw [hline] at hf
    rw [hperf, hpart, hdrive]
    exact h.sends hs f n hf

/-- A Response with room for it is placed ahead of it (R179). -/
theorem Serves.after_respond {s e t : State} {r : Response} (h' : Serves (respond r e) t) (h : Keeps s e)
    (hroom : s.link.responses.length < 16) : Serves s t where
  toBounds :=
    { h.toBounds with
      responses := fun _ => .inl (by
        have := h.room hroom
        simp only [respond_link, List.length_append, List.length_singleton]
        omega) : Bounds s (respond r e) }.trans h'.toBounds
  pedals := h'.pedals ∘ h.pedals
  pushes hs := h'.pushes ⟨h.pushes hs, h.run hs.2⟩
  sends hs f n hf := by
    rcases h'.sends ⟨h.pushes hs, h.run hs.2⟩ f n hf with hf | hf
    · exact (h.line f n hf).imp_right .inl
    · exact .inr hf

/-- A Response with room for it is placed after it (R179). -/
theorem Serves.respond {s t : State} (h : Serves s t) (hroom : t.link.responses.length < 16) (r : Response) :
    Serves s (respond r t) :=
  { h with
    responses := fun _ => .inl (by simp only [respond_link, List.length_append, List.length_singleton]; omega) }

/-! ### A command other than a Push (R144) -/

theorem transmit_keeps {start : Nat} {c : RailCmd} {s : State} (hf : s.rail.inFlight.length < 4)
    (hc : ∀ k, isPushOf k c = false) : Keeps s (transmit start c s) :=
  { Keeps.refl s with
    rail := fun ⟨_, hp, hr⟩ => ⟨by simp only [transmit, List.length_append, List.length_singleton]; omega, hp, hr⟩
    line := fun f n h => by
      obtain ⟨rfl, _⟩ : railFrame c s = f ∧ start = n := by simpa [onLine, transmit] using h
      refine .inr ?_
      cases c with
      | push k _ _ => simpa [isPushOf] using hc k
      | _ => simp [railFrame, railKindPayload] }

/-- With no Push in the list every Push of it is owned. -/
theorem pushesOwned_of_noPush {s : State} (h : ∀ r ∈ s.rail.waiting, ∀ k, isPushOf k r.cmd = false) : PushesOwned s :=
  ⟨fun r hr => pushOwned_of_not_push (h r hr), fun k => by
    rw [List.filter_eq_nil_iff.mpr fun r hr => by simp [h r hr k]]
    exact Nat.zero_le _⟩

/-- The Pushes of owned contexts leave the list with the requests of every context that is not Idle (R101, R103). -/
theorem withdrawn_noPush {s u : State} (hs : PushesOwned s) (hw : u.rail.waiting = s.rail.waiting)
    (hd : ∀ k : Key, (u.drive[k]).state = (s.drive[k]).state) :
    ∀ r ∈ (withdraw (ofContext notIdle u.drive) u).rail.waiting, ∀ k, isPushOf k r.cmd = false := by
  intro r hr k
  obtain ⟨hr, hkept⟩ := List.mem_filter.mp hr
  have howned := hs.1 r (hw ▸ hr)
  cases hc : r.cmd with
  | push j channel level =>
    rw [hc] at howned
    rw [hc, withdrawn_eq] at hkept
    have hpushing : (u.drive[j]).state = .pushing := (hd j).trans howned.1
    exact absurd (hpushing.symm.trans (of_decide_eq_true hkept)) (by simp)
  | _ => rfl

theorem allMadeIdle_keeps (s : State) : Keeps s (allMadeIdle s) where
  toSteady := by
    refine (withdraw_keeps (which := ofContext notIdle s.drive) (fun _ => rfl) s).toSteady.trans (withDrive_steady fun k hk => ?_)
    simp [DriveContext.clear] at hk
  pushes hs := pushesOwned_of_noPush (withdrawn_noPush hs.1 rfl fun _ => rfl)

theorem allIdle_keeps (s : State) : Keeps s (allIdle s) := by
  rw [allIdle_eq]
  split
  · exact allMadeIdle_keeps s
  · exact .ite (fun _ => (allMadeIdle_keeps s).trans (idleReport_keeps (by simp [allMadeIdle, DriveContext.clear])))
      fun _ => allMadeIdle_keeps s

theorem markReleaseSent_noNewPush (now : Nat) (up : Bool) (d : DriveContext) : NoNewPush d (markReleaseSent now up d) := by
  unfold markReleaseSent
  split
  · exact .inl ⟨rfl, rfl, rfl⟩
  · exact .refl d

/-- Each context changed by itself. -/
theorem mapDrive_keeps {g : DriveContext → DriveContext} {s : State} (h : ∀ d, NoNewPush d (g d)) :
    Keeps s { s with drive := s.drive.map g } :=
  withDrive_keeps fun k => by
    rw [Fin.getElem_fin, Fin.getElem_fin, Vector.getElem_map]
    exact h _

theorem recordSending_keeps {c : RailCmd} {s : State} (hc : ∀ k, isPushOf k c = false) (hp : ∀ p, c ≠ .pedalSet p) :
    Keeps s (recordSending c s) := by
  cases c with
  | push k _ _ => simpa [isPushOf] using hc k
  | pedalSet p => exact absurd rfl (hp p)
  | hold _ _ _ => exact keeps_of_vital rfl
  | release k _ => exact setDrive_keeps (markReleaseSent_noNewPush _ _ _)
  | releaseAll _ restart =>
    exact .ite (fun _ => allIdle_keeps s) fun _ => mapDrive_keeps (markReleaseSent_noNewPush _ _)
  | park => exact keeps_of_vital rfl
  | unpark => exact .refl s
  | passThrough _ => exact .refl s

/-- The sending of a PedalSet starts its pedal's rate gap (R107). -/
theorem sendPedalSet_replay (start : Nat) (p : Pedal) (s : State) :
    (sendCommand start (.pedalSet p) s).replay =
      (setReplay p { s.replay[p] with state := .spacing, lastSent := some s.localTime } s).replay := rfl

/-- A PedalSet leaves the list as its context leaves Requested (R107, R108). -/
theorem sendPedalSet_keeps {start : Nat} {p : Pedal} {q : Request} {s : State} (hq : q ∈ s.rail.waiting)
    (hc : q.cmd = .pedalSet p) (hf : s.rail.inFlight.length < 4) :
    Keeps s (sendCommand start (.pedalSet p) (takenOut q s)) :=
  { Keeps.refl s with
    rail := fun ⟨_, hp, hr⟩ => by
      refine ⟨?_, hp, hr⟩
      change (s.rail.inFlight ++ [_]).length ≤ 4
      simp only [List.length_append, List.length_singleton]
      omega
    releaseAll := fun hs => ((List.erase_sublist.filter _).length_le).trans hs
    line := fun f n h => by
      obtain ⟨rfl, _⟩ : railFrame (.pedalSet p) (takenOut q s) = f ∧ start = n := by
        simpa [onLine, sendCommand, recordSending, transmit, setReplay, reloadPark_rail] using h
      exact .inr (by simp [railFrame, railKindPayload])
    pushes := fun hs => pushesOwned_of_sublist (s := s) (l := s.rail.waiting.erase q) List.erase_sublist hs.1
    pedals := fun hs j => by
      have hget : (sendCommand start (.pedalSet p) (takenOut q s)).replay[j] =
          if j = p then { s.replay[p] with state := .spacing, lastSent := some s.localTime } else s.replay[j] := by
        simp only [sendPedalSet_replay, setReplay_get, takenOut]
      refine (pedalSets_erase j q s.rail.waiting).trans ?_
      rw [hget, show pedalSets j s.rail.waiting = _ from hs j, hc]
      by_cases hj : j = p
      · subst hj
        simp only [hq, if_true, and_self, decide_true]
        rw [if_neg (show ReplayState.spacing ≠ .requested by simp)]
        split <;> rfl
      · have hother : ¬(q ∈ s.rail.waiting ∧ decide (RailCmd.pedalSet p = .pedalSet j) = true) := by
          simp [Ne.symm hj]
        rw [if_neg hj, if_neg hother, Nat.sub_zero] }

/-- What is sent and is no Push keeps the laws (R144). -/
theorem sendOther_keeps {start : Nat} {q : Request} {s : State} (hq : q ∈ s.rail.waiting)
    (hf : s.rail.inFlight.length < 4) (hc : ∀ k, isPushOf k q.cmd = false) :
    Keeps s (sendCommand start q.cmd (takenOut q s)) := by
  by_cases hset : ∃ p, q.cmd = .pedalSet p
  · obtain ⟨p, hcmd⟩ := hset
    rw [hcmd]
    exact sendPedalSet_keeps hq hcmd hf
  · rw [not_exists] at hset
    exact ((erased_keeps hset s).trans (transmit_keeps hf hc)).trans (recordSending_keeps hc hset)

/-! ### A Push (R88, R104) -/

/-- A context that keeps its state, and its probe if it drives one: with the Late mark of its strike, or as it was (R88). -/
def SamePush (d d' : DriveContext) : Prop :=
  d'.state = d.state ∧ ∀ channel level, d.job = some (.probe channel level) → d'.job = d.job

/-- The state after the sending of a Push, the context it is sent for being `d` (R88). -/
def pushOnLine (start : Nat) (k : Key) (channel level : Nat) (d : DriveContext) (s : State) : State :=
  reloadPark
    (setDrive k (pushSent s.tables.cal[k] (decide (s.clock.part = .running)) s.sensor.up s.localTime s.clock.pt d)
      (transmit start (.push k channel level) s))

/-- The one Push of a key taken out of the list leaves none of that key (R87). -/
theorem erased_noPush {s : State} {q : Request} {k : Key} (hs : PushesOwned s) (hq : q ∈ s.rail.waiting)
    (hk : isPushOf k q.cmd = true) : ∀ r ∈ s.rail.waiting.erase q, isPushOf k r.cmd = false := by
  have hcount : (s.rail.waiting.erase q).countP (fun r => isPushOf k r.cmd) = 0 := by
    have hone := hs.2 k
    rw [← List.countP_eq_length_filter] at hone
    rw [List.countP_erase, if_pos ⟨hq, hk⟩]
    omega
  exact fun r hr => Bool.eq_false_iff.mpr (List.countP_eq_zero.mp hcount r hr)

theorem pushOnLine_serves {start : Nat} {k : Key} {channel level : Nat} {time : Nat} {d : DriveContext} {s : State}
    (hq : ⟨.push k channel level, time⟩ ∈ s.rail.waiting) (hf : s.rail.inFlight.length < 4)
    (hd : SamePush s.drive[k] d) :
    Serves s (pushOnLine start k channel level d (takenOut ⟨.push k channel level, time⟩ s)) := by
  generalize ht : pushOnLine start k channel level d (takenOut ⟨.push k channel level, time⟩ s) = t
  have hwaiting : t.rail.waiting = s.rail.waiting.erase ⟨.push k channel level, time⟩ := by rw [← ht]; rfl
  have hclock : t.clock = s.clock := by rw [← ht]; rfl
  have hother (j : Key) (hj : j ≠ k) : t.drive[j] = s.drive[j] := by
    subst ht
    exact (setDrive_get k _ _ j).trans (if_neg hj)
  have hself : (t.drive[k]).state = (s.drive[k]).state ∧ (t.drive[k]).job = d.job := by
    have hk : t.drive[k] = pushSent s.tables.cal[k] (decide (s.clock.part = .running)) s.sensor.up s.localTime s.clock.pt d := by
      subst ht
      exact setDrive_self k _ _
    rw [hk]
    exact ⟨hd.1, rfl⟩
  refine
    { reports := ?_, rail := ?_, releaseAll := ?_, capture := ?_, responses := ?_, run := ?_, probe := ?_, pedals := ?_
      pushes := ?_, sends := ?_ }
  · subst ht; exact id
  · rintro ⟨_, hp, hr⟩
    subst ht
    refine ⟨?_, hp, hr⟩
    change (s.rail.inFlight ++ [_]).length ≤ 4
    simp only [List.length_append, List.length_singleton]
    omega
  · intro hs
    unfold OneReleaseAll
    rw [hwaiting]
    exact ((List.erase_sublist.filter _).length_le).trans hs
  · subst ht; exact id
  · subst ht; exact id
  · subst ht; exact id
  · rintro ⟨hs, _⟩ c hc hp htaken hpushing
    have hrun : s.run = some c := by subst ht; exact hc
    by_cases hk : c.current = k
    · subst hk
      have hprobe := hs c hrun hp htaken (hself.1.symm.trans hpushing)
      unfold drivesProbe at hprobe ⊢
      rw [hself.2]
      split at hprobe
      · next channel level hjob => rw [hd.2 channel level hjob, hjob]
      · cases hprobe
    · rw [hother _ hk] at hpushing ⊢
      exact hs c hrun hp htaken hpushing
  · intro hs p
    have hreplay : t.replay = s.replay := by rw [← ht]; rfl
    rw [hwaiting, hreplay]
    refine (pedalSets_erase p _ _).trans ?_
    rw [if_neg (by simp), Nat.sub_zero]
    exact hs p
  · rintro ⟨hs, _⟩
    have hnone := erased_noPush hs hq (k := k) (by simp [isPushOf])
    refine ⟨fun r hr => ?_, fun j => ?_⟩
    · rw [hwaiting] at hr
      have howned := hs.1 r (List.mem_of_mem_erase hr)
      have hnot := hnone r hr
      cases hc : r.cmd with
      | push j ch l =>
        rw [hc] at howned hnot
        have hj : j ≠ k := of_decide_eq_false hnot
        unfold PushOwned
        simp only
        rw [hother j hj, inPerformance_congr (congrArg Clock.part hclock), hclock]
        exact howned
      | _ => trivial
    · rw [hwaiting]
      exact ((List.erase_sublist.filter _).length_le).trans (hs.2 j)
  · rintro ⟨hs, _⟩ f n hf'
    refine .inr (.inr ?_)
    have hframe : f.payload = put8 channel ++ put16 level := by
      subst ht
      have : some (railFrame (.push k channel level) (takenOut ⟨.push k channel level, time⟩ s), start) = some (f, n) := hf'
      cases this
      rfl
    obtain ⟨_, _, hpart⟩ := hs.1 _ hq
    unfold PushAllowed
    rw [inPerformance_congr (congrArg Clock.part hclock), hclock]
    exact hpart.imp_right fun ⟨hp, hjob⟩ =>
      ⟨hp, k, channel, level, hself.2.trans ((hd.2 channel level hjob).trans hjob), hframe⟩

/-- A strike found Missed at issue leaves its context Idle, its Push being out of the list (R88). -/
theorem missAtIssue_keeps {k : Key} {st : Strike} {q : Request} {s : State} (hq : q ∈ s.rail.waiting)
    (hk : isPushOf k q.cmd = true) : Keeps s (missAtIssue k st (takenOut q s)) := by
  have hset (p : Pedal) : q.cmd ≠ .pedalSet p := fun h => by rw [h] at hk; cases hk
  have before : Keeps s (addReport (missedReport st) (takenOut q s)) :=
    (erased_keeps hset s).trans (addReport_keeps _ _)
  refine { toSteady := before.toSteady.trans ?_, pushes := fun hs => ?_ }
  · have hclear : Steady (addReport (missedReport st) (takenOut q s))
        (setDrive k DriveContext.clear (addReport (missedReport st) (takenOut q s))) :=
      withDrive_steady fun j hj => by
        have hget := setDrive_get k DriveContext.clear (addReport (missedReport st) (takenOut q s)) j
        simp only [setDrive] at hget
        rw [hget] at hj ⊢
        split at hj
        · cases hj
        · next hjk => rw [if_neg hjk]; exact ⟨hj, rfl⟩
    exact hclear.trans
      ((restNotice_keeps k _).trans (idleReport_keeps (by simp [restNotice, DriveContext.clear]))).toSteady
  · have hgone : ∀ r ∈ (addReport (missedReport st) (takenOut q s)).rail.waiting, isPushOf k r.cmd = false := by
      rw [addReport_rail]
      exact erased_noPush hs.1 hq hk
    exact (before.trans (becomeIdle_noPush_keeps hgone)).pushes hs

/-! ### The next command taken (R143) -/

/-- The command taken next is sent, or dropped unsent (R144). -/
theorem takeCommand_cases {start : Nat} {q : Request} {s : State} (hq : q ∈ s.rail.waiting)
    (hf : s.rail.inFlight.length < 4) :
    (∃ t, takeCommand start q.cmd (takenOut q s) = .sent t ∧ Serves s t) ∨
      ∃ t, takeCommand start q.cmd (takenOut q s) = .dropped t ∧ Keeps s t := by
  have other (hc : ∀ k, isPushOf k q.cmd = false) : Serves s (sendCommand start q.cmd (takenOut q s)) :=
    (sendOther_keeps hq hf hc).serves
  obtain ⟨cmd, time⟩ := q
  cases cmd with
  | push k channel level =>
    cases hj : (s.drive[k]).job with
    | none =>
      have htake : takeCommand start (.push k channel level) (takenOut ⟨.push k channel level, time⟩ s) =
          .sent (sendCommand start (.push k channel level) (takenOut ⟨.push k channel level, time⟩ s)) := by
        simp only [takeCommand, contextStrike, takenOut, hj]
      refine .inl ⟨_, htake, ?_⟩
      exact pushOnLine_serves hq hf ⟨rfl, fun _ _ _ => rfl⟩
    | some job =>
      cases job with
      | probe ch l =>
        refine .inl ⟨_, takeCommand_probe (s := takenOut _ s) hj, ?_⟩
        exact pushOnLine_serves hq hf ⟨rfl, fun _ _ _ => rfl⟩
      | strike st =>
        have htake := takeCommand_strike (start := start) (channel := channel) (level := level)
          (s := takenOut ⟨.push k channel level, time⟩ s) hj
        split at htake
        · exact .inr ⟨_, htake, missAtIssue_keeps hq (by simp [isPushOf])⟩
        · refine .inl ⟨_, htake, ?_⟩
          rw [markContextLate, sendCommand_strike]
          exact pushOnLine_serves hq hf ⟨rfl, fun ch l h => by rw [hj] at h; cases h⟩
  | park =>
    simp only [takeCommand]
    split
    · exact .inl ⟨_, rfl, other fun _ => rfl⟩
    · exact .inr ⟨_, rfl, (erased_keeps (by simp) s).trans (keeps_of_vital rfl)⟩
  | hold | release | releaseAll | pedalSet | unpark | passThrough => exact .inl ⟨_, rfl, other fun _ => rfl⟩

end Sys2Proof.LawProofs
end

section
/-! PROOFS. What follows the sending, and Stops, faults and Restarts, as the laws of the stores and of the requests at the rail
see them (R10, R13, R14, R101, R103, R111, R143, R148). -/

namespace Sys2Proof.LawProofs

open Sys2Proof Sys2Proof.Machine Sys2Proof.TableProofs Sys2Proof.StrikeProofs Sys2Proof.RailListProofs

/-! ## The rail's service (R143) -/

theorem takePassThrough_keeps {start : Nat} {s : State} (hf : s.rail.inFlight.length < 4) :
    Keeps s (takePassThrough start s) := by
  unfold takePassThrough
  split
  · exact .refl s
  · next p rest hq =>
    have removed : Keeps s { s with rail := { s.rail with passQueue := rest } } :=
      { Keeps.refl s with
        rail := fun ⟨hl, hp, hr⟩ => ⟨hl, by simp only [hq, List.length_cons] at hp; simp only; omega, hr⟩ }
    exact .ite (fun _ => removed.trans (transmit_keeps (c := .passThrough p) hf fun _ => rfl)) fun _ => .refl s

/-- The taking of commands drops some and sends one at most (R143, R144). -/
theorem railTake_serves (start n : Nat) (s : State) : Serves s (railTake start n s) := by
  induction n generalizing s with
  | zero => exact (Keeps.refl s).serves
  | succ n ih =>
    unfold railTake
    split
    · next hslot =>
      obtain ⟨_, hf⟩ := (slotFree_iff s.rail).mp hslot
      split
      · exact (takePassThrough_keeps hf).serves
      · next q hq =>
        change Serves s (match takeCommand start q.cmd (takenOut q s) with
          | .sent s' => s'
          | .dropped s' => railTake start n s')
        rcases takeCommand_cases (start := start) (nextRequest_mem hq) hf with ⟨t, ht, hs⟩ | ⟨t, ht, hk⟩
        · rw [ht]; exact hs
        · rw [ht]; exact (ih t).after hk
    · exact (Keeps.refl s).serves

theorem railServiceAt_serves (start : Nat) (s : State) : Serves s (railServiceAt start s) := railTake_serves start _ s

theorem Keeps.served {s e : State} (h : Keeps s e) : Serves s (railService e) := (railServiceAt_serves _ e).after h

/-- A request's effect, the rail's service and its answer (R143, R179). -/
theorem Keeps.served_answered {s e : State} (h : Keeps s e) (hroom : s.link.responses.length < 16) (r : Response) :
    Serves s (respond r (railService e)) := by
  refine h.served.respond ?_ r
  rw [show (railService e).link = e.link from congrArg Outer.link (railService_outer e)]
  exact h.room hroom

/-- A request's effect and its answer (R179). -/
theorem Keeps.answered {s e : State} (h : Keeps s e) (hroom : s.link.responses.length < 16) (r : Response) :
    Serves s (respond r e) := h.serves.respond (h.room hroom) r

/-! ## The part state (01) -/

/-- The clock written: a run in flight is left in Stopped alone (R158, R169). -/
theorem withClock_steady {s : State} {c : Clock} (h : RunOnlyStopped s → s.run.isSome → c.part = .stopped) :
    Steady s { s with clock := c } := { Keeps.refl s with run := h }

theorem withClock_keeps {s : State} {c : Clock} (h : RunOnlyStopped s → s.run.isSome → c.part = .stopped)
    (hp : ∀ r ∈ s.rail.waiting, PushOwned s r.cmd → PushOwned { s with clock := c } r.cmd) :
    Keeps s { s with clock := c } where
  toSteady := withClock_steady h
  pushes hs := ⟨fun r hr => hp r hr (hs.1.1 r hr), hs.1.2⟩

/-- In performance a Push waits with no more said of the part (R101). -/
theorem pushOwned_inPerformance {s : State} {c : Clock} (hc : c.part = .running ∨ c.part = .held) (r : RailCmd)
    (h : PushOwned s r) : PushOwned { s with clock := c } r := by
  cases r with
  | push k channel level => exact ⟨h.1, h.2.1, .inl ((inPerformance_iff _).mpr hc)⟩
  | _ => trivial

theorem run_none {s : State} (h : RunOnlyStopped s) (hp : s.clock.part ≠ .stopped) : s.run = none := by
  by_contra hn
  exact hp (h (Option.isSome_iff_ne_none.mpr hn))

/-- Entry to Running, with no run in flight (R1, R7). -/
theorem enterRunning_keeps {s : State} (h : RunOnlyStopped s → s.run = none) : Keeps s (enterRunning s) :=
  withClock_keeps (fun hs hr => by simp [h hs] at hr) fun _ _ => pushOwned_inPerformance (.inl rfl) _

theorem clearTrim_noNewPush (d : DriveContext) : NoNewPush d (clearTrim d) := .inl ⟨rfl, rfl, rfl⟩

theorem enterHeld_keeps {s : State} (h : s.clock.part = .running) : Keeps s (enterHeld s) :=
  (withClock_keeps (c := { s.clock with part := .held }) (fun hs hr => by simp [run_none hs (h.trans_ne (by simp))] at hr)
    fun _ _ => pushOwned_inPerformance (.inr rfl) _).trans (mapDrive_keeps clearTrim_noNewPush)

/-- Outside performance and Stopped no Push waits (R101). -/
theorem pushOwned_outside {s t : State} (h : inPerformance s = false) (hs : s.clock.part ≠ .stopped) {c : RailCmd}
    (hc : PushOwned s c) : PushOwned t c := by
  cases c with
  | push k channel level =>
    obtain ⟨_, _, hp | hp⟩ := hc
    · rw [h] at hp; cases hp
    · exact absurd hp.1 hs
  | _ => trivial

theorem configured_keeps (p : List Byte) {s : State} (h : s.clock.part = .unconfigured ∨ s.clock.part = .stopped) :
    Keeps s (configured p s) := by
  have written : Keeps s { s with tables := { s.tables with config := configFields p } } := keeps_of_vital rfl
  refine written.trans (withClock_keeps (fun _ _ => rfl) fun r _ hr => ?_)
  rcases h with h | h
  · exact pushOwned_outside (not_inPerformance h (by simp) (by simp)) (h.trans_ne (by simp)) hr
  · cases hc : r.cmd with
    | push k channel level =>
      rw [hc] at hr
      obtain ⟨hstate, hstage, hpart⟩ := hr
      have hperf : ¬inPerformance s = true := by simp [inPerformance, h]
      exact ⟨hstate, hstage, .inr ⟨rfl, (hpart.resolve_left hperf).2⟩⟩
    | _ => trivial

theorem flush_keeps (s : State) : Keeps s (flush s) := keeps_of_vital rfl

theorem leavePerformance_steady (cause : StopCause) (s : State) : Steady s (leavePerformance .stopped cause s) :=
  withClock_steady fun _ _ => rfl

/-! ## Stops (R10, R13, R101, R103) -/

theorem probeOutcome_rail (k : Key) (d : DriveContext) (o : MeasOutcome) (s : State) :
    (probeOutcome k d o s).rail = s.rail := by
  unfold probeOutcome probeRecorded
  (repeat' split) <;> simp

/-- The close of a measurement requests nothing of the rail. -/
theorem closeMeasurement_rail (k : Key) (o : MeasOutcome) (s : State) : (closeMeasurement k o s).rail = s.rail := by
  unfold closeMeasurement
  simp only
  split
  · next st _ =>
    cases o with
    | arrived g1 g2 time =>
      simp only [strikeClosed, addReport_rail, applyTrim]
      split <;> rfl
    | noArrival => exact addReport_rail _ _
    | notMeasured => exact addReport_rail _ _
  · exact probeOutcome_rail _ _ _ _
  · rfl

theorem closeMarked_same (k j : Key) (s : State) :
    (closeMarked k s).rail = s.rail ∧ ((closeMarked k s).drive[j]).state = (s.drive[j]).state := by
  unfold closeMarked
  simp only
  split
  · refine ⟨closeMeasurement_rail k _ s, ?_⟩
    simp only [closeMeasurement_drive, setDrive_get]
    split
    · next h => rw [h]
    · rfl
  · exact ⟨rfl, rfl⟩

theorem closeCutShort_keeps (s : State) : Keeps s (closeCutShort s) :=
  Keeps.foldl (fun s k => .ite (fun _ => closeMarked_keeps k s) fun _ => .refl s) allKeys s

theorem closeCutShort_same (j : Key) (s : State) :
    (closeCutShort s).rail = s.rail ∧ ((closeCutShort s).drive[j]).state = (s.drive[j]).state := by
  unfold closeCutShort
  induction allKeys generalizing s with
  | nil => exact ⟨rfl, rfl⟩
  | cons k ks ih =>
    rw [List.foldl_cons]
    obtain ⟨hrail, hstate⟩ := ih (if (s.drive[k]).state = .pushing then closeMarked k s else s)
    rw [hrail, hstate]
    split
    · exact closeMarked_same k j s
    · exact ⟨rfl, rfl⟩

theorem addReports_same (rs : List Report) (s : State) : (addReports rs s).rail = s.rail ∧ (addReports rs s).drive = s.drive := by
  unfold addReports
  induction rs generalizing s with
  | nil => exact ⟨rfl, rfl⟩
  | cons r rs ih =>
    rw [List.foldl_cons]
    obtain ⟨hrail, hdrive⟩ := ih (addReport r s)
    exact ⟨hrail.trans (addReport_rail r s), hdrive.trans (addReport_drive r s)⟩

theorem stopContext_pushing (d : DriveContext) : (stopContext d).state ≠ .pushing := by
  cases hd : d.state <;> simp [stopContext, hd, clearTrim]

theorem faultStopContext_pushing (d : DriveContext) : (faultStopContext d).state ≠ .pushing := by
  cases hd : d.state <;> simp [faultStopContext, hd]

/-- Each context changed by itself, Pushing after only as it was: the run's law is kept (R104). -/
theorem mapDrive_steady {g : DriveContext → DriveContext} {s : State}
    (h : ∀ d, (g d).state = .pushing → d.state = .pushing ∧ (g d).job = d.job) :
    Steady s { s with drive := s.drive.map g } :=
  withDrive_steady fun k hk => by
    simp only [Fin.getElem_fin, Vector.getElem_map] at hk ⊢
    exact h _ hk

/-- The Key Drive Controller's part of a Stop from performance: no Push waits after it (R101). -/
theorem driveStop_keeps (cause : StopCause) (s : State) :
    Keeps s (driveStop (flush (leavePerformance .stopped cause s))) := by
  generalize hu : flush (leavePerformance .stopped cause s) = u
  have hsteady : Steady s u := by
    rw [← hu]
    exact (leavePerformance_steady cause s).trans (flush_keeps _).toSteady
  refine { toSteady := hsteady.trans ?_, pushes := fun hs => pushesOwned_of_noPush ?_ }
  · exact (((closeCutShort_keeps u).trans (addReports_keeps _ _)).trans
      (withdraw_keeps (which := ofContext notIdle _) (fun _ => rfl) _)).toSteady.trans
        (mapDrive_steady fun d hd => absurd hd (stopContext_pushing d))
  · obtain ⟨hrail, hdrive⟩ := addReports_same (givenUpReports (closeCutShort u)) (closeCutShort u)
    refine withdrawn_noPush (u := addReports (givenUpReports (closeCutShort u)) (closeCutShort u)) hs.1 ?_ fun k => ?_
    · rw [hrail, (closeCutShort_same 0 u).1, ← hu]
      rfl
    · rw [hdrive, (closeCutShort_same k u).2, ← hu]
      rfl

/-- In Faulted no Push waits (R101, R148). -/
theorem noPush_faulted {s : State} (hs : PushesOwned s) (h : s.clock.part = .faulted) :
    ∀ r ∈ s.rail.waiting, ∀ k, isPushOf k r.cmd = false := by
  intro r hr k
  have howned := hs.1 r hr
  cases hc : r.cmd with
  | push j channel level =>
    rw [hc] at howned
    obtain ⟨_, _, hp | ⟨hp, _⟩⟩ := howned
    · simp [inPerformance, h] at hp
    · rw [h] at hp; cases hp
  | _ => rfl

theorem driveFaultStop_rail (s : State) : (driveFaultStop s).rail = s.rail := by
  unfold driveFaultStop
  simp only
  rw [(addReports_same _ _).1, (closeCutShort_same 0 s).1]

/-- The Key Drive Controller's part of a Stop taken in Faulted (R13, R103). -/
theorem driveFaultStop_keeps {s : State} (h : s.clock.part = .faulted) :
    Keeps s (driveFaultStop (leavePerformance .stopped .request s)) := by
  refine { toSteady := (leavePerformance_steady .request s).trans ?_, pushes := fun hs => pushesOwned_of_noPush ?_ }
  · exact ((closeCutShort_keeps _).trans (addReports_keeps _ _)).toSteady.trans
      (mapDrive_steady fun d hd => absurd hd (faultStopContext_pushing d))
  · rw [driveFaultStop_rail]
    exact noPush_faulted (s := s) hs.1 h

theorem stopTransition_keeps (cause : StopCause) {release : State → State} (hr : ∀ s, Keeps s (release s)) (s : State) :
    Keeps s (stopTransition cause release s) :=
  (((driveStop_keeps cause s).trans (hr _)).trans (pedalsToRest_keeps _)).trans (closeAnnounced_keeps _ _)

theorem stopInFaulted_keeps {s : State} (h : s.clock.part = .faulted) : Keeps s (stopInFaulted s) :=
  ((driveFaultStop_keeps h).trans (releaseEverything_keeps false _)).trans (pedalsToRest_keeps _)

/-- In Stopped a Stop writes the cause (R9). -/
theorem withoutCause_keeps {s : State} (h : s.clock.part = .stopped) :
    Keeps s (leavePerformance .stopped .request s) := by
  refine keeps_of_vital ?_
  simp only [vital, h]
  rfl

theorem stopInStopped_keeps {s : State} (h : s.clock.part = .stopped) : Keeps s (stopInStopped s) := by
  have hcalm : Calm s (recoverIfFaulted (abortRun s)) := (recoverIfFaulted_calm _).after (abortRun_calm s)
  have hpart : (recoverIfFaulted (abortRun s)).clock.part = .stopped :=
    (congrArg Clock.part (outer_clock hcalm.outerEq)).trans h
  have recovered : Keeps (abortRun s) (recoverIfFaulted (abortRun s)) :=
    .ite (fun _ => releaseEverything_keeps false _) fun _ => .refl _
  exact ((abortRun_keeps s).trans recovered).trans (withoutCause_keeps hpart)

/-! ## Restart (R14, R103) -/

theorem restartBlocks_steady (s : State) : Steady s (restartBlocks s) :=
  { Keeps.refl s with
    rail := fun ⟨hl, _, _⟩ => ⟨hl, by simp [restartBlocks], by simp [restartBlocks]⟩
    capture := fun _ => by
      have : announcedKeys (restartBlocks s) = 0 := by
        rw [announcedKeys_eq_countP]
        exact Vector.countP_eq_zero.mpr fun c hc => by rw [Vector.eq_of_mem_replicate hc]; simp [CaptureContext.clear]
      simp only [CaptureBounded, this]
      simp [restartBlocks]
    responses := fun hs => by
      rcases hs with hs | ⟨hs, _, hlast⟩
      · exact .inl hs
      · exact .inr ⟨hs, rfl, hlast⟩
    run := fun _ h => by simp [restartBlocks] at h
    probe := fun _ c hc => by simp [restartBlocks] at hc }

theorem restartContext_job (d : DriveContext) :
    (restartContext d).state = d.state ∧ (restartContext d).job = d.job := by
  unfold restartContext
  split <;> exact ⟨rfl, rfl⟩

/-- The reset notices of a Restart with the Key Drive Controller's part: no Push waits after it (R103). -/
theorem driveRestart_keeps (s : State) : Keeps s (driveRestart (restartBlocks s)) := by
  refine { toSteady := (restartBlocks_steady s).trans ?_, pushes := fun hs => pushesOwned_of_noPush ?_ }
  · refine (withdraw_keeps (which := ofContext notIdle s.drive) (fun _ => rfl) (restartBlocks s)).toSteady.trans ?_
    have emptied (u : State) : Keeps u { u with reports := [] } :=
      { Keeps.refl u with reports := fun _ => Nat.zero_le _ }
    refine (emptied _).toSteady.trans (mapDrive_steady fun d hd => ?_)
    exact ⟨(restartContext_job d).1.symm.trans hd, (restartContext_job d).2⟩
  · exact withdrawn_noPush hs.1 rfl fun _ => rfl

/-! ## Rail faults (R12, R103, R111, R148) -/

/-- A fault with its notices to the contexts, up to the abort of a run (R148). -/
def faultNotices (s : State) : State := pedalsFault (clockFault (restartIdle (faultRail s)))

theorem faultRail_sound (s : State) : Sound s (faultRail s) := by
  have faulted : Sound s
      { s with
        rail := { clearInFlight s.rail with state := .faulted, waiting := [] }
        sticky := { s.sticky with railFault := true } } :=
    { Keeps.refl s with
      rail := fun ⟨_, hp, hr⟩ => ⟨by simp [clearInFlight], hp, hr⟩
      releaseAll := fun _ => by simp [OneReleaseAll]
      line := fun f n h => .inl (by simpa [onLine, clearInFlight, Option.map_map, Function.comp_def] using h) }
  unfold faultRail
  simp only
  split
  · exact faulted.trans (reloadPark_keeps _).toSound
  · exact faulted

theorem restartIdle_steady (s : State) : Steady s (restartIdle s) :=
  mapDrive_steady fun d hd => by
    split at hd
    · cases hd
    · next h => rw [if_neg h]; exact ⟨hd, rfl⟩

theorem clockFault_steady (s : State) : Steady s (clockFault s) := by
  unfold clockFault
  split
  · next hp =>
    have left : Steady s (leavePerformance .faulted .railFault s) := withClock_steady fun hs hr => by
      have : s.clock.part = .stopped := hs hr
      simp [inPerformance, this] at hp
    exact left.trans (((flush_keeps _).trans (closeAnnounced_keeps .fault _)).trans (mapDrive_keeps clearTrim_noNewPush)).toSteady
  · exact (Keeps.refl s).toSteady

theorem setReplay_sound (p : Pedal) (c : PedalReplay) (s : State) : Sound s (setReplay p c s) :=
  { Keeps.refl s with }

theorem pedalFault_sound (p : Pedal) (s : State) : Sound s (pedalFault p s) := by
  unfold pedalFault
  split
  · exact setReplay_sound p _ s
  · exact setReplay_sound p _ s
  · exact (Keeps.refl s).toSound
  · exact (Keeps.refl s).toSound

theorem pedalsFault_sound (s : State) : Sound s (pedalsFault s) :=
  List.foldlRecOn allPedals _ (Keeps.refl s).toSound fun _ h p _ => h.trans (pedalFault_sound p _)

theorem pedalFault_rail (p : Pedal) (s : State) : (pedalFault p s).rail = s.rail := by
  unfold pedalFault
  split <;> rfl

theorem pedalsFault_rail (s : State) : (pedalsFault s).rail = s.rail :=
  List.foldlRecOn (motive := fun u : State => u.rail = s.rail) allPedals _ rfl fun _ h p _ => (pedalFault_rail p _).trans h

/-- A fault leaves a context not Requested (R111), and one that is not, so. -/
theorem pedalFault_notRequested (p j : Pedal) (s : State) (h : p = j ∨ (s.replay[j]).state ≠ .requested) :
    ((pedalFault p s).replay[j]).state ≠ .requested := by
  have written (c : PedalReplay) (hc : c.state ≠ .requested) : ((setReplay p c s).replay[j]).state ≠ .requested := by
    rw [setReplay_get]
    split
    · exact hc
    · next hj => exact h.resolve_left (Ne.symm hj)
  unfold pedalFault
  split
  · exact written _ (restingReplay_ne_requested p s)
  · exact written _ (by simp)
  · next hd => exact h.elim (fun hj => hj ▸ hd.trans_ne (by simp)) id
  · next hd => exact h.elim (fun hj => hj ▸ hd.trans_ne (by simp)) id

theorem pedalsFault_notRequested (j : Pedal) (s : State) : ((pedalsFault s).replay[j]).state ≠ .requested := by
  have key : ∀ (l : List Pedal) (s : State), j ∈ l ∨ (s.replay[j]).state ≠ .requested →
      ((l.foldl (fun s p => pedalFault p s) s).replay[j]).state ≠ .requested := by
    intro l
    induction l with
    | nil => exact fun s h => h.resolve_left (by simp)
    | cons p l ih =>
      intro s h
      refine ih _ ?_
      by_cases hl : j ∈ l
      · exact .inl hl
      · refine .inr (pedalFault_notRequested p j s (h.imp_left fun hj => ?_))
        exact ((List.mem_cons.mp hj).resolve_right hl).symm
  exact key allPedals s (.inl (List.mem_finRange j))

theorem clockFault_waiting (s : State) : (clockFault s).rail.waiting = s.rail.waiting := by
  unfold clockFault
  split <;> rfl

theorem faultRail_waiting (s : State) : (faultRail s).rail.waiting = [] := by
  unfold faultRail
  simp only
  split <;> rfl

theorem faultNotices_waiting (s : State) : (faultNotices s).rail.waiting = [] := by
  rw [faultNotices, pedalsFault_rail, clockFault_waiting]
  exact faultRail_waiting s

theorem faultNotices_keeps (s : State) : Keeps s (faultNotices s) where
  toSound := ((faultRail_sound s).trans ((restartIdle_steady _).trans (clockFault_steady _)).toSound).trans
    (pedalsFault_sound _)
  pedals _ p := by
    rw [faultNotices_waiting]
    exact (if_neg (pedalsFault_notRequested p _)).symm
  pushes _ := pushesOwned_of_noPush (by rw [faultNotices_waiting]; simp)

theorem railFault_keeps (s : State) : Keeps s (railFault s) := (faultNotices_keeps s).trans (abortRun_keeps _)

/-! ## Acknowledgements and lines (R145, R153, R155) -/

theorem ackEffect_keeps (c : RailCmd) (s : State) : Keeps s (ackEffect c s) := by
  refine keeps_of_vital ?_
  unfold ackEffect passThroughAcked powerGoesOn recovered
  (repeat' split) <;> rfl

theorem takeAck_keeps (tag : Byte) (p : List Byte) (s : State) : Keeps s (takeAck tag p s) := by
  unfold takeAck
  split
  · exact .ite (fun _ => .refl s) fun _ => railFault_keeps s
  · next e rest hfl =>
    have removed : Keeps s { s with rail := { s.rail with inFlight := rest, window := windowOf s.localTime rest } } :=
      { Keeps.refl s with
        rail := fun ⟨hl, hp, hr⟩ => ⟨by simp only [hfl, List.length_cons] at hl; simp only; omega, hp, hr⟩ }
    exact .ite (fun _ => removed.trans (ackEffect_keeps _ _)) fun _ => railFault_keeps s

theorem takePass_keeps (p : List Byte) (s : State) : Keeps s (takePass p s) := by
  refine .ite (fun h => ?_) fun _ => keeps_of_vital rfl
  exact
    { Keeps.refl s with
      rail := fun ⟨hl, _, hr⟩ => ⟨hl, by simp only [List.length_append, List.length_singleton]; omega, hr⟩ }

theorem takeReply_keeps (p : List Byte) (s : State) : Keeps s (takeReply p s) := by
  refine .ite (fun h => ?_) fun _ => keeps_of_vital rfl
  exact
    { Keeps.refl s with
      rail := fun ⟨hl, hp, _⟩ => ⟨hl, hp, by simp only [List.length_append, List.length_singleton]; omega⟩ }

theorem endRailFrame_keeps (t : RailTx) (s : State) : Keeps s (endRailFrame t s) := by
  have idle (l : List InFlight) (w : Option Nat) (hl : l.length = s.rail.inFlight.length) :
      Keeps s { s with rail := { s.rail with tx := none, inFlight := l, window := w } } :=
    { Keeps.refl s with
      rail := fun ⟨h, hp, hr⟩ => ⟨hl.trans_le h, hp, hr⟩
      line := fun f n h => by simp [onLine] at h }
  exact .ite (fun _ => idle _ _ (by simp [markTransmitted])) fun _ => idle s.rail.inFlight s.rail.window rfl

theorem parkExpires_keeps (s : State) : Keeps s (parkExpires s) :=
  .ite (fun _ => (keeps_of_vital rfl : Keeps s { s with rail := { s.rail with parkTimer := none } }).trans
    (requestRail_keeps rfl _)) fun _ => keeps_of_vital rfl

end Sys2Proof.LawProofs
end

section
/-! PROOFS. Every command and every step keeps the laws of the stores and of the requests at the rail (R87, R100, R101, R104,
R105, R132, R142, R145, R153, R155, R179). -/

namespace Sys2Proof.LawProofs

open Sys2Proof Sys2Proof.Machine Sys2Proof.TableProofs Sys2Proof.StrikeProofs Sys2Proof.RailListProofs

/-! ## The Capture Engine and the pedals (R116, R117, R127 to R134) -/

/-- A first-stroke event takes two free entries, one of them held for its key (R132). -/
theorem offerFirst_keeps (k : Key) (event : Bool → Bool → CaptureEvent) (s : State) : Keeps s (offerFirst k event s) := by
  refine .ite (fun _ => .ite (fun hfits => ?_) fun _ => keeps_of_vital rfl) fun _ => .refl s
  refine keeps_of_capture rfl fun _ => ?_
  have hset := announcedKeys_setCapture k { s.capture[k] with announced := true } s
  have hle := Bool.toNat_le true
  simp only [captureFits, decide_eq_true_eq] at hfits
  change (s.captureFifo ++ [_]).length + announcedKeys (setCapture k { s.capture[k] with announced := true } s) ≤ 128
  simp only [Bool.toNat_true, List.length_append, List.length_singleton] at hset ⊢
  omega

theorem offerRestrike_keeps (k : Key) (event : Bool → Bool → CaptureEvent) (s : State) :
    Keeps s (offerRestrike k event s) := by
  refine .ite (fun _ => .ite (fun hfits => ?_) fun _ => keeps_of_vital rfl) fun _ => .refl s
  refine keeps_of_capture rfl fun _ => ?_
  simp only [captureFits, decide_eq_true_eq] at hfits
  change (s.captureFifo ++ [_]).length + announcedKeys s ≤ 128
  simp only [List.length_append, List.length_singleton]
  omega

theorem offerNoteOff_keeps (k : Key) (time : PT) (s : State) : Keeps s (offerNoteOff k time s) := by
  refine .ite (fun h => ?_) fun _ => .refl s
  exact closedKey_keeps _ rfl (Bool.and_eq_true_iff.mp h).2

theorem completeFlight_keeps (k : Key) (stamp : Stamp) (time : PT) (s : State) : Keeps s (completeFlight k stamp time s) := by
  have down : Keeps s
      (setCapture k { s.capture[k] with state := .down, remembered := none, g1 := none, gateTimer := none } s) :=
    setCapture_keeps (.inr rfl)
  exact .ite (fun _ => down.trans (offerRestrike_keeps _ _ _)) fun _ => down.trans (offerFirst_keeps _ _ _)

theorem captureCrossing_keeps (k : Key) (x : Crossing) (time : PT) (s : State) : Keeps s (captureCrossing k x time s) := by
  have keyUp : Keeps s (offerNoteOff k time (setCapture k (atRest s.capture[k]) s)) :=
    (setCapture_keeps (c := atRest s.capture[k]) (.inr rfl)).trans (offerNoteOff_keeps _ _ _)
  unfold captureCrossing
  simp only
  cases (s.capture[k]).state with
  | rest =>
    cases x with
    | k1Down => exact setCapture_keeps (.inr rfl)
    | k1Up | k2Down | k2Up | g1 | g2 => exact .refl s
  | descending =>
    cases x with
    | g1 | k1Up => exact setCapture_keeps (.inr rfl)
    | k2Down => exact (setCapture_keeps (c := { s.capture[k] with state := .quiet }) (.inr rfl)).trans (offerFirst_keeps _ _ _)
    | k1Down | k2Up | g2 => exact .refl s
  | gated =>
    cases x with
    | g2 stamp => exact completeFlight_keeps k stamp time s
    | g1 => exact setCapture_keeps (.inr rfl)
    | k1Up => exact keyUp
    | k1Down | k2Down | k2Up => exact .refl s
  | down | quiet =>
    cases x with
    | k2Up => exact setCapture_keeps (.inr rfl)
    | k1Up => exact keyUp
    | k1Down | k2Down | g1 | g2 => exact .refl s
  | rearmed =>
    cases x with
    | g1 | k2Down => exact setCapture_keeps (.inr rfl)
    | k1Up => exact keyUp
    | k1Down | k2Up | g2 => exact .refl s

theorem captureTimeout_keeps (k : Key) (s : State) : Keeps s (captureTimeout k s) := by
  have quiet : Keeps s (setCapture k { s.capture[k] with state := .quiet, g1 := none, gateTimer := none } s) :=
    setCapture_keeps (.inr rfl)
  exact .ite (fun _ => setCapture_keeps (.inr rfl)) fun _ => quiet.trans (offerFirst_keeps _ _ _)

theorem offerPedal_keeps (p : Pedal) (time : PT) (s : State) : Keeps s (offerPedal p time s) := by
  refine .ite (fun hfits => ?_) fun _ => keeps_of_vital rfl
  refine keeps_of_capture rfl fun _ => ?_
  simp only [captureFits, decide_eq_true_eq] at hfits
  change (s.captureFifo ++ [_]).length + announcedKeys s ≤ 128
  simp only [List.length_append, List.length_singleton]
  omega

theorem pedalRaw_keeps (time : PT) (p : Pedal) (raw : BitVec 16) (s : State) : Keeps s (pedalRaw time p raw s) := by
  have written (c : PedalCapture) : Keeps s (setPedal p c s) := keeps_of_vital rfl
  exact .ite (fun _ => (written _).trans (offerPedal_keeps p time _)) fun _ => written _

theorem samplePedals_keeps (a b c : BitVec 16) (s : State) : Keeps s (samplePedals a b c s) :=
  ((pedalRaw_keeps _ _ _ _).trans (pedalRaw_keeps _ _ _ _)).trans (pedalRaw_keeps _ _ _ _)

theorem routeCrossing_keeps (k : Key) (x : Crossing) (s : State) : Keeps s (routeCrossing k x s) :=
  .ite (fun _ => driveCrossing_keeps k x _ s) fun _ =>
    .ite (fun _ => captureCrossing_keeps k x _ s) fun _ => .refl s

/-! ## The Action Queue (R59 to R80) -/

/-- The queue is nothing to these laws. -/
theorem withQueue_keeps (q : ActionQueue) (s : State) : Keeps s { s with queue := q } := keeps_of_vital rfl

theorem enqueue_keeps (time : PT) (body : ActionBody) (s : State) : Keeps s (enqueue time body s) :=
  (withQueue_keeps _ s).trans (wake_keeps _)

theorem setIntake_keeps (k : Key) (r : IntakeRecord) (s : State) : Keeps s (setIntake k r s) := withQueue_keeps _ s

theorem admitKey_keeps (k : Key) (channel : Nat) (target : PT) (s : State) : Keeps s (admitKey k channel target s) := by
  have released : Keeps s (if (s.queue.intake[k]).isOpen then implicitRelease k channel target s else s) :=
    .ite (fun _ => enqueue_keeps _ _ s) fun _ => .refl s
  exact released.trans (setIntake_keeps _ _ _)

theorem refuseForRoom_keeps (st : Strike) (missed : Bool) (s : State) : Keeps s (refuseForRoom st missed s) :=
  (keeps_of_vital rfl : Keeps s { s with sticky := { s.sticky with queueFull := true } }).trans (addReport_keeps _ _)

theorem admitStrike_keeps (st : Strike) (j : Judgement) (target : PT) (s : State) : Keeps s (admitStrike st j target s) := by
  have admitted := admitKey_keeps st.key st.channel target s
  unfold admitStrike
  cases j with
  | missed => exact .ite (fun _ => admitted.trans (addReport_keeps _ _)) fun _ => refuseForRoom_keeps _ _ s
  | late | normal => exact .ite (fun _ => admitted.trans (enqueue_keeps _ _ _)) fun _ => refuseForRoom_keeps _ _ s

theorem intakeNoteOn_keeps (f : NoteOnFields) (s : State) : Keeps s (intakeNoteOn f s) := by
  unfold intakeNoteOn
  split
  · exact addReport_keeps _ s
  · exact .ite (fun _ => addReport_keeps _ s) fun _ =>
      .ite (fun _ => addReport_keeps _ s) fun _ => (setIntake_keeps _ _ s).trans (admitStrike_keeps _ _ _ _)

theorem intakeNoteOff_keeps (note : Nat) (target : PT) (s : State) : Keeps s (intakeNoteOff note target s) := by
  unfold intakeNoteOff
  split
  · exact .refl s
  · exact .ite (fun _ => .refl s) fun _ => (setIntake_keeps _ _ s).trans (enqueue_keeps _ _ _)

theorem intakePedal_keeps (f : PedalTargetFields) (s : State) : Keeps s (intakePedal f s) :=
  .ite (fun _ => .refl s) fun _ => .ite (fun _ => enqueue_keeps _ _ s) fun _ => keeps_of_vital rfl

theorem deferStrike_keeps (a : Action) (st : Strike) (own : Option PT) (s : State) : Keeps s (deferStrike a st own s) := by
  rcases deferStrike_cases a st own s with h | ⟨_, h⟩ <;> rw [h]
  · exact addReport_keeps _ s
  · exact withQueue_keeps _ s

/-- A hand-over, in Running alone (R75, R76). -/
theorem handOver_keeps {a : Action} {s : State} (hp : s.clock.part = .running) : Keeps s (handOver a s) := by
  unfold handOver
  split
  · exact .ite (fun _ => .ite (fun hr => takeStrike_keeps hp hr) fun _ => deferStrike_keeps _ _ _ s) fun _ => addReport_keeps _ s
  · exact releaseKey_keeps _ s
  · exact pedalAction_keeps _ _ s

theorem handOverDue_keeps (n : Nat) (s : State) : Keeps s (handOverDue n s) := by
  induction n generalizing s with
  | zero => exact .refl s
  | succ n ih =>
    unfold handOverDue
    split
    · exact .refl s
    · next a rest _ =>
      have removed := withQueue_keeps { s.queue with actions := rest } s
      exact .ite (fun h => (removed.trans (handOver_keeps h.1)).trans (ih _)) fun _ => .refl s

theorem dueNow_keeps (s : State) : Keeps s (dueNow s) := handOverDue_keeps _ s

theorem discardEvent_keeps (s : State) : Keeps s (discardEvent s) := keeps_of_vital rfl

theorem takeEvent_serves {intake : State → State} (h : ∀ s, Keeps s (intake s)) (s : State) : Serves s (takeEvent intake s) := by
  unfold takeEvent
  split
  · exact ((h s).trans (dueNow_keeps _)).served
  · exact (discardEvent_keeps s).serves

/-! ## Tables (R29, R30, R34, R36) -/

theorem writeRecord_keeps {table i : Nat} {bs : List Byte} {s t : State} (h : writeRecord table i bs s = .applied t) :
    Keeps s t := by
  unfold writeRecord at h
  split at h
  · unfold writeCal at h
    (repeat' split at h) <;> cases h
    exact keeps_of_vital rfl
  · unfold writeEntry at h
    (repeat' split at h) <;> cases h
    next k _ _ e _ =>
      have written : Keeps s (withEntry k e s) := keeps_of_vital rfl
      rw [applyEntry_eq]
      exact .ite (fun _ => written.trans (setCapture_keeps (.inl rfl))) fun _ => written
  · unfold writePedal at h
    (repeat' split at h) <;> cases h
    next p _ _ r _ =>
      have written : Keeps s (withPedalRecord p r s) := keeps_of_vital rfl
      exact written.trans (endGapIfOver_keeps p _)

theorem writeRecords_keeps (table size n i : Nat) (bs : List Byte) (s : State) :
    Keeps s (writeRecords table size n i bs s).2.2.2 := by
  induction n generalizing i bs s with
  | zero => exact .refl s
  | succ n ih =>
    unfold writeRecords
    split
    · exact .refl s
    · next t ht => exact (writeRecord_keeps ht).trans (ih _ _ t)

theorem writeTable_serves (tag : Byte) (p : List Byte) {s : State} (hroom : s.link.responses.length < 16) :
    Serves s (writeTable tag p s) := by
  have refused (r : Response) : Serves s (respond r s) := (Keeps.refl s).answered hroom r
  unfold writeTable
  split
  · exact refused _
  · simp only
    split
    · exact refused _
    · split
      · split
        · exact refused _
        · exact (writeRecords_keeps _ _ _ _ _ s).answered hroom _
      · exact refused _

theorem readTable_serves (tag : Byte) (p : List Byte) {s : State} (hroom : s.link.responses.length < 16) :
    Serves s (readTable tag p s) := by
  have refused (r : Response) : Serves s (respond r s) := (Keeps.refl s).answered hroom r
  have started (r : TableRead) : Keeps s { s with tableRead := some r } :=
    { Keeps.refl s with responses := fun _ => .inl hroom.le }
  unfold readTable
  simp only
  split
  · exact refused _
  · split
    · exact refused _
    · split
      · exact refused _
      · split
        · exact refused _
        · exact (started _).serves

/-! ## The Performance Link (R173 to R183) -/

theorem receive_vital (n : Nat) (s : State) : vital (receive n s) = vital s := by
  induction n generalizing s with
  | zero => rfl
  | succ n ih =>
    unfold receive
    split
    · rfl
    · split
      · rfl
      · rw [ih]; rfl
    · split
      · rfl
      · rfl
      · rw [ih]; rfl

theorem feed_vital (bytes : List Byte) (s : State) : vital (feed bytes s) = vital s := by
  unfold feed
  rw [receive_vital]
  rfl

theorem returnToHunt_vital (bytes : List Byte) (s : State) : vital (returnToHunt bytes s) = vital s := by
  unfold returnToHunt leaveLocked
  rw [feed_vital]
  split <;> rfl

theorem badCheckFrame_vital (bytes : List Byte) (s : State) : vital (badCheckFrame bytes s) = vital s := by
  unfold badCheckFrame
  simp only
  split
  · rfl
  · rw [returnToHunt_vital]; rfl

/-- The oldest Response goes up (R181). -/
theorem responseSent_keeps {start : Nat} {r : Response} {rest : List Response} {s : State}
    (h : s.link.responses = r :: rest) :
    Keeps s (sendUp start (.response r) false { s with link := { s.link with responses := rest } }) :=
  { Keeps.refl s with
    responses := fun hs => .inl (by
      have hlen : s.link.responses.length = rest.length + 1 := by rw [h]; rfl
      change rest.length ≤ 16
      rcases hs with hs | ⟨hs, _⟩ <;> omega)
    room := fun hs => by
      have hlen : s.link.responses.length = rest.length + 1 := by rw [h]; rfl
      change rest.length < 16
      omega }

theorem choose_keeps (start : Nat) (s : State) : Keeps s (choose start s) := by
  have status : Keeps s (sendStatus start s) := keeps_of_vital rfl
  unfold choose
  split
  · next h => exact responseSent_keeps h
  · next e rest _ h =>
    refine keeps_of_capture rfl fun hs => ?_
    change rest.length + announcedKeys s ≤ 128
    simp only [CaptureBounded, h, List.length_cons] at hs
    omega
  · exact keeps_of_vital rfl
  · unfold chooseLower
    refine .ite (fun _ => status) fun _ => ?_
    split
    · next r rest h =>
      exact
        { Keeps.refl s with
          reports := fun hs => by
            change rest.length ≤ 64
            simp only [ReportsBounded, h, List.length_cons] at hs
            omega }
    · next p rest _ h =>
      exact
        { Keeps.refl s with
          rail := fun ⟨hl, hp, hr⟩ => ⟨hl, hp, by
            change rest.length ≤ 4
            simp only [h, List.length_cons] at hr
            omega⟩ }
    · exact .ite (fun _ => status) fun _ => .refl s

/-- A frame's end moves the read in flight on; the Response of a completed one is the newest, and the oldest goes up at once
(R37, R38, R181). -/
theorem boundary_keeps (start : Nat) (t : UpTx) (s : State) : Keeps s (choose start (endUpFrame t s)) := by
  have idle : Keeps s { s with link := { s.link with tx := none } } := keeps_of_vital rfl
  by_cases hadv : t.advances = true
  · have hend : endUpFrame t s = advanceRead { s with link := { s.link with tx := none } } := by
      unfold endUpFrame
      rw [if_pos hadv]
    rw [hend]
    unfold advanceRead
    split
    · exact idle.trans (choose_keeps _ _)
    · next r hr =>
      simp only
      split
      · have moved : Keeps s { s with link := { s.link with tx := none }, tableRead := some { r with next := r.next + 1 } } :=
          { Keeps.refl s with
            responses := fun hs => .inl (hs.elim id fun h => by
              obtain ⟨_, hnone, _⟩ := h
              rw [show s.tableRead = some r from hr] at hnone
              cases hnone) }
        exact moved.trans (choose_keeps _ _)
      · cases hresp : s.link.responses ++ [readResponse r] with
        | nil => simp at hresp
        | cons q rest =>
          have hlen : rest.length = s.link.responses.length := by simpa using (congrArg List.length hresp).symm
          have hsome : s.tableRead = some r := hr
          have sent : Keeps s
              (sendUp start (.response q) false
                { s with link := { s.link with tx := none, responses := rest }, tableRead := none }) :=
            { Keeps.refl s with
              responses := fun hs => .inl (by
                change rest.length ≤ 16
                rcases hs with hs | ⟨_, hnone, _⟩
                · omega
                · rw [hsome] at hnone
                  cases hnone)
              room := fun hs => by
                change rest.length < 16
                omega }
          unfold choose respond
          simp only [hresp]
          exact sent
  · have hend : endUpFrame t s = { s with link := { s.link with tx := none } } := by
      unfold endUpFrame
      rw [if_neg hadv]
    rw [hend]
    exact idle.trans (choose_keeps _ _)

/-! ## Control requests (01) -/

section Requests

variable {s : State} (tag : Byte) (hroom : s.link.responses.length < 16)

include hroom

/-- A request answered with a code alone. -/
theorem refused_serves (r : Response) : Serves s (respond r s) := (Keeps.refl s).answered hroom r

theorem doConfigure_serves (p : List Byte) : Serves s (doConfigure tag p s) := by
  unfold doConfigure
  cases h : s.clock.part with
  | unconfigured => exact (configured_keeps p (.inl h)).answered hroom _
  | stopped => exact (configured_keeps p (.inr h)).answered hroom _
  | running | held | faulted => exact refused_serves hroom _

theorem doStart_serves : Serves s (doStart tag s) := by
  unfold doStart
  cases s.clock.part with
  | stopped =>
    simp only
    split
    · exact refused_serves hroom _
    · next hrun =>
      have hnone : s.run = none := by simpa using hrun
      have notices : Keeps (enterRunning s) (startNotices (enterRunning s)) := keeps_of_vital rfl
      split
      · exact refused_serves hroom _
      · exact ((enterRunning_keeps fun _ => hnone).trans notices).answered hroom _
  | unconfigured | running | held | faulted => exact refused_serves hroom _

theorem doHold_serves : Serves s (doHold tag s) := by
  unfold doHold
  cases h : s.clock.part with
  | running => exact (enterHeld_keeps h).answered hroom _
  | unconfigured | stopped | held | faulted => exact refused_serves hroom _

theorem doResume_serves : Serves s (doResume tag s) := by
  unfold doResume
  cases h : s.clock.part with
  | held =>
    have entered : Keeps s (enterRunning s) := enterRunning_keeps fun hs => run_none hs (h.trans_ne (by simp))
    exact (dueNow_keeps _).served.after_respond entered hroom
  | unconfigured | stopped | running | faulted => exact refused_serves hroom _

theorem doStop_serves : Serves s (doStop tag s) := by
  have performing := (stopTransition_keeps .request (releaseEverything_keeps false) s)
  unfold doStop
  cases h : s.clock.part with
  | unconfigured => exact refused_serves hroom _
  | stopped => exact (stopInStopped_keeps h).served_answered hroom _
  | running | held => exact performing.served_answered hroom _
  | faulted => exact (stopInFaulted_keeps h).served_answered hroom _

theorem doRestart_serves : Serves s (doRestart tag s) :=
  (((driveRestart_keeps s).trans (releaseEverything_keeps true _)).trans (pedalsToRest_keeps _)).served_answered hroom _

theorem doClockSet_serves (p : List Byte) : Serves s (doClockSet tag p s) := by
  unfold doClockSet
  cases s.clock.part with
  | stopped =>
    exact (keeps_of_vital rfl : Keeps s { s with clock := { s.clock with pt := bits32 p 0 } }).answered hroom _
  | unconfigured | running | held | faulted => exact refused_serves hroom _

end Requests

end Sys2Proof.LawProofs
end

section
/-! PROOFS. The laws of the stores and of the requests at the rail over every command and step, and the statements they settle
(R87, R100, R101, R104, R105, R132, R142, R145, R153, R155, R179). -/

namespace Sys2Proof.LawProofs

open Sys2Proof Sys2Proof.Machine Sys2Proof.TableProofs Sys2Proof.StrikeProofs Sys2Proof.RailListProofs

/-- What changes no vital field meets every law. -/
theorem serves_of_vital {s t : State} (h : vital t = vital s) : Serves s t := (keeps_of_vital h).serves

theorem run_of_timerDue {phase : ProbePhase} {s : State} {c : CalContext} (h : runTimerDue phase s = some c) :
    s.run = some c := by
  unfold runTimerDue at h
  split at h
  · cases h
  · next c' hr =>
    split at h
    · cases h; exact hr
    · cases h

/-! ## The receivers (R120, R141, R175, R178, R179) -/

section Receivers

variable {act : State → State}

theorem deliver_serves (f : Frame) (h : ∀ s, Serves s (act s)) (s : State) : Serves s (deliver f act s) := by
  unfold deliver
  split
  · exact (h _).after (keeps_of_vital rfl)
  · exact (Keeps.refl s).serves.then_vital (feed_vital _ s)

theorem unlessFull_serves (h : ∀ s, s.link.responses.length < 16 → Serves s (act s)) (s : State) :
    Serves s (unlessFull act s) := by
  unfold unlessFull
  split
  · next hroom => exact h s hroom
  · exact (Keeps.refl s).serves

/-- A control request on PLIN (R5, R178, R179). -/
theorem request_serves (f : Frame) (n : Nat) (p : List Byte) (r : State → Response)
    (h : ∀ s, s.link.responses.length < 16 → Serves s (act s)) (s : State) :
    Serves s (deliver f (unlessFull (checkLength n p (fun s => respond (r s) s) act)) s) := by
  refine deliver_serves f (unlessFull_serves fun s hroom => ?_) s
  unfold checkLength
  split
  · exact h s hroom
  · exact refused_serves hroom _

theorem sninFrame_serves (f : Frame) (h : ∀ s, Serves s (act s)) (s : State) : Serves s (sninFrame f act s) := by
  unfold sninFrame
  split
  · exact h s
  · exact serves_of_vital rfl

theorem sensorFrame_keeps (h : ∀ s, Keeps s (act s)) (s : State) : Keeps s (sensorFrame act s) := by
  have up : Keeps s { s with sensor := sensorGood s.localTime } := keeps_of_vital rfl
  exact .ite (fun _ => up.trans (h _)) fun _ => keeps_of_vital rfl

theorem rlinFrame_serves (f : Frame) (h : ∀ s, Serves s (act s)) (s : State) : Serves s (rlinFrame f act s) := by
  unfold rlinFrame
  split
  · exact h s
  · exact serves_of_vital rfl

end Receivers

/-! ## Single commands -/

theorem crossingFrame_serves (note : Byte) (x : Crossing) (s : State) : Serves s (crossingFrame note x s) := by
  unfold crossingFrame
  split
  · exact (sensorFrame_keeps Keeps.refl s).serves
  · next k _ => exact (sensorFrame_keeps (routeCrossing_keeps k x) s).served

theorem loseSensor_keeps (s : State) : Keeps s (loseSensor s) := by
  have lost : Keeps s { s with sensor := defaultSensor, sticky := { s.sticky with sensorLoss := true } } :=
    keeps_of_vital rfl
  exact ((lost.trans (driveLoss_keeps _)).trans (captureLoss_keeps _)).trans (abortRun_keeps _)

theorem sensorBad_keeps (s : State) : Keeps s (sensorBad s) :=
  .ite (fun _ => .ite (fun _ => keeps_of_vital rfl) fun _ => loseSensor_keeps s) fun _ => keeps_of_vital rfl

/-- A calibration request is answered, and its run begun in Stopped (R158). -/
theorem calibrate_serves (kind tag : Byte) (f : CalFields) {s : State} (hroom : s.link.responses.length < 16) :
    Serves s (railService (calibrate kind tag f s)) := by
  unfold calibrate
  split
  · exact ((Keeps.refl _).served).after_respond (.refl s) hroom
  · next hnone =>
    have hstopped : s.clock.part = .stopped := by
      rw [calRefusal_eq] at hnone
      by_contra hp
      (repeat' split at hnone) <;> cases hnone
    exact (startRun_keeps f (s := respond _ s) hstopped).served.after_respond (.refl s) hroom

/-- The state after power-on reset meets every law (R4). -/
theorem powerOnReset_keeps (rateSel roleSel : StrapLevel) (s : State) :
    Keeps s
      { State.powerOn rateSel roleSel with pending := s.pending, tieBreak := s.tieBreak, rlin := s.rlin } where
  reports _ := Nat.zero_le _
  rail _ := ⟨Nat.zero_le _, Nat.zero_le _, Nat.zero_le _⟩
  releaseAll _ := Nat.zero_le _
  capture _ := by
    have : announcedKeys (State.powerOn rateSel roleSel) = 0 := by
      rw [announcedKeys_eq_countP]
      exact Vector.countP_eq_zero.mpr fun c hc => by rw [Vector.eq_of_mem_replicate hc]; simp [CaptureContext.clear]
    change 0 + announcedKeys (State.powerOn rateSel roleSel) ≤ 128
    omega
  responses _ := .inl (Nat.zero_le _)
  run _ h := by cases h
  probe _ c hc := by cases hc
  room _ := Nat.zero_lt_succ _
  line f n h := by cases h
  pedals _ p := by simp [State.powerOn, defaultRail, PedalReplay.clear]
  pushes _ := pushesOwned_of_noPush (by simp [State.powerOn, defaultRail])

/-! ## Every command -/

theorem exec_serves (c : Instr) (s : State) : LeadsTo Serves s (exec c s) := by
  have same (s : State) : Serves s s := (Keeps.refl s).serves
  cases c with
  | powerOnReset r q => exact leadsTo_next (powerOnReset_keeps r q s).serves
  | ptTick =>
    have ticked : Keeps s (advancePt s) := keeps_of_vital rfl
    refine leadsTo_next ?_
    split
    · exact (ticked.trans (dueNow_keeps _)).served
    · exact same s
  | noteOn _ p =>
    refine leadsTo_next (deliver_serves _ (fun s => ?_) s)
    cases noteOnFields? p with
    | none => exact (discardEvent_keeps s).serves
    | some f => exact takeEvent_serves (intakeNoteOn_keeps f) s
  | noteOff _ p =>
    refine leadsTo_next (deliver_serves _ (fun s => ?_) s)
    cases noteOffFields? p with
    | none => exact (discardEvent_keeps s).serves
    | some f => exact takeEvent_serves (intakeNoteOff_keeps f.1 f.2) s
  | pedalTarget _ p =>
    refine leadsTo_next (deliver_serves _ (fun s => ?_) s)
    cases pedalTargetFields? p with
    | none => exact (discardEvent_keeps s).serves
    | some f => exact takeEvent_serves (intakePedal_keeps f) s
  | configure tag p => exact leadsTo_next (request_serves _ _ p _ (fun _ h => doConfigure_serves tag h p) s)
  | start tag p => exact leadsTo_next (request_serves _ _ p _ (fun _ h => doStart_serves tag h) s)
  | hold tag p => exact leadsTo_next (request_serves _ _ p _ (fun _ h => doHold_serves tag h) s)
  | resume tag p => exact leadsTo_next (request_serves _ _ p _ (fun _ h => doResume_serves tag h) s)
  | stop tag p => exact leadsTo_next (request_serves _ _ p _ (fun _ h => doStop_serves tag h) s)
  | restart tag p => exact leadsTo_next (request_serves _ _ p _ (fun _ h => doRestart_serves tag h) s)
  | clearErrors _ p =>
    refine leadsTo_next (request_serves _ _ p _ (fun s h => ?_) s)
    exact (keeps_of_vital rfl : Keeps s { s with sticky := {} }).answered h _
  | clockSet tag p => exact leadsTo_next (request_serves _ _ p _ (fun _ h => doClockSet_serves tag h p) s)
  | clockLatch _ p => exact leadsTo_next (request_serves _ _ p (fun _ => _) (fun _ h => refused_serves h _) s)
  | tableWrite tag p => exact leadsTo_next (deliver_serves _ (unlessFull_serves fun _ h => writeTable_serves tag p h) s)
  | tableRead tag p => exact leadsTo_next (deliver_serves _ (unlessFull_serves fun _ h => readTable_serves tag p h) s)
  | calibrateQuick _ p => exact leadsTo_next (request_serves _ _ p _ (fun _ h => calibrate_serves _ _ _ h) s)
  | calibrateSweep _ p => exact leadsTo_next (request_serves _ _ p _ (fun _ h => calibrate_serves _ _ _ h) s)
  | railPassThrough _ p => exact leadsTo_next (deliver_serves _ (fun s => (takePass_keeps p s).served) s)
  | unknown _ _ _ => exact leadsTo_next (deliver_serves _ (unlessFull_serves fun _ h => refused_serves h _) s)
  | hunt bytes => exact leadsTo_next (keeps_of_vital (feed_vital bytes s)).serves
  | verify bytes => exact leadsTo_next (keeps_of_vital (feed_vital bytes s)).serves
  | crcError bytes =>
    refine leadsTo_next ?_
    split
    · exact (keeps_of_vital (badCheckFrame_vital bytes s)).serves
    · exact (keeps_of_vital (feed_vital bytes s)).serves
  | framingError bytes =>
    refine leadsTo_next ?_
    split
    · exact (keeps_of_vital (returnToHunt_vital bytes _)).serves.after (keeps_of_vital rfl)
    · exact (keeps_of_vital (feed_vital bytes s)).serves
  | linkLossStop =>
    refine leadsTo_next ?_
    split
    · exact (stopTransition_keeps _ (requestReleaseAll_keeps false false) s).served
    · exact same s
  | frameBoundary =>
    refine leadsTo_next ?_
    split
    · exact (choose_keeps _ s).serves
    · split
      · exact (boundary_keeps _ _ s).serves
      · exact same s
  | statusSpacing =>
    refine leadsTo_next ?_
    split
    · split
      · exact (choose_keeps _ s).serves
      · exact same s
    · exact same s
  | idle _ => exact leadsTo_next (sninFrame_serves _ (fun s => (sensorFrame_keeps Keeps.refl s).serves) s)
  | keyTrip note p d _ _ => exact leadsTo_next (sninFrame_serves _ (crossingFrame_serves note _) s)
  | hammerTrip note g stamp _ => exact leadsTo_next (sninFrame_serves _ (crossingFrame_serves note _) s)
  | pedalSample raw1 raw2 raw3 _ =>
    exact leadsTo_next
      (sninFrame_serves _ (fun s => (sensorFrame_keeps (samplePedals_keeps raw1 raw2 raw3) s).serves) s)
  | sensorBadFrame bytes =>
    refine leadsTo_next ?_
    split
    · exact (sensorBad_keeps _).served.after (keeps_of_vital rfl)
    · exact serves_of_vital rfl
  | lossWindowExpiry =>
    refine leadsTo_next ?_
    split
    · exact (loseSensor_keeps s).served
    · exact same s
  | pushTimerExpiry k =>
    refine leadsTo_next ?_
    split
    · next h =>
      obtain ⟨_, hsent, _⟩ := h
      exact (Keeps.ite (fun _ => setDrive_keeps (.inl ⟨rfl, rfl, rfl⟩)) fun _ =>
        endPush_keeps (not_pushWaits_of_sent hsent) : Keeps s (pushTimerEnds k s)).served
    · exact same s
  | gateTimerExpiry k =>
    have stopped : Keeps s (setDrive k { s.drive[k] with gateTimer := none } s) := setDrive_keeps (.inl ⟨rfl, rfl, rfl⟩)
    exact leadsTo_next (Keeps.ite (fun _ => stopped.trans (closeOpen_keeps k _)) fun _ => .refl s).serves
  | restTimerExpiry k | sensorlessReleaseTimer k =>
    refine leadsTo_next ?_
    split
    · next h => exact (comeToRest_keeps (not_pushWaits_of_state h.1 (by simp))).served
    · exact same s
  | captureGateTimeout k =>
    exact leadsTo_next (Keeps.ite (fun _ => captureTimeout_keeps k s) fun _ => .refl s).serves
  | restWaitExpiry =>
    refine leadsTo_next ?_
    split
    · exact same s
    · next c hc =>
      exact (beginSettle_keeps (run_of_timerDue hc)).serves
  | settleExpiry =>
    refine leadsTo_next ?_
    split
    · exact same s
    · next c hc =>
      exact (settleEnds_keeps (run_of_timerDue hc)).served
  | rateGapEnd p => exact leadsTo_next (endGapIfOver_keeps p s).serves
  | ack tag p => exact leadsTo_next (rlinFrame_serves _ (fun s => (takeAck_keeps tag p s).served) s)
  | railReply p _ => exact leadsTo_next (rlinFrame_serves _ (fun s => (takeReply_keeps p s).serves) s)
  | railUnexpectedFrame _ _ _ =>
    refine leadsTo_next (rlinFrame_serves _ (fun s => ?_) s)
    exact (Keeps.ite (fun _ => .refl s) fun _ => railFault_keeps s).serves
  | railBadFrame _ => exact leadsTo_next (serves_of_vital rfl)
  | acknowledgementWindow => exact leadsTo_next (Keeps.ite (fun _ => railFault_keeps s) fun _ => .refl s).serves
  | railTransmitEnd =>
    refine leadsTo_next ?_
    split
    · exact (Keeps.refl s).served
    · split
      · exact (railServiceAt_serves _ _).after (endRailFrame_keeps _ s)
      · exact same s
  | parkTimer =>
    refine leadsTo_next ?_
    split
    · exact (parkExpires_keeps s).served
    · exact same s
  | discardedSensorFrame _ _ _ =>
    exact leadsTo_next (sninFrame_serves _ (fun s => (sensorFrame_keeps Keeps.refl s).serves) s)

/-! ## Every step -/

theorem emptied_vital (l : LineIn) (s : State) : vital (emptied l s) = vital s := by cases l <;> rfl

theorem takeBehind_vital (l : LineIn) (rest : List Byte) (s : State) : vital (takeBehind l rest s) = vital s := by
  cases l with
  | plin => exact feed_vital rest s
  | snin => rfl
  | rlin => rfl

theorem takeUp_serves (r : Raised) (s : State) : LeadsTo Serves s (takeUp r s) := by
  cases r with
  | event c => exact exec_serves c s
  | frame l c rest =>
    intro t h
    unfold takeUp at h
    simp only at h
    split at h
    · next u hu =>
      cases h
      exact ((exec_serves c _ u hu).after (keeps_of_vital (emptied_vital l s))).then_vital (takeBehind_vital l rest u)
    · cases h
    · cases h

theorem step_serves {s t : State} (h : step s = .next t) : Serves s t := by
  unfold step at h
  split at h
  · unfold idleStep at h
    split at h
    · unfold endMoment at h
      split at h
      · exact exec_serves _ s t h
      · cases h
        exact serves_of_vital rfl
    · exact takeUp_serves _ s t h
    · exact (takeUp_serves _ _ t h).after (keeps_of_vital rfl)
  · next c rest _ => exact (exec_serves c _ t h).after (keeps_of_vital rfl)

/-! ## The statements -/

/-- A full Report FIFO loses its oldest report (R100). -/
theorem addReport_full {r oldest : Report} {rest : List Report} {s : State} (h : s.reports = oldest :: rest)
    (hfull : s.reports.length = 64) :
    addReport r s = { s with reports := rest ++ [r], sticky := { s.sticky with reportsLost := true } } := by
  unfold addReport
  rw [if_neg (by omega), h]
  rfl

/-- Settles O7: every step keeps each bound, as every operation does. -/
theorem storesStayBounded : Obligations.StoresStayBounded :=
  ⟨fun _ _ hs h => (step_serves h).reports hs, fun _ _ hs h => (step_serves h).rail hs,
    fun _ _ hs h => (step_serves h).releaseAll hs, fun _ _ hs h => (step_serves h).responses hs,
    fun _ _ hs h => (step_serves h).capture hs, fun _ _ => ⟨fun h => if_pos h, fun _ _ h hfull => addReport_full h hfull⟩,
    announcedKeys_eq⟩

/-- Settles O13: every step keeps the owners of PedalSets and Pushes, and the probe driven by its run. -/
theorem requestsStayOwned : Obligations.RequestsStayOwned :=
  ⟨fun _ _ hs h => (step_serves h).pedals hs, fun _ _ hs h => ⟨(step_serves h).pushes hs, (step_serves h).run hs.2⟩,
    fun _ _ hs h => ⟨(step_serves h).probe hs, (step_serves h).run hs.2⟩⟩

/-- Settles O14: the one Push a step can send was owned at its sending. -/
theorem pushesAreSentOnlyInPerformance : Obligations.PushesAreSentOnlyInPerformance := by
  intro s t hs hrun h x hx hnew hkind
  have hline : onLine t = some (x.frame, x.start) := by simp [onLine, hx]
  rcases (step_serves h).sends ⟨hs, hrun⟩ _ _ hline with hold | hother | hallowed
  · exact absurd hold hnew
  · exact absurd hkind hother
  · exact hallowed.imp_right fun ⟨hp, k, channel, level, hjob, hpayload⟩ => ⟨hp, k, channel, level, hjob, hpayload⟩

end Sys2Proof.LawProofs
end

section
/-! PROOFS. A drive context under its key's crossings and its timers: the end of a push, a G2, the rest of a Releasing
context and the end of a pedal's rate gap (R87, R89, R90, R92 to R96, R102, R103, R107, R108). -/

namespace Sys2Proof.LawProofs

open Sys2Proof Sys2Proof.Machine Sys2Proof.TableProofs Sys2Proof.StrikeProofs Sys2Proof.RailListProofs

/-! ## The end of a push (R89, R96, R104) -/

/-- The report of a strike whose measurement closes NotMeasured (R96, R98). -/
abbrev notMeasuredReport (d : DriveContext) (st : Strike) : Report :=
  driveReport st (d.issue.getD 0) st.level 0 0 { strikeFlags st with notMeasured := true }

section PushEnd

variable {k : Key} {s : State}

/-- A context carries no open measurement with the NotMeasured mark, or carries one. -/
theorem marked_of_not_unmarked {d : DriveContext} (h : ¬(d.measuring = false ∨ d.notMeasured = false)) :
    d.measuring = true ∧ d.notMeasured = true := by
  simpa only [not_or, Bool.not_eq_false] using h

/-- A strike's push ends with its Hold (R89); what closes next is a marked measurement (R96). -/
theorem endPush_strike {st : Strike} (hj : (s.drive[k]).job = some (.strike st)) :
    endPush k s =
      closeMarked k
        (requestRail (.hold k st.channel (s.tables.cal[k]).holdLevel)
          (setDrive k { s.drive[k] with state := .holding, pushTimer := none } s)) := by
  unfold endPush
  simp only [hj]

theorem endPush_strike_unmarked {st : Strike} (hj : (s.drive[k]).job = some (.strike st))
    (h : (s.drive[k]).measuring = false ∨ (s.drive[k]).notMeasured = false) :
    endPush k s =
      requestRail (.hold k st.channel (s.tables.cal[k]).holdLevel)
        (setDrive k { s.drive[k] with state := .holding, pushTimer := none } s) := by
  rw [endPush_strike hj, closeMarked_unmarked]
  rw [requestRail_drive, setDrive_self]
  exact h

theorem endPush_strike_marked {st : Strike} (hj : (s.drive[k]).job = some (.strike st))
    (h : ¬((s.drive[k]).measuring = false ∨ (s.drive[k]).notMeasured = false)) :
    endPush k s =
      addReport (notMeasuredReport s.drive[k] st)
        (requestRail (.hold k st.channel (s.tables.cal[k]).holdLevel)
          (setDrive k
            { s.drive[k] with state := .holding, pushTimer := none, measuring := false, gateTimer := none } s)) := by
  obtain ⟨hm, hn⟩ := marked_of_not_unmarked h
  rw [endPush_strike hj, @closeMarked_strike k st, requestRail_drive, setDrive_self, setDrive_requestRail,
    setDrive_setDrive]
  all_goals rw [requestRail_drive, setDrive_self]
  · exact hm
  · exact hn
  · exact hj

variable {channel level : Nat}

/-- A probe's push ends with its Release (R104). -/
theorem endPush_probe (hj : (s.drive[k]).job = some (.probe channel level)) : endPush k s = beginRelease k s := by
  unfold endPush
  simp only [hj]

theorem endPush_probe_unmarked (hj : (s.drive[k]).job = some (.probe channel level))
    (h : (s.drive[k]).measuring = false ∨ (s.drive[k]).notMeasured = false) :
    endPush k s =
      requestRail (.release k channel)
        (setDrive k { s.drive[k] with state := .releasing, rearmed := false, pushTimer := none } s) := by
  rw [endPush_probe hj, beginRelease_probe hj, if_neg]
  rintro ⟨hm, hn⟩
  rw [hm, hn] at h
  simp at h

theorem endPush_probe_marked (hj : (s.drive[k]).job = some (.probe channel level))
    (h : ¬((s.drive[k]).measuring = false ∨ (s.drive[k]).notMeasured = false)) :
    endPush k s =
      requestRail (.release k channel)
        (setDrive k
          { s.drive[k] with
            state := .releasing, rearmed := false, pushTimer := none, measuring := false, gateTimer := none } s) := by
  rw [endPush_probe hj, beginRelease_probe hj, if_pos (marked_of_not_unmarked h)]

end PushEnd

/-! ## Coming to rest (R92, R93, R95) -/

section Rest

variable {k : Key} {s : State}

theorem closeOpen_measuring (h : (s.drive[k]).measuring = true) :
    closeOpen k s =
      closeMeasurement k (if (s.drive[k]).notMeasured = true then .notMeasured else .noArrival) s := by
  unfold closeOpen
  simp only [h, if_true]

theorem comeToRest_closed (h : (s.drive[k]).measuring = false) : comeToRest k s = becomeIdle k s := by
  rw [comeToRest, closeOpen_closed k s h]

theorem comeToRest_measuring (h : (s.drive[k]).measuring = true) :
    comeToRest k s =
      becomeIdle k
        (closeMeasurement k (if (s.drive[k]).notMeasured = true then .notMeasured else .noArrival) s) := by
  rw [comeToRest, closeOpen_measuring h]

theorem comeToRest_closed_other (hr : ∀ c, s.run = some c → c.current ≠ k) (h : (s.drive[k]).measuring = false) :
    comeToRest k s = setCapture k CaptureContext.clear (setDrive k DriveContext.clear s) := by
  rw [comeToRest_closed h, becomeIdle_other k s hr]

theorem comeToRest_strike_other {st : Strike} (hr : ∀ c, s.run = some c → c.current ≠ k)
    (h : (s.drive[k]).measuring = true) (hj : (s.drive[k]).job = some (.strike st)) :
    comeToRest k s =
      addReport
        (driveReport st ((s.drive[k]).issue.getD 0) st.level 0 0
          (if (s.drive[k]).notMeasured = true then { strikeFlags st with notMeasured := true }
            else { strikeFlags st with noArrival := true }))
        (setCapture k CaptureContext.clear (setDrive k DriveContext.clear s)) := by
  rw [comeToRest, closeOpen_strike h hj, becomeIdle_other, setDrive_addReport, setCapture_addReport, setDrive_setDrive]
  intro c hc
  rw [addReport_run, setDrive_run] at hc
  exact hr c hc

end Rest

/-! ## A driven key's crossings (R87, R89, R90, R92, R94, R102, R103) -/

/-- A context with a G1 recorded by its open measurement (R94). -/
def g1Noted (stamp : Stamp) (d : DriveContext) : DriveContext :=
  if d.measuring = true then { d with g1 := some stamp } else d

/-- The record of a G1 leaves the rest of the context alone. -/
theorem g1Noted_fields (stamp : Stamp) (d : DriveContext) :
    (g1Noted stamp d).job = d.job ∧ (g1Noted stamp d).measuring = d.measuring ∧
      (g1Noted stamp d).notMeasured = d.notMeasured ∧ (g1Noted stamp d).issue = d.issue := by
  unfold g1Noted
  split <;> exact ⟨rfl, rfl, rfl, rfl⟩

theorem recordG1_noted (k : Key) (stamp : Stamp) (s : State) :
    recordG1 k stamp s = setDrive k (g1Noted stamp s.drive[k]) s := recordG1_eq k stamp s

section Crossings

variable {k : Key} {s : State}

theorem driveCrossing_restarting (h : (s.drive[k]).restarting = true) (x : Crossing) (time : PT) :
    driveCrossing k x time s = s := by
  unfold driveCrossing
  simp only [h, if_true]

theorem driveCrossing_waiting (hp : (s.drive[k]).state = .pushing) (hw : (s.drive[k]).stage = .waiting) (x : Crossing)
    (time : PT) : driveCrossing k x time s = s := by
  unfold driveCrossing
  simp only [hp, hw, ite_self]

variable (hr : (s.drive[k]).restarting = false)

include hr

/-- A G1 after the sending ends the push; on a Faulted rail it is recorded alone (R89, R94, R102). -/
theorem driveCrossing_g1_sent (hp : (s.drive[k]).state = .pushing) (hs : (s.drive[k]).stage = .sent) (stamp : Stamp)
    (time : PT) :
    driveCrossing k (.g1 stamp) time s =
      if s.rail.state = .faulted then recordG1 k stamp s else endPush k (recordG1 k stamp s) := by
  unfold driveCrossing
  simp only [hr, hp, hs, Bool.false_eq_true, if_false]

theorem driveCrossing_g1_ended (hs : (s.drive[k]).state = .holding ∨ (s.drive[k]).state = .releasing) (stamp : Stamp)
    (time : PT) : driveCrossing k (.g1 stamp) time s = recordG1 k stamp s := by
  unfold driveCrossing
  rcases hs with hs | hs
  all_goals simp only [hr, hs, Bool.false_eq_true, if_false]

theorem driveCrossing_g2 (hi : (s.drive[k]).state ≠ .idle)
    (hs : (s.drive[k]).state = .pushing → (s.drive[k]).stage = .sent) (stamp : Stamp) (time : PT) :
    driveCrossing k (.g2 stamp) time s = measureG2 k stamp time s := by
  unfold driveCrossing
  cases hst : (s.drive[k]).state with
  | idle => exact absurd hst hi
  | pushing => simp only [hr, hst, hs hst, Bool.false_eq_true, if_false]
  | holding => simp only [hr, hst, Bool.false_eq_true, if_false]
  | releasing => simp only [hr, hst, Bool.false_eq_true, if_false]

/-- The key's own contacts mean something to a Releasing context alone (R90, R92). -/
theorem driveCrossing_releasing (hs : (s.drive[k]).state = .releasing) (time : PT) :
    driveCrossing k .k2Up time s = setDrive k { s.drive[k] with rearmed := true } s ∧
      driveCrossing k .k2Down time s = setDrive k { s.drive[k] with rearmed := false } s ∧
      driveCrossing k .k1Down time s = s ∧ driveCrossing k .k1Up time s = comeToRest k s := by
  unfold driveCrossing
  simp only [hr, hs, Bool.false_eq_true, if_false, and_self]

theorem driveCrossing_contacts (hs : (s.drive[k]).state = .pushing ∨ (s.drive[k]).state = .holding) (time : PT) :
    driveCrossing k .k1Down time s = s ∧ driveCrossing k .k1Up time s = s ∧
      driveCrossing k .k2Down time s = s ∧ driveCrossing k .k2Up time s = s := by
  rcases hs with hs | hs
  · cases hg : (s.drive[k]).stage with
    | waiting => simp only [driveCrossing_waiting hs hg, and_self]
    | sent =>
      unfold driveCrossing
      simp only [hr, hs, hg, Bool.false_eq_true, if_false, and_self]
  · unfold driveCrossing
    simp only [hr, hs, Bool.false_eq_true, if_false, and_self]

end Crossings

/-- A G2 is ignored unless its measurement is open, unmarked and has its G1 (R94, R96). -/
theorem measureG2_ignored {k : Key} {s : State}
    (h : (s.drive[k]).measuring = false ∨ (s.drive[k]).notMeasured = true ∨ (s.drive[k]).g1 = none) (stamp : Stamp)
    (time : PT) : measureG2 k stamp time s = s := by
  unfold measureG2
  rcases h with h | h | h
  · simp only [h, Bool.false_and]
  · simp only [h, Bool.not_true, Bool.and_false]
  · simp only
    rw [h]
    cases (s.drive[k]).measuring && !(s.drive[k]).notMeasured <;> rfl

theorem measureG2_arrived {k : Key} {s : State} {g1 : Stamp} (hm : (s.drive[k]).measuring = true)
    (hn : (s.drive[k]).notMeasured = false) (hg : (s.drive[k]).g1 = some g1) (stamp : Stamp) (time : PT) :
    measureG2 k stamp time s = closeMeasurement k (.arrived g1 stamp time) s := by
  unfold measureG2
  simp only [hm, hn, hg, Bool.not_false, Bool.and_self]

/-- The end of a push at its G1, by the job of its context (R89, R96, R104). -/
theorem endPush_noted (s : State) (k : Key) (stamp : Stamp) :
    let d := s.drive[k]
    let noted := g1Noted stamp d
    let unmarked := d.measuring = false ∨ d.notMeasured = false
    let e := setDrive k noted s
    (∀ st, d.job = some (.strike st) →
      (unmarked →
        endPush k e =
          requestRail (.hold k st.channel (s.tables.cal[k]).holdLevel)
            (setDrive k { noted with state := .holding, pushTimer := none } s)) ∧
      (¬unmarked →
        endPush k e =
          addReport (notMeasuredReport d st)
            (requestRail (.hold k st.channel (s.tables.cal[k]).holdLevel)
              (setDrive k { noted with state := .holding, pushTimer := none, measuring := false, gateTimer := none }
                s)))) ∧
    ∀ channel level, d.job = some (.probe channel level) →
      (unmarked →
        endPush k e =
          requestRail (.release k channel)
            (setDrive k { noted with state := .releasing, rearmed := false, pushTimer := none } s)) ∧
      (¬unmarked →
        endPush k e =
          requestRail (.release k channel)
            (setDrive k
              { noted with
                state := .releasing, rearmed := false, pushTimer := none, measuring := false, gateTimer := none } s)) := by
  intro d noted unmarked e
  obtain ⟨hjob, hmeasuring, hmark, hissue⟩ := g1Noted_fields stamp d
  have hdrive : e.drive[k] = noted := setDrive_self k noted s
  have hunmarked : ((e.drive[k]).measuring = false ∨ (e.drive[k]).notMeasured = false) ↔ unmarked := by
    rw [hdrive, hmeasuring, hmark]
  constructor
  · intro st hj
    have hej : (e.drive[k]).job = some (.strike st) := by rw [hdrive, hjob, hj]
    have hreport : notMeasuredReport noted st = notMeasuredReport d st := by
      rw [notMeasuredReport, show noted.issue = d.issue from hissue]
    constructor
    · intro h
      rw [endPush_strike_unmarked hej (hunmarked.mpr h), hdrive, setDrive_setDrive]
      rfl
    · intro h
      rw [endPush_strike_marked hej (mt hunmarked.mp h), hdrive, hreport, setDrive_setDrive]
      rfl
  · intro channel level hj
    have hej : (e.drive[k]).job = some (.probe channel level) := by rw [hdrive, hjob, hj]
    constructor
    · intro h
      rw [endPush_probe_unmarked hej (hunmarked.mpr h), hdrive, setDrive_setDrive]
    · intro h
      rw [endPush_probe_marked hej (mt hunmarked.mp h), hdrive, setDrive_setDrive]

/-- Settles O52: the crossings of a driven key by the state of its context. -/
theorem driveContextsFollowKeys : Obligations.DriveContextsFollowKeys := by
  intro s k time stamp d put noted unmarked
  refine ⟨fun h x => driveCrossing_restarting h x time, fun hr => ⟨fun hp hw x => driveCrossing_waiting hp hw x time,
    fun hp hs => ⟨fun hf => ?_, fun hf => ?_⟩, fun hs => ?_, fun hi hs => ⟨fun h => ?_, fun g1 hm hn hg => ?_⟩,
    fun hs => ?_, fun hs => driveCrossing_contacts hr hs time⟩⟩
  · rw [driveCrossing_g1_sent hr hp hs, if_pos hf]
    exact recordG1_noted k stamp s
  · rw [driveCrossing_g1_sent hr hp hs, if_neg hf, recordG1_noted]
    exact endPush_noted s k stamp
  · rw [driveCrossing_g1_ended hr hs]
    exact recordG1_noted k stamp s
  · rw [driveCrossing_g2 hr hi hs, measureG2_ignored h]
  · rw [driveCrossing_g2 hr hi hs, measureG2_arrived hm hn hg]
  · obtain ⟨hk2Up, hk2Down, hk1Down, hk1Up⟩ := driveCrossing_releasing hr hs time
    rw [hk1Up]
    exact ⟨hk2Up, hk2Down, hk1Down, comeToRest_closed, comeToRest_measuring, fun hother =>
      ⟨comeToRest_closed_other hother, fun st hm hj => comeToRest_strike_other hother hm hj⟩⟩

/-! ## The timers of a drive context (R89, R92, R93, R95) -/

section Timers

variable {k : Key} {s : State}

theorem exec_pushTimer_due (hp : (s.drive[k]).state = .pushing) (hs : (s.drive[k]).stage = .sent)
    (hd : ∃ n, (s.drive[k]).pushTimer = some n ∧ n ≤ s.localTime) :
    exec (.pushTimerExpiry k) s = .next (railService (pushTimerEnds k s)) :=
  congrArg Host.Outcome.next (if_pos ⟨hp, hs, (timerDue_iff _ _).mpr hd⟩)

theorem exec_pushTimer_early
    (h : (s.drive[k]).state ≠ .pushing ∨ (s.drive[k]).stage ≠ .sent ∨
      ¬∃ n, (s.drive[k]).pushTimer = some n ∧ n ≤ s.localTime) :
    exec (.pushTimerExpiry k) s = .next s := by
  refine congrArg Host.Outcome.next (if_neg ?_)
  rintro ⟨hp, hs, hd⟩
  exact h.elim (· hp) (·.elim (· hs) (· ((timerDue_iff _ _).mp hd)))

/-- The end of a push at its push timer on a rail that is not Faulted (R89). -/
theorem pushTimerEnds_running (h : s.rail.state ≠ .faulted) : pushTimerEnds k s = endPush k s := if_neg h

theorem exec_gateTimer_due (hd : ∃ n, (s.drive[k]).gateTimer = some n ∧ n ≤ s.localTime) :
    exec (.gateTimerExpiry k) s = .next (closeOpen k (setDrive k { s.drive[k] with gateTimer := none } s)) :=
  congrArg Host.Outcome.next (if_pos ((timerDue_iff _ _).mpr hd))

theorem exec_gateTimer_early (hd : ¬∃ n, (s.drive[k]).gateTimer = some n ∧ n ≤ s.localTime) :
    exec (.gateTimerExpiry k) s = .next s :=
  congrArg Host.Outcome.next (if_neg (mt (timerDue_iff _ _).mp hd))

/-- The close of a probe's measurement stops its gate timer, stopped before or not (R95, R104). -/
theorem closeOpen_gate_probe {channel level : Nat} (hm : (s.drive[k]).measuring = true)
    (hj : (s.drive[k]).job = some (.probe channel level)) :
    closeOpen k (setDrive k { s.drive[k] with gateTimer := none } s) =
      closeMeasurement k (if (s.drive[k]).notMeasured = true then .notMeasured else .noArrival) s := by
  have hdrive : (setDrive k { s.drive[k] with gateTimer := none } s).drive[k] = { s.drive[k] with gateTimer := none } :=
    setDrive_self _ _ _
  rw [closeOpen_measuring (by rw [hdrive]; exact hm),
    closeMeasurement_probe (channel := channel) (level := level) _ (by rw [hdrive]; exact hj),
    closeMeasurement_probe _ hj, hdrive, setDrive_setDrive]
  rfl

theorem closeOpen_gate_strike {st : Strike} (hm : (s.drive[k]).measuring = true)
    (hj : (s.drive[k]).job = some (.strike st)) :
    closeOpen k (setDrive k { s.drive[k] with gateTimer := none } s) =
      addReport
        (driveReport st ((s.drive[k]).issue.getD 0) st.level 0 0
          (if (s.drive[k]).notMeasured = true then { strikeFlags st with notMeasured := true }
            else { strikeFlags st with noArrival := true }))
        (setDrive k { s.drive[k] with gateTimer := none, measuring := false } s) := by
  have hdrive : (setDrive k { s.drive[k] with gateTimer := none } s).drive[k] = { s.drive[k] with gateTimer := none } :=
    setDrive_self _ _ _
  rw [closeOpen_strike (st := st) (by rw [hdrive]; exact hm) (by rw [hdrive]; exact hj), hdrive, setDrive_setDrive]

/-- The timer of a Releasing context that brings it to rest, and its expiry (R92, R93). -/
def RestsAt (c : Instr) (timer : Option Nat) (k : Key) (s : State) : Prop :=
  c = .restTimerExpiry k ∧ timer = (s.drive[k]).restTimer ∨
    c = .sensorlessReleaseTimer k ∧ timer = (s.drive[k]).sensorlessTimer

theorem exec_restTimers {c : Instr} {timer : Option Nat} (h : RestsAt c timer k s) :
    exec c s =
      .next
        (if (s.drive[k]).state = .releasing ∧ timerDue s.localTime timer then railService (comeToRest k s) else s) := by
  rcases h with ⟨rfl, rfl⟩ | ⟨rfl, rfl⟩ <;> rfl

end Timers

/-! ## The end of a pedal's rate gap (R107, R108) -/

theorem gapOver_iff (p : Pedal) (s : State) :
    gapOver p s = true ↔ ∀ us ∈ (s.replay[p]).lastSent, us + (s.tables.pedal[p]).rateGap * 1000 ≤ s.localTime := by
  unfold gapOver
  cases (s.replay[p]).lastSent <;> simp

theorem exec_rateGapEnd_over {p : Pedal} {s : State}
    (h : ∀ us ∈ (s.replay[p]).lastSent, us + (s.tables.pedal[p]).rateGap * 1000 ≤ s.localTime) :
    exec (.rateGapEnd p) s = .next (endGap p s) :=
  congrArg Host.Outcome.next (if_pos ((gapOver_iff p s).mpr h))

theorem exec_rateGapEnd_kept {p : Pedal} {s : State}
    (h : (s.replay[p]).state = .ready ∨ (s.replay[p]).state = .requested ∨
      ¬∀ us ∈ (s.replay[p]).lastSent, us + (s.tables.pedal[p]).rateGap * 1000 ≤ s.localTime) :
    exec (.rateGapEnd p) s = .next s := by
  refine congrArg Host.Outcome.next ?_
  unfold endGapIfOver endGap
  rcases h with h | h | h
  · rw [h]
    exact ite_self s
  · rw [h]
    exact ite_self s
  · exact if_neg (mt (gapOver_iff p s).mp h)

/-- Settles O54: each timer at its time, and before it. -/
theorem driveTimersExpire : Obligations.DriveTimersExpire := by
  refine ⟨fun s k => ?_, fun s p => ⟨fun hs h => ?_, fun position hs hp h => ?_, exec_rateGapEnd_kept⟩⟩
  · intro d put due gives unmarked outcome flags
    refine ⟨fun hp hs hd => ?_, exec_pushTimer_early, fun hd => ⟨fun hm => ?_, fun channel level hm hj => ?_,
      fun st hm hj => ?_⟩, exec_gateTimer_early, fun c timer hc => ?_⟩
    · have ends {e : State} (h : pushTimerEnds k s = e) : gives (.pushTimerExpiry k) e :=
        after_of_service (exec_pushTimer_due hp hs hd) h
      refine ⟨fun hf => ends (if_pos hf), fun hf => ⟨fun st hj => ⟨fun h => ?_, fun h => ?_⟩,
        fun channel level hj => ⟨fun h => ?_, fun h => ?_⟩⟩⟩
      · exact ends ((pushTimerEnds_running hf).trans (endPush_strike_unmarked hj h))
      · exact ends ((pushTimerEnds_running hf).trans (endPush_strike_marked hj h))
      · exact ends ((pushTimerEnds_running hf).trans (endPush_probe_unmarked hj h))
      · exact ends ((pushTimerEnds_running hf).trans (endPush_probe_marked hj h))
    · rw [exec_gateTimer_due hd, closeOpen_closed]
      · rfl
      · rw [setDrive_self]; exact hm
    · rw [exec_gateTimer_due hd, closeOpen_gate_probe hm hj]
    · rw [exec_gateTimer_due hd, closeOpen_gate_strike hm hj]
      rfl
    · have hexec := exec_restTimers (k := k) (s := s) hc
      refine ⟨fun h => hexec.trans (congrArg Host.Outcome.next (if_neg ?_)), fun hs hd => ?_⟩
      · rintro ⟨hs, hd⟩
        exact h.elim (· hs) (· ((timerDue_iff _ _).mp hd))
      · rw [if_pos ⟨hs, (timerDue_iff _ _).mpr hd⟩] at hexec
        have rests {e : State} (h : comeToRest k s = e) : gives c e := after_of_service hexec h
        exact ⟨fun hm => rests (comeToRest_closed hm), fun hm => rests (comeToRest_measuring hm), fun hother =>
          ⟨fun hm => rests (comeToRest_closed_other hother hm),
            fun st hm hj => rests (comeToRest_strike_other hother hm hj)⟩⟩
  · rw [exec_rateGapEnd_over h, endGap_spacing hs]
    rfl
  · rw [exec_rateGapEnd_over h, endGap_waiting hs hp]
    exact ⟨fun ha => congrArg Host.Outcome.next (if_pos ha),
      fun ha => congrArg Host.Outcome.next (if_neg (ha.trans_ne (by simp)))⟩

end Sys2Proof.LawProofs
end

section
/-! PROOFS. The loss of the Sensor Link (R93, R96, R104, R122, R138, R167): what the loss notice does to one drive context
and to all, to a run in flight, and what the Rail Controller's taking of commands leaves of it. -/

namespace Sys2Proof.LawProofs

open Sys2Proof Sys2Proof.Machine Sys2Proof.TableProofs Sys2Proof.StrikeProofs Sys2Proof.RailListProofs

/-! ## Reports in order (R100) -/

/-- The Report FIFO and the sticky flags with one report more. -/
def logOne (log : List Report × Sticky) (r : Report) : List Report × Sticky :=
  if log.1.length < 64 then (log.1 ++ [r], log.2) else (log.1.drop 1 ++ [r], { log.2 with reportsLost := true })

/-- The Report FIFO and the sticky flags with several reports more, in order. -/
def logged (rs : List Report) (log : List Report × Sticky) : List Report × Sticky := rs.foldl logOne log

theorem addReport_logged (r : Report) (s : State) :
    addReport r s =
      { s with reports := (logOne (s.reports, s.sticky) r).1, sticky := (logOne (s.reports, s.sticky) r).2 } := by
  unfold addReport logOne
  simp only
  split <;> rfl

/-- Reports touch the Report FIFO and the sticky flags alone. -/
theorem addReports_logged (rs : List Report) (s : State) :
    addReports rs s =
      { s with reports := (logged rs (s.reports, s.sticky)).1, sticky := (logged rs (s.reports, s.sticky)).2 } := by
  induction rs generalizing s with
  | nil => rfl
  | cons r rs ih =>
    change addReports rs (addReport r s) = _
    rw [ih, addReport_logged]
    rfl

/-! ## The notice to one drive context (R93, R96) -/

/-- An open measurement whose push is over, or that is met on a Faulted rail (R96; log entry 12). -/
def closesAtLoss (faulted : Bool) (d : DriveContext) : Bool :=
  d.measuring && (decide (d.state ≠ .pushing) || faulted)

/-- A context whose open measurement got the NotMeasured mark (R96). -/
def measuredAtLoss (faulted : Bool) (d : DriveContext) : DriveContext :=
  if closesAtLoss faulted d = true then { d with notMeasured := true, measuring := false, gateTimer := none }
  else if d.measuring = true then { d with notMeasured := true }
  else d

/-- The report of a strike whose measurement closes at the loss (R96). -/
def lossReport (faulted : Bool) (d : DriveContext) : Option Report :=
  match closesAtLoss faulted d, d.job with
  | true, some (.strike st) => some (notMeasuredReport d st)
  | _, _ => none

/-- A Releasing context whose Release was sent 100 ms ago or more (R93). -/
abbrev RestsAtLoss (now : Nat) (d : DriveContext) : Prop :=
  d.state = .releasing ∧ ∃ sent ∈ d.releaseSent, sent + 100000 ≤ now

/-- The sensorless release timer of a context whose Release was sent (R93). -/
def sensorlessAtLoss (d : DriveContext) : Option Nat :=
  match d.releaseSent with
  | none => d.sensorlessTimer
  | some sent => some (sent + 100000)

/-- A drive context after the loss notice (R93, R96). -/
def lossContext (faulted : Bool) (now : Nat) (d : DriveContext) : DriveContext :=
  if RestsAtLoss now d then DriveContext.clear
  else if d.state = .releasing then { measuredAtLoss faulted d with sensorlessTimer := sensorlessAtLoss d }
  else measuredAtLoss faulted d

/-- The mark leaves alone what the rest of the notice looks at. -/
theorem measuredAtLoss_fields (faulted : Bool) (d : DriveContext) :
    (measuredAtLoss faulted d).state = d.state ∧ (measuredAtLoss faulted d).releaseSent = d.releaseSent ∧
      (measuredAtLoss faulted d).sensorlessTimer = d.sensorlessTimer ∧ (measuredAtLoss faulted d).job = d.job ∧
        (measuredAtLoss faulted d).stage = d.stage := by
  unfold measuredAtLoss
  split
  · exact ⟨rfl, rfl, rfl, rfl, rfl⟩
  · split <;> exact ⟨rfl, rfl, rfl, rfl, rfl⟩

/-- What stays open is marked, and its push is not over (R96). -/
theorem measuredAtLoss_open {faulted : Bool} {d : DriveContext} (h : (measuredAtLoss faulted d).measuring = true) :
    (measuredAtLoss faulted d).notMeasured = true ∧ d.state = .pushing := by
  unfold measuredAtLoss closesAtLoss at h ⊢
  split at h
  · cases h
  · next hc =>
    split at h
    · next hm =>
      rw [if_neg hc, if_pos hm]
      refine ⟨rfl, ?_⟩
      by_contra hp
      simp [hm, hp] at hc
    · next hm => exact absurd h hm

/-- No measurement is left open without the mark (R96). -/
theorem lossContext_marked {faulted : Bool} {now : Nat} {d : DriveContext}
    (h : (lossContext faulted now d).measuring = true) : (lossContext faulted now d).notMeasured = true := by
  unfold lossContext at h ⊢
  split at h
  · cases h
  · next hr =>
    rw [if_neg hr]
    split at h
    · next hs => rw [if_pos hs]; exact (measuredAtLoss_open (faulted := faulted) h).1
    · next hs => rw [if_neg hs]; exact (measuredAtLoss_open h).1

theorem setDrive_unchanged (k : Key) (s : State) : setDrive k s.drive[k] s = s := by
  simp [setDrive]

theorem closeMeasurement_notMeasured (k : Key) (s : State) :
    closeMeasurement k .notMeasured s =
      addReports
        (match (s.drive[k]).job with
          | some (.strike st) => [notMeasuredReport s.drive[k] st]
          | _ => [])
        (setDrive k { s.drive[k] with measuring := false, gateTimer := none } s) := by
  cases hj : (s.drive[k]).job with
  | none =>
    unfold closeMeasurement
    simp only [hj]
    rfl
  | some j =>
    cases j with
    | strike st =>
      rw [closeMeasurement_strike _ hj]
      rfl
    | probe channel level =>
      rw [closeMeasurement_probe _ hj, probeOutcome_notMeasured]
      rfl

/-- The mark, and the close of a measurement whose push is over or that is met on a Faulted rail (R96). -/
theorem lossMarks_eq (k : Key) (s : State) :
    lossMarks k s =
      addReports (lossReport (decide (s.rail.state = .faulted)) s.drive[k]).toList
        (setDrive k (measuredAtLoss (decide (s.rail.state = .faulted)) s.drive[k]) s) := by
  unfold lossMarks measuredAtLoss lossReport
  cases hm : (s.drive[k]).measuring with
  | false =>
    have hc : closesAtLoss (decide (s.rail.state = .faulted)) s.drive[k] = false := by
      rw [closesAtLoss, hm, Bool.false_and]
    simp only [hc, hm, Bool.false_eq_true, if_false]
    exact (setDrive_unchanged k s).symm
  | true =>
    have hc : closesAtLoss (decide (s.rail.state = .faulted)) s.drive[k] = true ↔
        ((s.drive[k]).state ≠ .pushing ∨ s.rail.state = .faulted) := by
      rw [closesAtLoss, hm, Bool.true_and, Bool.or_eq_true, decide_eq_true_iff, decide_eq_true_iff]
    simp only [hm, if_true, setDrive_rail]
    by_cases h : (s.drive[k]).state ≠ .pushing ∨ s.rail.state = .faulted
    · rw [if_pos h, closeMeasurement_notMeasured, setDrive_self, setDrive_setDrive, hc.mpr h, if_pos rfl]
      cases (s.drive[k]).job with
      | none => rfl
      | some j => cases j <;> rfl
    · rw [if_neg h, Bool.eq_false_iff.mpr (mt hc.mp h), if_neg Bool.false_ne_true]
      rfl

theorem becomeIdle_clear {k : Key} {s : State} (h : s.capture[k] = CaptureContext.clear) :
    becomeIdle k s = idleReport k (setDrive k DriveContext.clear s) := by
  rw [becomeIdle_eq, madeIdle, ← h]
  simp [setDrive]

/-- A Releasing context's sensorless release timer runs to 100 ms from its Release (R93). -/
def timedAtLoss (d : DriveContext) : DriveContext :=
  if d.state = .releasing then { d with sensorlessTimer := sensorlessAtLoss d } else d

theorem lossReleases_rests {k : Key} {s : State} (h : RestsAtLoss s.localTime s.drive[k]) :
    lossReleases k s = comeToRest k s := by
  obtain ⟨hs, sent, hr, hle⟩ := h
  unfold lossReleases
  simp only [hs, Option.mem_def.mp hr, hle, if_true]

theorem lossReleases_timed {k : Key} {s : State} (h : ¬RestsAtLoss s.localTime s.drive[k]) :
    lossReleases k s = setDrive k (timedAtLoss s.drive[k]) s := by
  unfold lossReleases
  simp only
  split
  · next sent hs hr =>
    rw [if_neg fun hle => h ⟨hs, sent, hr, hle⟩, timedAtLoss, if_pos hs, sensorlessAtLoss, hr]
  · next hunsent =>
    have hsame : timedAtLoss s.drive[k] = s.drive[k] := by
      unfold timedAtLoss
      split
      · next hs =>
        have hr : (s.drive[k]).releaseSent = none := Option.eq_none_iff_forall_ne_some.mpr fun sent => hunsent sent hs
        have hkept : sensorlessAtLoss s.drive[k] = (s.drive[k]).sensorlessTimer := by rw [sensorlessAtLoss, hr]
        rw [hkept]
      · rfl
    rw [hsame, setDrive_unchanged]

/-- A context and the Report FIFO after the loss notice to the context, a run not yet told (R93, R96). -/
def lossOne (k : Key) (s : State) : State :=
  addReports (lossReport (decide (s.rail.state = .faulted)) s.drive[k]).toList
    (setDrive k (lossContext (decide (s.rail.state = .faulted)) s.localTime s.drive[k]) s)

theorem lossOne_eq (k : Key) (s : State) :
    lossOne k s =
      { s with
        drive :=
          s.drive.set k.val (lossContext (decide (s.rail.state = .faulted)) s.localTime s.drive[k]) k.isLt
        reports :=
          (logged (lossReport (decide (s.rail.state = .faulted)) s.drive[k]).toList (s.reports, s.sticky)).1
        sticky :=
          (logged (lossReport (decide (s.rail.state = .faulted)) s.drive[k]).toList (s.reports, s.sticky)).2 } :=
  addReports_logged _ _

theorem setDrive_addReports (k : Key) (c : DriveContext) (rs : List Report) (s : State) :
    setDrive k c (addReports rs s) = addReports rs (setDrive k c s) := by
  rw [addReports_logged, addReports_logged]
  rfl

theorem addReports_drive (rs : List Report) (s : State) : (addReports rs s).drive = s.drive := by
  rw [addReports_logged]

/-- The loss notice to one context: the context and its report, and the run told of one that comes to rest (R93, R96,
R104). -/
theorem lossStep_eq {k : Key} {s : State}
    (h : (s.drive[k]).state ≠ .idle → s.capture[k] = CaptureContext.clear) :
    lossReleases k (lossMarks k s) =
      if RestsAtLoss s.localTime s.drive[k] then idleReport k (lossOne k s) else lossOne k s := by
  let f := decide (s.rail.state = .faulted)
  let d := s.drive[k]
  obtain ⟨hstate, hsent, htimer, -⟩ := measuredAtLoss_fields f d
  have hmarks : lossMarks k s = addReports (lossReport f d).toList (setDrive k (measuredAtLoss f d) s) := lossMarks_eq k s
  have hdrive : (lossMarks k s).drive[k] = measuredAtLoss f d := by
    rw [hmarks]
    simp only [addReports_drive, setDrive_self]
  have hother : (lossMarks k s).localTime = s.localTime ∧ (lossMarks k s).capture = s.capture := by
    rw [hmarks, addReports_logged]
    exact ⟨rfl, rfl⟩
  obtain ⟨htime, hcap⟩ := hother
  have hrests : RestsAtLoss (lossMarks k s).localTime (lossMarks k s).drive[k] ↔ RestsAtLoss s.localTime d := by
    simp only [hdrive, htime, RestsAtLoss, hstate, hsent]
  by_cases hr : RestsAtLoss s.localTime d
  · have hs : d.state = .releasing := hr.1
    have hclosed : (measuredAtLoss f d).measuring = false := by
      by_contra hm
      have hopen := (measuredAtLoss_open (Bool.not_eq_false _ ▸ hm)).2
      rw [hs] at hopen
      cases hopen
    have hclear : (lossMarks k s).capture[k] = CaptureContext.clear := by
      simp only [hcap]
      exact h (hs.trans_ne (by simp))
    rw [if_pos hr, lossReleases_rests (hrests.mpr hr), comeToRest_closed (by rw [hdrive]; exact hclosed),
      becomeIdle_clear hclear, hmarks, setDrive_addReports, setDrive_setDrive, lossOne, lossContext, if_pos hr]
  · have hsensorless : sensorlessAtLoss (measuredAtLoss f d) = sensorlessAtLoss d := by
      rw [sensorlessAtLoss, hsent, htimer, sensorlessAtLoss]
    have htimed : timedAtLoss (measuredAtLoss f d) = lossContext f s.localTime d := by
      rw [timedAtLoss, hsensorless, lossContext, if_neg hr]
      simp only [hstate]
    rw [if_neg hr, lossReleases_timed (mt hrests.mp hr), hdrive, htimed, hmarks, setDrive_addReports, setDrive_setDrive,
      lossOne]

/-! ## The notice to all drive contexts (R93, R96, R104) -/

/-- The state with some other drive contexts, run and rail. -/
def withWork (drive : Vector DriveContext 88) (run : Option CalContext) (rail : Rail) (s : State) : State :=
  { s with drive := drive, run := run, rail := rail }

theorem requestRail_eq_rail (c : RailCmd) (s : State) : requestRail c s = { s with rail := (requestRail c s).rail } := by
  unfold requestRail wake
  cases wakesRail c with
  | false => rfl
  | true =>
    simp only [if_true]
    split <;> rfl

/-- A request looks at the rail and the moment alone (R142, R150). -/
theorem requestRail_rail_congr (c : RailCmd) {s t : State} (hr : t.rail = s.rail) (ht : t.localTime = s.localTime) :
    (requestRail c t).rail = (requestRail c s).rail := by
  unfold requestRail wake
  cases wakesRail c with
  | false => simp only [Bool.false_eq_true, if_false, hr, ht]
  | true =>
    simp only [if_true, hr, ht]
    split <;> rfl

/-- A request leaves a rail Faulted, or not Faulted (R142, R150). -/
theorem requestRail_faulted (c : RailCmd) (s : State) :
    (requestRail c s).rail.state = .faulted ↔ s.rail.state = .faulted := by
  unfold requestRail wake
  cases wakesRail c with
  | false => rfl
  | true =>
    simp only [if_true]
    split
    · next h => simp [h]
    · rfl

/-- A probe taken by an Idle context whose key is not captured: nothing is announced (R104, R124, R161). -/
theorem takeProbe_clear {c : CalContext} {s : State} (h : s.capture[c.current] = CaptureContext.clear) :
    takeProbe c s =
      withWork
        (s.drive.set c.current.val
          { DriveContext.clear with state := .pushing, job := some (.probe c.channel (currentLevel c)) } c.current.isLt)
        (some { c with taken := true }) (requestRail (.push c.current c.channel (currentLevel c)) s).rail s := by
  have hprobe : probePushing c.current c.channel (currentLevel c) s =
      setDrive c.current
        { DriveContext.clear with state := .pushing, job := some (.probe c.channel (currentLevel c)) } s := by
    have hset : s.capture.set c.current.val CaptureContext.clear c.current.isLt = s.capture := by
      rw [← h]
      exact Vector.set_getElem_self _
    have hquiet : (s.capture[c.current]).announced ≠ true := by rw [h]; simp [CaptureContext.clear]
    rw [probePushing, hset, if_neg hquiet]
    rfl
  rw [takeProbe_eq, hprobe, ← setDrive_requestRail, requestRail_eq_rail]
  rfl

/-- What a context of a key that is not captured, become Idle, means to the run is seen in its own drive context, the run
and the rail alone (R104, R161, R163). -/
theorem idleReport_work {k : Key} {s : State} (h : s.capture[k] = CaptureContext.clear) :
    ∃ drive run rail, idleReport k s = withWork drive run rail s ∧ (∀ j, j ≠ k → drive[j] = s.drive[j]) ∧
      ∀ c ∈ run, ∃ c' ∈ s.run, c.current = c'.current := by
  have same : ∃ drive run rail, s = withWork drive run rail s ∧ (∀ j, j ≠ k → drive[j] = s.drive[j]) ∧
      ∀ c ∈ run, ∃ c' ∈ s.run, c.current = c'.current :=
    ⟨s.drive, s.run, s.rail, rfl, fun _ _ => rfl, fun c hc => ⟨c, hc, rfl⟩⟩
  unfold idleReport
  split
  · exact same
  · next c hc =>
    split
    · next hk =>
      split
      · exact ⟨s.drive, some _, s.rail, rfl, fun _ _ => rfl, fun _ hr => ⟨c, hc, by cases hr; rfl⟩⟩
      · split
        · exact same
        · subst hk
          exact ⟨_, _, _, takeProbe_clear h, fun j hj => setDrive_get c.current _ s j |>.trans (if_neg hj),
            fun _ hr => ⟨c, hc, by cases hr; rfl⟩⟩
      · exact same
    · exact same

/-- The notice to one context and what another's rest means to the run do not meet. -/
theorem lossOne_idleReport {j k : Key} {s : State} (hjk : j ≠ k) (h : s.capture[k] = CaptureContext.clear) :
    lossOne j (idleReport k s) = idleReport k (lossOne j s) := by
  have hrun : (lossOne j s).run = s.run := by rw [lossOne_eq]
  have hclear : (lossOne j s).capture[k] = CaptureContext.clear := by rw [lossOne_eq]; exact h
  unfold idleReport
  rw [hrun]
  split
  · rfl
  · next c hc =>
    split
    · next hk =>
      split
      · rw [lossOne_eq, lossOne_eq]
        rfl
      · split
        · rfl
        · subst hk
          have hrail := requestRail_rail_congr (.push c.current c.channel (currentLevel c)) (s := s) (t := lossOne j s)
            (by rw [lossOne_eq]) (by rw [lossOne_eq])
          rw [takeProbe_clear h, takeProbe_clear hclear, hrail, lossOne_eq, lossOne_eq]
          have hne : c.current.val ≠ j.val := fun h => hjk (Fin.ext h.symm)
          simp only [withWork, requestRail_faulted, Fin.getElem_fin, Vector.getElem_set_ne _ _ hne,
            Vector.set_comm _ _ hne]
      · rfl
    · rfl

/-- The run is told of its current note's context when that came to rest (R104, R163). -/
def toldOfRest (ks : List Key) (s t : State) : State :=
  match s.run with
  | none => t
  | some c => if c.current ∈ ks ∧ RestsAtLoss s.localTime s.drive[c.current] then idleReport c.current t else t

/-- The state after the loss notice to several contexts, a run not yet told (R93, R96). -/
def lossAll (ks : List Key) (s : State) : State :=
  addReports (ks.filterMap fun k => lossReport (decide (s.rail.state = .faulted)) s.drive[k])
    { s with
      drive := Vector.ofFn fun k =>
        if k ∈ ks then lossContext (decide (s.rail.state = .faulted)) s.localTime s.drive[k] else s.drive[k] }

theorem lossAll_drive (ks : List Key) (s : State) (k : Key) :
    (lossAll ks s).drive[k] =
      if k ∈ ks then lossContext (decide (s.rail.state = .faulted)) s.localTime s.drive[k] else s.drive[k] := by
  simp only [lossAll, addReports_drive, Fin.getElem_fin, Vector.getElem_ofFn]

theorem lossAll_nil (s : State) : lossAll [] s = s := by
  have hdrive : (Vector.ofFn fun k : Key =>
      if k ∈ [] then lossContext (decide (s.rail.state = .faulted)) s.localTime s.drive[k] else s.drive[k]) = s.drive := by
    ext k hk
    simp
  unfold lossAll
  rw [hdrive]
  rfl

theorem lossAll_concat {ks : List Key} {k : Key} {s : State} (h : k ∉ ks) :
    lossOne k (lossAll ks s) = lossAll (ks ++ [k]) s := by
  let f := decide (s.rail.state = .faulted)
  have hk : (lossAll ks s).drive[k] = s.drive[k] := (lossAll_drive ks s k).trans (if_neg h)
  have hother : (lossAll ks s).rail = s.rail ∧ (lossAll ks s).localTime = s.localTime := by
    rw [lossAll, addReports_logged]
    exact ⟨rfl, rfl⟩
  obtain ⟨hrail, htime⟩ := hother
  have hdrive : (Vector.ofFn fun j : Key =>
        if j ∈ ks then lossContext f s.localTime s.drive[j] else s.drive[j]).set k.val
          (lossContext f s.localTime s.drive[k]) k.isLt =
      Vector.ofFn fun j : Key => if j ∈ ks ++ [k] then lossContext f s.localTime s.drive[j] else s.drive[j] := by
    ext j hj
    rw [Vector.getElem_set, Vector.getElem_ofFn, Vector.getElem_ofFn]
    by_cases hjk : k.val = j
    · subst hjk
      simp
    · have hne : (⟨j, hj⟩ : Key) ≠ k := fun he => hjk (congrArg Fin.val he).symm
      simp [hjk, hne]
  have hreports : (ks ++ [k]).filterMap (fun j => lossReport f s.drive[j]) =
      ks.filterMap (fun j => lossReport f s.drive[j]) ++ (lossReport f s.drive[k]).toList := by
    rw [List.filterMap_append]
    rfl
  rw [lossOne, hk, hrail, htime, lossAll, setDrive_addReports, lossAll]
  change _ = addReports ((ks ++ [k]).filterMap fun j => lossReport f s.drive[j]) _
  rw [hreports, ← hdrive, addReports, addReports, addReports, ← List.foldl_append]
  rfl

/-- What a context become Idle means to the run leaves other contexts, the capture contexts and the current note alone. -/
theorem idleReport_others {k : Key} {s : State} (h : s.capture[k] = CaptureContext.clear) :
    (∀ j, j ≠ k → (idleReport k s).drive[j] = s.drive[j]) ∧ (idleReport k s).capture = s.capture ∧
      (idleReport k s).localTime = s.localTime ∧ ∀ c ∈ (idleReport k s).run, ∃ c' ∈ s.run, c.current = c'.current := by
  obtain ⟨drive, run, rail, he, hdrive, hrun⟩ := idleReport_work h
  rw [he]
  exact ⟨hdrive, rfl, rfl, hrun⟩

theorem foldl_lossStep {ks : List Key} {s : State} (hks : ks.Nodup) (hs : DrivenKeysAtRest s) :
    ks.foldl (fun s k => lossReleases k (lossMarks k s)) s = toldOfRest ks s (lossAll ks s) := by
  induction ks using List.reverseRecOn with
  | nil =>
    rw [lossAll_nil, toldOfRest]
    split
    · rfl
    · exact (if_neg fun h => List.not_mem_nil h.1).symm
  | append_singleton ks k ih =>
    obtain ⟨hks, hk⟩ : ks.Nodup ∧ k ∉ ks := by
      rw [List.nodup_append] at hks
      exact ⟨hks.1, fun h => hks.2.2 k h k (List.mem_singleton_self k) rfl⟩
    rw [List.foldl_concat, ih hks, ← lossAll_concat hk]
    have hdrive : (lossAll ks s).drive[k] = s.drive[k] := (lossAll_drive ks s k).trans (if_neg hk)
    have hsame : (lossAll ks s).run = s.run ∧ (lossAll ks s).localTime = s.localTime ∧
        (lossAll ks s).capture = s.capture := by
      rw [lossAll, addReports_logged]
      exact ⟨rfl, rfl, rfl⟩
    obtain ⟨hrun, htime, hcapture⟩ := hsame
    have hstep := lossStep_eq (k := k) (s := lossAll ks s) (by simp only [hdrive, hcapture]; exact hs k)
    have hlossRun : (lossOne k (lossAll ks s)).run = s.run := by rw [lossOne_eq]; exact hrun
    simp only [hdrive, htime] at hstep
    unfold toldOfRest
    cases hr : s.run with
    | none =>
      simp only [hstep]
      rw [idleReport_other k _ (by rw [hlossRun, hr]; simp), ite_self]
    | some c =>
      simp only
      by_cases hin : c.current ∈ ks ∧ RestsAtLoss s.localTime s.drive[c.current]
      · obtain ⟨hmem, hrest⟩ := hin
        have hne : k ≠ c.current := fun h => hk (h ▸ hmem)
        have hcleared : (lossAll ks s).capture[c.current] = CaptureContext.clear := by
          simp only [hcapture]
          exact hs c.current (hrest.1.trans_ne (by simp))
        obtain ⟨hdriveIdle, hcaptureIdle, htimeIdle, hrunIdle⟩ := idleReport_others hcleared
        have hother : ∀ c' ∈ (idleReport c.current (lossOne k (lossAll ks s))).run, c'.current ≠ k := by
          have hclear : (lossOne k (lossAll ks s)).capture[c.current] = CaptureContext.clear := by
            rw [lossOne_eq]; exact hcleared
          obtain ⟨-, -, -, hcurrent⟩ := idleReport_others hclear
          intro c' hc'
          obtain ⟨c₀, hc₀, he⟩ := hcurrent c' hc'
          cases (hlossRun.trans hr).symm.trans hc₀
          exact he.trans_ne hne.symm
        rw [if_pos ⟨hmem, hrest⟩, if_pos ⟨List.mem_append_left _ hmem, hrest⟩, lossStep_eq, lossOne_idleReport hne hcleared,
          idleReport_other k _ hother, ite_self]
        rw [hdriveIdle k hne, hdrive]
        simp only [hcaptureIdle, hcapture]
        exact hs k
      · rw [if_neg hin, hstep]
        by_cases hck : c.current = k
        · subst hck
          simp
        · rw [idleReport_other k _ (by rw [hlossRun, hr]; rintro _ ⟨⟩; exact hck), ite_self, if_neg]
          rintro ⟨hmem, hrest⟩
          exact hin ⟨(List.mem_append.mp hmem).resolve_right fun h => hck (List.mem_singleton.mp h), hrest⟩

end Sys2Proof.LawProofs
end

section
/-! PROOFS. The loss of the Sensor Link from its notices to the Rail Controller's taking of commands (R120, R122, R138, R167),
and the statement on it. -/

namespace Sys2Proof.LawProofs

open Sys2Proof Sys2Proof.Machine Sys2Proof.TableProofs Sys2Proof.StrikeProofs Sys2Proof.RailListProofs

/-! ## The drive contexts at the loss (R93, R96) -/

/-- The drive contexts after the loss notice (R93, R96). -/
def lossDrives (s : State) : Vector DriveContext 88 :=
  Vector.ofFn fun k => lossContext (decide (s.rail.state = .faulted)) s.localTime s.drive[k]

theorem lossDrives_get (s : State) (k : Key) :
    (lossDrives s)[k] = lossContext (decide (s.rail.state = .faulted)) s.localTime s.drive[k] := by
  simp [lossDrives]

/-- The reports of the measurements that close at the loss, in the order of the keys (R96; log entry 18). -/
def lossReports (s : State) : List Report :=
  allKeys.filterMap fun k => lossReport (decide (s.rail.state = .faulted)) s.drive[k]

/-- The state in which a receiver stands at `b`, the link is lost and every drive context has its notice, a run not yet told
(R93, R96, R122). -/
def lossMet (b : ByteIn) (s : State) : State :=
  addReports (lossReports s)
    { s with
      snin := b, sensor := defaultSensor, sticky := { s.sticky with sensorLoss := true }, drive := lossDrives s }

theorem lossMet_run (b : ByteIn) (s : State) : (lossMet b s).run = s.run := by rw [lossMet, addReports_logged]
theorem lossMet_rail (b : ByteIn) (s : State) : (lossMet b s).rail = s.rail := by rw [lossMet, addReports_logged]
theorem lossMet_localTime (b : ByteIn) (s : State) : (lossMet b s).localTime = s.localTime := by
  rw [lossMet, addReports_logged]
theorem lossMet_capture (b : ByteIn) (s : State) : (lossMet b s).capture = s.capture := by rw [lossMet, addReports_logged]
theorem lossMet_drive (b : ByteIn) (s : State) : (lossMet b s).drive = lossDrives s := by rw [lossMet, addReports_logged]

/-- The link lost, before its notices (R122). -/
def linkLost (b : ByteIn) (s : State) : State :=
  { s with snin := b, sensor := defaultSensor, sticky := { s.sticky with sensorLoss := true } }

theorem loseSensor_eq (b : ByteIn) (s : State) :
    loseSensor { s with snin := b } = abortRun (captureLoss (driveLoss (linkLost b s))) := rfl

theorem driveLoss_eq {b : ByteIn} {s : State} (hs : DrivenKeysAtRest s) :
    driveLoss (linkLost b s) =
      match s.run with
      | none => lossMet b s
      | some c =>
        if RestsAtLoss s.localTime s.drive[c.current] then idleReport c.current (lossMet b s) else lossMet b s := by
  have hall : lossAll allKeys (linkLost b s) = lossMet b s := by
    have hmem (k : Key) : k ∈ allKeys := List.mem_finRange k
    simp only [lossAll, hmem, if_true]
    rfl
  have hmem (k : Key) : k ∈ allKeys := List.mem_finRange k
  have hnodup : allKeys.Nodup := List.nodup_finRange 88
  rw [driveLoss, foldl_lossStep (s := linkLost b s) hnodup hs, hall]
  unfold toldOfRest
  simp only [hmem, true_and]
  rfl

/-! ## The result of the loss (R96, R122, R138, R167) -/

/-- The Aborted result of a run in flight (R167). -/
def runResult : Option CalContext → List Report
  | none => []
  | some c => [abortedResult c]

/-- The state with the link lost and the keys closed, the drive contexts, the run and the rail given, its reports not yet
made (R122, R138). -/
def lossBare (b : ByteIn) (drive : Vector DriveContext 88) (run : Option CalContext) (rail : Rail) (s : State) : State :=
  { s with
    snin := b
    sensor := defaultSensor
    sticky := { s.sticky with sensorLoss := true }
    captureFifo := s.captureFifo ++ closingEvents .sensorLoss s
    capture := Vector.replicate 88 CaptureContext.clear
    drive := drive
    rail := rail
    run := run }

/-- The state after the loss and its notices, the drive contexts and the rail given (R96, R122, R138, R167). -/
def lossEnd (b : ByteIn) (drive : Vector DriveContext 88) (rail : Rail) (s : State) : State :=
  addReports (lossReports s ++ runResult s.run) (lossBare b drive none rail s)

theorem addReports_concat (rs : List Report) (r : Report) (s : State) :
    addReports (rs ++ [r]) s = addReport r (addReports rs s) := List.foldl_concat ..

/-- Reports do not meet the other notices. -/
theorem captureLoss_addReports (rs : List Report) (s : State) :
    captureLoss (addReports rs s) = addReports rs (captureLoss s) := by
  rw [addReports_logged, addReports_logged]
  rfl

theorem withWork_addReports (drive : Vector DriveContext 88) (run : Option CalContext) (rail : Rail) (rs : List Report)
    (s : State) : withWork drive run rail (addReports rs s) = addReports rs (withWork drive run rail s) := by
  rw [addReports_logged, addReports_logged]
  rfl

theorem addReports_withRun (rs : List Report) (run : Option CalContext) (s : State) :
    { addReports rs s with run := run } = addReports rs { s with run := run } := by
  rw [addReports_logged, addReports_logged]

/-- The state when a run in flight, if any, is about to be aborted (R138, R167). -/
def beforeAbort (b : ByteIn) (drive : Vector DriveContext 88) (run : Option CalContext) (rail : Rail) (s : State) : State :=
  captureLoss (withWork drive run rail (lossMet b s))

section Notices

variable {b : ByteIn} {s : State}

theorem beforeAbort_eq (drive : Vector DriveContext 88) (run : Option CalContext) (rail : Rail) :
    beforeAbort b drive run rail s = addReports (lossReports s) (lossBare b drive run rail s) := by
  rw [beforeAbort, lossMet, withWork_addReports, captureLoss_addReports]
  rfl

/-- With no run in flight nothing is aborted (R167). -/
theorem lossEnd_noRun (h : s.run = none) (drive : Vector DriveContext 88) (rail : Rail) :
    beforeAbort b drive none rail s = lossEnd b drive rail s := by
  rw [beforeAbort_eq, lossEnd, h, runResult, List.append_nil]

/-- An aborted run leaves its result behind the reports of the loss (R167; log entry 28). -/
theorem lossEnd_aborted {c c' : CalContext} (h : s.run = some c) (hn : c'.current = c.current) (hk : c'.kind = c.kind)
    (drive : Vector DriveContext 88) (run : Option CalContext) (rail : Rail) :
    addReport (abortedResult c') { beforeAbort b drive run rail s with run := none } = lossEnd b drive rail s := by
  have hresult : abortedResult c' = abortedResult c := by rw [abortedResult, hn, hk, abortedResult]
  rw [beforeAbort_eq, addReports_withRun, hresult, lossEnd, h, runResult, addReports_concat]
  rfl

/-- The loss with no run in flight (R122). -/
theorem loseSensor_noRun (hs : DrivenKeysAtRest s) (h : s.run = none) :
    loseSensor { s with snin := b } = lossEnd b (lossDrives s) s.rail s := by
  have hmet : withWork (lossDrives s) none s.rail (lossMet b s) = lossMet b s := by
    rw [← h, lossMet, withWork_addReports]
    rfl
  have hrun : (beforeAbort b (lossDrives s) none s.rail s).run = none := rfl
  have hbefore : captureLoss (driveLoss (linkLost b s)) = beforeAbort b (lossDrives s) none s.rail s := by
    rw [driveLoss_eq hs, h, beforeAbort, hmet]
  rw [loseSensor_eq, hbefore, ← lossEnd_noRun h, abortRun, hrun]

theorem withWork_lossMet (run : Option CalContext) (h : s.run = run) :
    withWork (lossDrives s) run s.rail (lossMet b s) = lossMet b s := by
  rw [← h, lossMet, withWork_addReports]
  rfl

/-- The loss with a run in flight: what is left is what the abort does to the probing key (R122, R167). -/
theorem loseSensor_aborts {c c' : CalContext} {drive drive' : Vector DriveContext 88} {rail rail' : Rail}
    (hr : s.run = some c) (hn : c'.current = c.current) (hk : c'.kind = c.kind)
    (hloss : driveLoss (linkLost b s) = withWork drive (some c') rail (lossMet b s))
    (habort : abortKey c' (beforeAbort b drive (some c') rail s) = beforeAbort b drive' (some c') rail' s) :
    loseSensor { s with snin := b } = lossEnd b drive' rail' s := by
  have hrun : (captureLoss (driveLoss (linkLost b s))).run = some c' := by rw [hloss]; rfl
  rw [loseSensor_eq, abortRun_eq hrun, hloss]
  change addReport _ { abortKey c' (beforeAbort b drive (some c') rail s) with run := none } = _
  rw [habort, lossEnd_aborted hr hn hk]

/-- A context that comes to rest is Idle, another keeps its state, its job and the stage of its push (R93). -/
theorem lossContext_rests {faulted : Bool} {now : Nat} {d : DriveContext} (h : RestsAtLoss now d) :
    lossContext faulted now d = DriveContext.clear := if_pos h

theorem lossContext_pushing {faulted : Bool} {now : Nat} {d : DriveContext} (h : d.state = .pushing) :
    lossContext faulted now d = measuredAtLoss faulted d := by
  have hnot : d.state ≠ .releasing := h.trans_ne (by simp)
  rw [lossContext, if_neg fun hr => hnot hr.1, if_neg hnot]

theorem lossContext_notPushing {faulted : Bool} {now : Nat} {d : DriveContext} (h : d.state ≠ .pushing) :
    (lossContext faulted now d).state ≠ .pushing := by
  unfold lossContext
  split
  · simp [DriveContext.clear]
  · split
    · rw [(measuredAtLoss_fields faulted d).1]; exact h
    · rw [(measuredAtLoss_fields faulted d).1]; exact h

/-- The probe of a run in flight is under way: its request taken, its context Pushing (R104, R161). -/
def ProbeUnderWay (s : State) (c : CalContext) : Prop :=
  c.phase = .probing ∧ c.taken = true ∧ (s.drive[c.current]).state = .pushing

/-- The probe request of a run in flight waits for a context that comes to rest at the loss (R104, R161). -/
def ProbeMeetsRest (s : State) (c : CalContext) : Prop :=
  c.phase = .probing ∧ c.taken = false ∧ RestsAtLoss s.localTime s.drive[c.current]

/-- A run whose settle has started (R163). -/
def settled (c : CalContext) (s : State) : CalContext :=
  { c with phase := .settling, timer := some (s.localTime + 150000) }

theorem beginSettle_work (c : CalContext) (s : State) :
    beginSettle c s = withWork s.drive (some (settled c s)) s.rail s := rfl

/-- A run whose key is not Pushing and takes no probe: its context comes to rest for it, or nothing happens (R163). -/
theorem driveLoss_unheeded {c : CalContext} (hs : DrivenKeysAtRest s) (hr : s.run = some c) (h : ¬ProbeMeetsRest s c) :
    ∃ c', c'.current = c.current ∧ c'.kind = c.kind ∧ (c' = c ∨ c'.phase = .settling) ∧
      driveLoss (linkLost b s) = withWork (lossDrives s) (some c') s.rail (lossMet b s) := by
  have hmet : (lossMet b s).run = some c := (lossMet_run b s).trans hr
  have same : lossMet b s = withWork (lossDrives s) (some c) s.rail (lossMet b s) := (withWork_lossMet _ hr).symm
  rw [driveLoss_eq hs, hr]
  simp only
  by_cases hrest : RestsAtLoss s.localTime s.drive[c.current]
  · rw [if_pos hrest]
    cases hp : c.phase with
    | awaitingRest =>
      refine ⟨settled c (lossMet b s), rfl, rfl, .inr rfl, ?_⟩
      rw [idleReport_rest hmet hp, beginSettle_work, lossMet_drive, lossMet_rail]
    | settling => exact ⟨c, rfl, rfl, .inl rfl, (idleReport_unnoticed hmet (.inl hp)).trans same⟩
    | probing =>
      have ht : c.taken = true := by
        by_contra ht
        exact h ⟨hp, Bool.eq_false_iff.mpr ht, hrest⟩
      exact ⟨c, rfl, rfl, .inl rfl, (idleReport_unnoticed hmet (.inr ⟨hp, ht⟩)).trans same⟩
  · rw [if_neg hrest]
    exact ⟨c, rfl, rfl, .inl rfl, same⟩

/-- The loss with a run whose key is not Pushing and takes no probe (R167). -/
theorem loseSensor_unheeded {c : CalContext} (hs : DrivenKeysAtRest s) (hr : s.run = some c) (h : ¬ProbeMeetsRest s c)
    (hp : ¬ProbeUnderWay s c) : loseSensor { s with snin := b } = lossEnd b (lossDrives s) s.rail s := by
  obtain ⟨c', hn, hk, hphase, hloss⟩ := driveLoss_unheeded (b := b) hs hr h
  refine loseSensor_aborts hr hn hk hloss (abortKey_none ?_)
  rcases hphase with rfl | hphase
  · by_contra hall
    push Not at hall
    obtain ⟨hprobing, htaken, hstate⟩ := hall
    refine hp ⟨hprobing, Bool.not_eq_false _ ▸ htaken, ?_⟩
    by_contra hnot
    exact lossContext_notPushing hnot ((congrArg DriveContext.state (lossDrives_get s c'.current)).symm.trans hstate)
  · exact .inl (by rw [hphase]; simp)

/-- The Waiting Push of a probe is withdrawn at the abort (R104, R167). -/
theorem abortKey_waiting {c : CalContext} {channel level : Nat} {drive : Vector DriveContext 88} {rail : Rail}
    (hp : c.phase = .probing) (ht : c.taken = true) (hs : (drive[c.current]).state = .pushing)
    (hw : (drive[c.current]).stage = .waiting) (hj : (drive[c.current]).job = some (.probe channel level)) :
    abortKey c (beforeAbort b drive (some c) rail s) =
      beforeAbort b (drive.set c.current.val DriveContext.clear c.current.isLt) (some c)
        { rail with waiting := rail.waiting.filter fun r => !isPushOf c.current r.cmd } s := by
  have hstate : ((beforeAbort b drive (some c) rail s).drive[c.current]).state = .pushing := hs
  have hstage : ((beforeAbort b drive (some c) rail s).drive[c.current]).stage = .waiting := hw
  have habort : abortKey c (beforeAbort b drive (some c) rail s) =
      giveUpPush c.current (beforeAbort b drive (some c) rail s) := by
    rw [abortKey, if_pos ⟨hp, ht⟩, hstate, hstage]
  rw [habort, giveUpPush_probe (c := c) rfl hp ht hj]
  have hcapture : (Vector.replicate 88 CaptureContext.clear).set c.current.val CaptureContext.clear c.current.isLt =
      Vector.replicate 88 CaptureContext.clear := by simp
  unfold beforeAbort captureLoss withWork
  simp only [hcapture, closingEvents]

theorem setDrive_beforeAbort (k : Key) (d : DriveContext) (drive : Vector DriveContext 88) (run : Option CalContext)
    (rail : Rail) :
    setDrive k d (beforeAbort b drive run rail s) = beforeAbort b (drive.set k.val d k.isLt) run rail s := by
  unfold setDrive beforeAbort captureLoss withWork
  simp only [closingEvents]

theorem requested_beforeAbort (r : RailCmd) (drive : Vector DriveContext 88) (run : Option CalContext) (rail : Rail) :
    requested r (beforeAbort b drive run rail s) =
      beforeAbort b drive run { rail with waiting := rail.waiting ++ [⟨r, s.localTime⟩] } s := by
  rw [← lossMet_localTime b s]
  unfold requested beforeAbort captureLoss withWork
  simp only [closingEvents]

/-- The sent push of a probe ends with its Release at the abort (R96, R104, R167). -/
theorem abortKey_sent {c : CalContext} {channel level : Nat} {drive : Vector DriveContext 88} {rail : Rail}
    (hp : c.phase = .probing) (ht : c.taken = true) (hs : (drive[c.current]).state = .pushing)
    (hw : (drive[c.current]).stage = .sent) (hj : (drive[c.current]).job = some (.probe channel level)) :
    abortKey c (beforeAbort b drive (some c) rail s) =
      beforeAbort b
        (drive.set c.current.val
          (if (drive[c.current]).measuring = true ∧ (drive[c.current]).notMeasured = true then
            { drive[c.current] with
              state := .releasing, rearmed := false, pushTimer := none, measuring := false, gateTimer := none }
          else { drive[c.current] with state := .releasing, rearmed := false, pushTimer := none }) c.current.isLt)
        (some c) { rail with waiting := rail.waiting ++ [⟨.release c.current channel, s.localTime⟩] } s := by
  have hstate : ((beforeAbort b drive (some c) rail s).drive[c.current]).state = .pushing := hs
  have hstage : ((beforeAbort b drive (some c) rail s).drive[c.current]).stage = .sent := hw
  have habort : abortKey c (beforeAbort b drive (some c) rail s) =
      beginRelease c.current (beforeAbort b drive (some c) rail s) := by
    rw [abortKey, if_pos ⟨hp, ht⟩, hstate, hstage]
  rw [habort, beginRelease_probe hj, requestRail_noWake (.inr (by simp [wakesRail])), setDrive_beforeAbort,
    requested_beforeAbort]
  rfl

/-- A probe's context: it drives a probe, at a channel and a level. -/
theorem drivesProbe_job {d : DriveContext} (h : drivesProbe d = true) :
    ∃ channel level, d.job = some (.probe channel level) := by
  unfold drivesProbe at h
  split at h
  · next channel level hj => exact ⟨channel, level, hj⟩
  · cases h

/-- The loss with a probe under way: its context was Pushing, so the notice only marks it (R96, R167). -/
theorem driveLoss_underWay {c : CalContext} (hs : DrivenKeysAtRest s) (hr : s.run = some c) (h : ProbeUnderWay s c) :
    driveLoss (linkLost b s) = withWork (lossDrives s) (some c) s.rail (lossMet b s) := by
  obtain ⟨-, -, hstate⟩ := h
  have hnot : ¬RestsAtLoss s.localTime s.drive[c.current] := fun hrest => by
    have := hstate.symm.trans hrest.1
    cases this
  rw [driveLoss_eq hs, hr]
  simp only
  rw [if_neg hnot, withWork_lossMet _ hr]

/-- What the notice leaves of the context of a probe under way. -/
theorem lossDrives_underWay {c : CalContext} (h : ProbeUnderWay s c) :
    (lossDrives s)[c.current] = measuredAtLoss (decide (s.rail.state = .faulted)) s.drive[c.current] := by
  obtain ⟨-, -, hstate⟩ := h
  rw [lossDrives_get, lossContext_pushing hstate]

theorem loseSensor_waiting {c : CalContext} (hs : DrivenKeysAtRest s) (hd : ProbeDriven s) (hr : s.run = some c)
    (h : ProbeUnderWay s c) (hw : (s.drive[c.current]).stage = .waiting) :
    loseSensor { s with snin := b } =
      lossEnd b ((lossDrives s).set c.current.val DriveContext.clear c.current.isLt)
        { s.rail with waiting := s.rail.waiting.filter fun r => !isPushOf c.current r.cmd } s := by
  have hget := lossDrives_underWay h
  obtain ⟨hp, ht, hstate⟩ := id h
  obtain ⟨channel, level, hj⟩ := drivesProbe_job (hd c hr hp ht hstate)
  obtain ⟨hstate', -, -, hjob', hstage'⟩ := measuredAtLoss_fields (decide (s.rail.state = .faulted)) s.drive[c.current]
  refine loseSensor_aborts hr rfl rfl (driveLoss_underWay hs hr h) (abortKey_waiting (channel := channel) (level := level)
    hp ht ?_ ?_ ?_)
  · rw [hget, hstate', hstate]
  · rw [hget, hstage', hw]
  · rw [hget, hjob', hj]

/-- A context whose probe's sent push ends with the abort at the loss (R96, R104, R167). -/
def releasedAtLoss (d : DriveContext) : DriveContext :=
  { d with
    state := .releasing, rearmed := false, pushTimer := none, measuring := false
    notMeasured := d.measuring || d.notMeasured
    gateTimer := if d.measuring = true then none else d.gateTimer }

/-- An open measurement is marked and then closed, at the notice or at the end of the push (R96). -/
theorem releasedAtLoss_eq (faulted : Bool) (d : DriveContext) :
    (if (measuredAtLoss faulted d).measuring = true ∧ (measuredAtLoss faulted d).notMeasured = true then
        { measuredAtLoss faulted d with
          state := .releasing, rearmed := false, pushTimer := none, measuring := false, gateTimer := none }
      else { measuredAtLoss faulted d with state := .releasing, rearmed := false, pushTimer := none }) =
      releasedAtLoss d := by
  unfold measuredAtLoss releasedAtLoss
  cases hm : d.measuring with
  | false =>
    have hc : closesAtLoss faulted d = false := by rw [closesAtLoss, hm, Bool.false_and]
    simp [hc, hm]
  | true =>
    cases hc : closesAtLoss faulted d <;> simp

theorem loseSensor_sent {c : CalContext} {channel level : Nat} (hs : DrivenKeysAtRest s) (hr : s.run = some c)
    (h : ProbeUnderWay s c) (hw : (s.drive[c.current]).stage = .sent)
    (hj : (s.drive[c.current]).job = some (.probe channel level)) :
    loseSensor { s with snin := b } =
      lossEnd b ((lossDrives s).set c.current.val (releasedAtLoss s.drive[c.current]) c.current.isLt)
        { s.rail with waiting := s.rail.waiting ++ [⟨.release c.current channel, s.localTime⟩] } s := by
  have hget := lossDrives_underWay h
  obtain ⟨hp, ht, hstate⟩ := id h
  obtain ⟨hstate', -, -, hjob', hstage'⟩ := measuredAtLoss_fields (decide (s.rail.state = .faulted)) s.drive[c.current]
  refine loseSensor_aborts hr rfl rfl (driveLoss_underWay hs hr h) ?_
  rw [abortKey_sent (channel := channel) (level := level) hp ht, hget, releasedAtLoss_eq]
  · rw [hget, hstate', hstate]
  · rw [hget, hstage', hw]
  · rw [hget, hjob', hj]

/-- The rail at the end of a probe request that was taken at the loss and withdrawn with its run: a Parked rail was woken
(R104, R150, R167). -/
def wokenAtLoss (k : Key) (now : Nat) (rail : Rail) : Rail :=
  { rail with
    state := if rail.state = .parked then .waking else rail.state
    waiting := (rail.waiting.filter fun q => !isPushOf k q.cmd) ++
      if rail.state = .parked then [⟨.unpark, now⟩] else [] }

theorem wokenAtLoss_eq (k : Key) (channel level : Nat) (s : State) :
    { (requestRail (.push k channel level) s).rail with
      waiting := (requestRail (.push k channel level) s).rail.waiting.filter fun q => !isPushOf k q.cmd } =
      wokenAtLoss k s.localTime s.rail := by
  have hwakes : wakesRail (.push k channel level) = true := rfl
  rw [requestRail_eq, if_pos hwakes]
  by_cases hp : s.rail.state = .parked
  · rw [wake_parked (s := requested _ s) hp]
    simp [requested, wokenAtLoss, hp, isPushOf]
  · rw [wake_notParked (s := requested _ s) hp]
    simp [requested, wokenAtLoss, hp, isPushOf]

/-- The loss with a probe request that waits for a context which comes to rest: taken, and withdrawn with the run (R104,
R150, R167; log entry 28). -/
theorem loseSensor_request {c : CalContext} (hs : DrivenKeysAtRest s) (hr : s.run = some c) (h : ProbeMeetsRest s c) :
    loseSensor { s with snin := b } = lossEnd b (lossDrives s) (wokenAtLoss c.current s.localTime s.rail) s := by
  obtain ⟨hp, ht, hrest⟩ := h
  have hmet : (lossMet b s).run = some c := (lossMet_run b s).trans hr
  have hclear : (lossMet b s).capture[c.current] = CaptureContext.clear := by
    simp only [lossMet_capture]
    exact hs c.current (hrest.1.trans_ne (by simp))
  let pushing : DriveContext :=
    { DriveContext.clear with state := .pushing, job := some (.probe c.channel (currentLevel c)) }
  let rail := (requestRail (.push c.current c.channel (currentLevel c)) (lossMet b s)).rail
  have hloss : driveLoss (linkLost b s) =
      withWork ((lossDrives s).set c.current.val pushing c.current.isLt) (some { c with taken := true }) rail
        (lossMet b s) := by
    rw [driveLoss_eq hs, hr]
    simp only
    rw [if_pos hrest, idleReport_request hmet hp ht, takeProbe_clear hclear, lossMet_drive]
  have hpushing : ((lossDrives s).set c.current.val pushing c.current.isLt)[c.current] = pushing := by simp
  refine (loseSensor_aborts (c' := { c with taken := true }) hr rfl rfl hloss
    (abortKey_waiting (channel := c.channel) (level := currentLevel c) hp rfl ?_ ?_ ?_)).trans ?_
  · exact congrArg DriveContext.state hpushing
  · exact congrArg DriveContext.stage hpushing
  · exact congrArg DriveContext.job hpushing
  · have hdrives : ((lossDrives s).set c.current.val pushing c.current.isLt).set c.current.val DriveContext.clear
        c.current.isLt = lossDrives s := by
      have hrested : (lossDrives s)[c.current] = DriveContext.clear := by
        rw [lossDrives_get, lossContext_rests hrest]
      rw [Vector.set_set, ← hrested]
      exact Vector.set_getElem_self _
    have hrail := wokenAtLoss_eq c.current c.channel (currentLevel c) (lossMet b s)
    rw [lossMet_localTime, lossMet_rail] at hrail
    change lossEnd b (((lossDrives s).set c.current.val pushing c.current.isLt).set c.current.val DriveContext.clear
      c.current.isLt) _ s = _
    rw [hdrives, ← hrail]

end Notices

end Sys2Proof.LawProofs
end

section
/-! PROOFS. The Rail Controller's taking of commands after the loss of the Sensor Link (R88, R93, R96, R122, R143), and the
statement on the loss. -/

namespace Sys2Proof.LawProofs

open Sys2Proof Sys2Proof.Machine Sys2Proof.TableProofs Sys2Proof.StrikeProofs Sys2Proof.RailListProofs

/-! ## The taking of commands on a lost link -/

/-- What the loss leaves and the taking of commands keeps: the link lost and its flag set, no run, every capture context at
Rest with the given events queued, and no measurement open without the NotMeasured mark (R93, R96, R122, R138, R167). -/
structure LinkGone (fifo : List CaptureEvent) (s : State) : Prop where
  down : s.sensor.up = false
  flag : s.sticky.sensorLoss = true
  noRun : s.run = none
  rest : s.capture = Vector.replicate 88 CaptureContext.clear
  queued : s.captureFifo = fifo
  marked : ∀ k : Key, (s.drive[k]).measuring = true → (s.drive[k]).notMeasured = true

/-- A Release sent leaves the measurement of a context alone (R91). -/
theorem markReleaseSent_measurement (now : Nat) (up : Bool) (d : DriveContext) :
    (markReleaseSent now up d).measuring = d.measuring ∧ (markReleaseSent now up d).notMeasured = d.notMeasured := by
  unfold markReleaseSent
  split <;> exact ⟨rfl, rfl⟩

namespace LinkGone

variable {fifo : List CaptureEvent} {s : State}

theorem setDrive (h : LinkGone fifo s) {k : Key} {d : DriveContext} (hd : d.measuring = true → d.notMeasured = true) :
    LinkGone fifo (setDrive k d s) :=
  { h with
    marked := fun j => by
      rw [setDrive_get]
      split
      · exact hd
      · exact h.marked j }

/-- A change of the rail or of the pedal replay contexts. -/
theorem of_rail (h : LinkGone fifo s) (rail : Rail) (replay : Vector PedalReplay 3) :
    LinkGone fifo { s with rail := rail, replay := replay } := { h with }

theorem mapDrive (h : LinkGone fifo s) (f : DriveContext → DriveContext)
    (hf : ∀ d : DriveContext, (d.measuring = true → d.notMeasured = true) → (f d).measuring = true →
      (f d).notMeasured = true) : LinkGone fifo { s with drive := s.drive.map f } :=
  { h with
    marked := fun j => by
      simp only [Fin.getElem_fin, Vector.getElem_map]
      exact hf _ (h.marked j) }

theorem addReport (h : LinkGone fifo s) (r : Report) : LinkGone fifo (addReport r s) := by
  unfold Machine.addReport
  split
  · exact { h with }
  · exact { h with }

theorem addReports (h : LinkGone fifo s) (rs : List Report) : LinkGone fifo (addReports rs s) :=
  List.foldlRecOn rs _ h fun _ ht r _ => LinkGone.addReport ht r

/-- With no run a context that becomes Idle means nothing to one (R91). -/
theorem becomeIdle (h : LinkGone fifo s) (k : Key) : LinkGone fifo (becomeIdle k s) := by
  have hclear : s.capture[k] = CaptureContext.clear := by simp [h.rest]
  rw [becomeIdle_clear hclear, idleReport_other k _ (by rw [setDrive_run, h.noRun]; rintro _ ⟨⟩)]
  exact h.setDrive (by simp [DriveContext.clear])

theorem releaseAllSent (h : LinkGone fifo s) (restart : Bool) : LinkGone fifo (releaseAllSent restart s) := by
  have mapped := h.mapDrive (releaseAllNotice restart s.localTime s.sensor.up) fun d hd => by
    cases restart with
    | true => simp [releaseAllNotice, DriveContext.clear]
    | false =>
      obtain ⟨hm, hn⟩ := markReleaseSent_measurement s.localTime s.sensor.up d
      intro h
      exact hn.trans (hd (hm.symm.trans h))
  unfold Machine.releaseAllSent
  cases restart with
  | false => exact mapped
  | true =>
    unfold allIdle
    simp only [if_true]
    split
    · exact mapped.of_rail _ _
    · next c hc => cases h.noRun.symm.trans hc

/-- A Push sent on a lost link opens a measurement that carries the mark (R88, R96). -/
theorem sendCommand (h : LinkGone fifo s) (start : Nat) (c : RailCmd) : LinkGone fifo (sendCommand start c s) := by
  have sent : LinkGone fifo (transmit start c s) := h.of_rail _ _
  unfold Machine.sendCommand recordSending
  cases c with
  | push k channel level =>
    refine (sent.setDrive fun _ => ?_).of_rail _ _
    simp [pushSent, sent.down]
  | hold _ _ _ => exact sent.of_rail _ _
  | release k _ =>
    obtain ⟨hm, hn⟩ := markReleaseSent_measurement s.localTime s.sensor.up s.drive[k]
    exact sent.setDrive fun hopen => hn.trans (h.marked k (hm.symm.trans hopen))
  | releaseAll _ restart => exact sent.releaseAllSent restart
  | pedalSet p => exact sent.of_rail _ _
  | park => exact sent.of_rail _ _
  | unpark => exact sent
  | passThrough _ => exact sent

/-- What the taking of one command comes to, sent or dropped (R88, R144). -/
theorem takeCommand (h : LinkGone fifo s) (start : Nat) (c : RailCmd) :
    (∀ t, takeCommand start c s = .sent t → LinkGone fifo t) ∧
      ∀ t, takeCommand start c s = .dropped t → LinkGone fifo t := by
  have sent (u : State) (hu : LinkGone fifo u) :
      (∀ t, Taking.sent (Machine.sendCommand start c u) = .sent t → LinkGone fifo t) ∧
        ∀ t, Taking.sent (Machine.sendCommand start c u) = .dropped t → LinkGone fifo t :=
    ⟨fun t ht => by cases ht; exact hu.sendCommand start c, fun t ht => (nomatch ht)⟩
  have dropped (u : State) (hu : LinkGone fifo u) :
      (∀ t, Taking.dropped u = .sent t → LinkGone fifo t) ∧ ∀ t, Taking.dropped u = .dropped t → LinkGone fifo t :=
    ⟨fun t ht => (nomatch ht), fun t ht => by cases ht; exact hu⟩
  unfold Machine.takeCommand
  cases c with
  | push k channel level =>
    simp only
    split
    · exact sent s h
    · next st _ =>
      split
      · exact dropped _ ((h.addReport _).becomeIdle k)
      · exact sent _ (h.setDrive (h.marked k))
  | park =>
    simp only
    split
    · exact sent s h
    · exact dropped _ (h.of_rail _ _)
  | hold _ _ _ => exact sent s h
  | release _ _ => exact sent s h
  | releaseAll _ _ => exact sent s h
  | pedalSet _ => exact sent s h
  | unpark => exact sent s h
  | passThrough _ => exact sent s h

theorem takePassThrough (h : LinkGone fifo s) (start : Nat) : LinkGone fifo (takePassThrough start s) := by
  unfold Machine.takePassThrough
  split
  · exact h
  · split
    · exact (h.of_rail _ _).sendCommand start _
    · exact h

theorem railTake (h : LinkGone fifo s) (start n : Nat) : LinkGone fifo (railTake start n s) := by
  induction n generalizing s with
  | zero => exact h
  | succ n ih =>
    unfold Machine.railTake
    split
    · split
      · exact h.takePassThrough start
      · next q _ =>
        have taken : LinkGone fifo (takenOut q s) := h.of_rail _ _
        obtain ⟨hsent, hdropped⟩ := taken.takeCommand start q.cmd
        split
        · next t ht => exact hsent t ht
        · next t ht => exact ih (hdropped t ht)
    · exact h

theorem railService (h : LinkGone fifo s) : LinkGone fifo (railService s) := h.railTake _ _

end LinkGone

/-- The loss keeps what the taking of commands then keeps. -/
theorem lossEnd_linkGone {b : ByteIn} {drive : Vector DriveContext 88} {rail : Rail} {s : State}
    (h : ∀ k : Key, (drive[k]).measuring = true → (drive[k]).notMeasured = true) :
    LinkGone (s.captureFifo ++ closingEvents .sensorLoss s) (lossEnd b drive rail s) := by
  have bare : LinkGone (s.captureFifo ++ closingEvents .sensorLoss s) (lossBare b drive none rail s) :=
    ⟨rfl, rfl, rfl, rfl, rfl, h⟩
  exact bare.addReports _

/-! ## What the loss does to the drive contexts and the rail -/

theorem setKey_get (v : Vector DriveContext 88) (k : Key) (d : DriveContext) (j : Key) :
    (v.set k.val d k.isLt)[j] = if j = k then d else v[j] := by
  simp only [Fin.getElem_fin, Vector.getElem_set, Fin.ext_iff, eq_comm]

/-- The drive contexts and the rail after the loss (R93, R96, R104, R150, R167). -/
structure LossWork (s : State) (drive : Vector DriveContext 88) (rail : Rail) : Prop where
  rested : ∀ k : Key, RestsAtLoss s.localTime s.drive[k] → drive[k] = DriveContext.clear
  other : ∀ k : Key, (∀ c, s.run = some c → c.current = k → ¬ProbeUnderWay s c) → drive[k] = (lossDrives s)[k]
  waiting : ∀ c, s.run = some c → ProbeUnderWay s c → (s.drive[c.current]).stage = .waiting →
    drive[c.current] = DriveContext.clear ∧
      rail = { s.rail with waiting := s.rail.waiting.filter fun r => !isPushOf c.current r.cmd }
  sent : ∀ c, s.run = some c → ProbeUnderWay s c → (s.drive[c.current]).stage = .sent →
    ∀ channel level, (s.drive[c.current]).job = some (.probe channel level) →
      drive[c.current] = releasedAtLoss s.drive[c.current] ∧
        rail = { s.rail with waiting := s.rail.waiting ++ [⟨.release c.current channel, s.localTime⟩] }
  noRun : s.run = none → rail = s.rail
  request : ∀ c, s.run = some c → ProbeMeetsRest s c → rail = wokenAtLoss c.current s.localTime s.rail
  unheeded : ∀ c, s.run = some c → ¬ProbeUnderWay s c → ¬ProbeMeetsRest s c → rail = s.rail
  marked : ∀ k : Key, (drive[k]).measuring = true → (drive[k]).notMeasured = true

section Work

variable {s : State}

theorem lossDrives_rested {k : Key} (h : RestsAtLoss s.localTime s.drive[k]) : (lossDrives s)[k] = DriveContext.clear := by
  rw [lossDrives_get, lossContext_rests h]

theorem lossDrives_marked (k : Key) (h : ((lossDrives s)[k]).measuring = true) :
    ((lossDrives s)[k]).notMeasured = true := by
  rw [lossDrives_get] at h ⊢
  exact lossContext_marked h

/-- With no probe under way the contexts have their notice alone. -/
theorem lossWork_unheeded {rail : Rail} (hnone : ∀ c, s.run = some c → ¬ProbeUnderWay s c)
    (hrail : ∀ c, s.run = some c → ProbeMeetsRest s c → rail = wokenAtLoss c.current s.localTime s.rail)
    (hother : (∀ c, s.run = some c → ¬ProbeMeetsRest s c) → rail = s.rail) : LossWork s (lossDrives s) rail where
  rested _ h := lossDrives_rested h
  other _ _ := rfl
  waiting c hr h := absurd h (hnone c hr)
  sent c hr h := absurd h (hnone c hr)
  noRun h := hother fun c hc => by rw [h] at hc; cases hc
  request := hrail
  unheeded c hr _ h := hother fun c' hc' => by cases hr.symm.trans hc'; exact h
  marked := lossDrives_marked

/-- With a probe under way its context alone has more than its notice. -/
theorem lossWork_underWay {c : CalContext} {d : DriveContext} {rail : Rail} (hr : s.run = some c)
    (h : ProbeUnderWay s c) (hd : d.measuring = false)
    (hwaiting : (s.drive[c.current]).stage = .waiting → d = DriveContext.clear ∧
      rail = { s.rail with waiting := s.rail.waiting.filter fun r => !isPushOf c.current r.cmd })
    (hsent : (s.drive[c.current]).stage = .sent →
      ∀ channel level, (s.drive[c.current]).job = some (.probe channel level) →
        d = releasedAtLoss s.drive[c.current] ∧
          rail = { s.rail with waiting := s.rail.waiting ++ [⟨.release c.current channel, s.localTime⟩] }) :
    LossWork s ((lossDrives s).set c.current.val d c.current.isLt) rail := by
  have hself : ((lossDrives s).set c.current.val d c.current.isLt)[c.current] = d := by rw [setKey_get, if_pos rfl]
  have same {c' : CalContext} (hc' : s.run = some c') : c' = c := by cases hr.symm.trans hc'; rfl
  obtain ⟨hprobing, htaken, hpushing⟩ := id h
  refine ⟨fun k hrest => ?_, fun k hnone => ?_, fun c' hc' _ hw => ?_, fun c' hc' _ hs => ?_, fun hn => ?_,
    fun c' hc' hm => ?_, fun c' hc' hn => ?_, fun k hopen => ?_⟩
  · have hne : k ≠ c.current := by
      rintro rfl
      cases hpushing.symm.trans hrest.1
    rw [setKey_get, if_neg hne, lossDrives_rested hrest]
  · have hne : k ≠ c.current := fun he => hnone c hr he.symm h
    rw [setKey_get, if_neg hne]
  · cases same hc'
    rw [hself]
    exact hwaiting hw
  · cases same hc'
    rw [hself]
    exact hsent hs
  · cases hr.symm.trans hn
  · cases same hc'
    cases htaken.symm.trans hm.2.1
  · cases same hc'
    exact absurd h hn
  · rw [setKey_get] at hopen ⊢
    split at hopen
    · cases hd.symm.trans hopen
    · next hne => rw [if_neg hne]; exact lossDrives_marked k hopen

/-- The loss of the Sensor Link, up to the Rail Controller's taking of commands (R122). -/
theorem loseSensor_work (b : ByteIn) (hs : DrivenKeysAtRest s) (hd : ProbeDriven s) :
    ∃ drive rail, loseSensor { s with snin := b } = lossEnd b drive rail s ∧ LossWork s drive rail := by
  obtain hr | ⟨c, hr⟩ := Option.eq_none_or_eq_some s.run
  · have hnone {p : CalContext → Prop} : ∀ c, s.run = some c → p c := fun c hc => by cases hr.symm.trans hc
    exact ⟨_, _, loseSensor_noRun hs hr, lossWork_unheeded hnone hnone fun _ => rfl⟩
  · have same {c' : CalContext} (hc' : s.run = some c') : c' = c := by cases hr.symm.trans hc'; rfl
    by_cases hprobe : ProbeUnderWay s c
    · obtain ⟨hprobing, htaken, hpushing⟩ := id hprobe
      obtain ⟨channel, level, hj⟩ := drivesProbe_job (hd c hr hprobing htaken hpushing)
      cases hstage : (s.drive[c.current]).stage with
      | waiting =>
        refine ⟨_, _, loseSensor_waiting hs hd hr hprobe hstage, lossWork_underWay hr hprobe rfl (fun _ => ⟨rfl, rfl⟩) ?_⟩
        intro hsent
        cases hstage.symm.trans hsent
      | sent =>
        refine ⟨_, _, loseSensor_sent hs hr hprobe hstage hj, lossWork_underWay hr hprobe rfl ?_ ?_⟩
        · intro hwaiting
          cases hstage.symm.trans hwaiting
        · intro _ channel' level' hj'
          cases hj.symm.trans hj'
          exact ⟨rfl, rfl⟩
    · have hnone : ∀ c', s.run = some c' → ¬ProbeUnderWay s c' := fun c' hc' => same hc' ▸ hprobe
      by_cases hrequest : ProbeMeetsRest s c
      · refine ⟨_, _, loseSensor_request hs hr hrequest, lossWork_unheeded hnone ?_ ?_⟩
        · intro c' hc' _
          rw [same hc']
        · intro h
          exact absurd hrequest (h c hr)
      · refine ⟨_, _, loseSensor_unheeded hs hr hrequest hprobe, lossWork_unheeded hnone ?_ fun _ => rfl⟩
        intro c' hc' h
        exact absurd (same hc' ▸ h) hrequest

end Work

/-! ## The statement -/

/-- The fourth bad frame in a row and the end of the loss window lose the link (R120). -/
theorem exec_losesSensor {s : State} {c : Instr} (hup : s.sensor.up = true)
    (hc : (∃ bytes, c = .sensorBadFrame bytes ∧ s.snin = ByteIn.start ∧ isBadFrame bytes = true ∧
        3 ≤ s.sensor.badCount) ∨
      c = .lossWindowExpiry ∧ ∃ d, s.sensor.window = some d ∧ d ≤ s.localTime) :
    ∃ b, exec c s = .next (railService (loseSensor { s with snin := b })) ∧
      (∀ bytes, c = .sensorBadFrame bytes → b = afterBadFrame bytes) ∧ (c = .lossWindowExpiry → b = s.snin) := by
  rcases hc with ⟨bytes, rfl, hstart, hbad, hcount⟩ | ⟨rfl, hwindow⟩
  · refine ⟨afterBadFrame bytes, ?_, fun bytes' h => by cases h; rfl, fun h => (nomatch h)⟩
    refine congrArg Host.Outcome.next ((if_pos ⟨hstart, hbad⟩).trans (congrArg railService ?_))
    exact (if_pos hup).trans (if_neg (by simp only; omega))
  · refine ⟨s.snin, ?_, fun _ h => (nomatch h), fun _ => rfl⟩
    exact congrArg Host.Outcome.next (if_pos ⟨hup, (timerDue_iff _ _).mpr hwindow⟩)

/-- The fields the notices of the loss leave alone (R122). -/
theorem lossEnd_frame (b : ByteIn) (drive : Vector DriveContext 88) (rail : Rail) (s : State) :
    (lossEnd b drive rail s).queue = s.queue ∧ (lossEnd b drive rail s).replay = s.replay ∧
      (lossEnd b drive rail s).drive = drive ∧ (lossEnd b drive rail s).rail = rail := by
  rw [lossEnd, addReports_logged]
  exact ⟨rfl, rfl, rfl, rfl⟩

theorem lossEnd_served (b : ByteIn) (drive : Vector DriveContext 88) (rail : Rail) (s : State) :
    SameBase { s with snin := b, sensor := defaultSensor, rail := rail } (railService (lossEnd b drive rail s)) ∧
      (railService (lossEnd b drive rail s)).clock = s.clock := by
  obtain ⟨hbase, hclock, -⟩ := (outer_eq_iff { s with snin := b, sensor := defaultSensor, rail := rail } _).mp
    ((railService_outer (lossEnd b drive rail s)).trans (addReports_outer _ _))
  exact ⟨hbase, hclock⟩

/-- The reports of the loss, those of the measurements that close ahead of the aborted run's (R96, R100, R167). -/
theorem lossEnd_reports (b : ByteIn) (drive : Vector DriveContext 88) (rail : Rail) (s : State) :
    let e := lossEnd b drive rail s
    let reporting := addReports (lossReports s ++ runResult s.run) { s with sticky := { s.sticky with sensorLoss := true } }
    e.reports = reporting.reports ∧ e.sticky = reporting.sticky := by
  intro e reporting
  simp only [e, reporting, lossEnd, addReports_logged]
  exact ⟨rfl, rfl⟩

/-- Settles O49: the notices leave the state `lossEnd`, and the Rail Controller takes commands from it. -/
theorem sensorLossIsTaken : Obligations.SensorLossIsTaken := by
  intro s c hs _ _ hd hup hc now closes measured rested notMeasured result reporting probing
  obtain ⟨b, hexec, hbytes, hwindow⟩ := exec_losesSensor hup hc
  obtain ⟨drive, rail, hlose, hwork⟩ := loseSensor_work b hs hd
  rw [hlose] at hexec
  obtain ⟨hqueue, hreplay, hdrive, hrail⟩ := lossEnd_frame b drive rail s
  obtain ⟨hreports, hsticky⟩ := lossEnd_reports b drive rail s
  have hgone : LinkGone _ (lossEnd b drive rail s) := lossEnd_linkGone hwork.marked
  have hserved := hgone.railService
  obtain ⟨-, hsame, -⟩ := railService_after (lossEnd b drive rail s)
  obtain ⟨⟨-, -, htime, -, -, htables, htableRead, hpedals, hsensor, hsnin, hkeyGap, hrlin, hlink⟩, hclock⟩ :=
    lossEnd_served b drive rail s
  obtain ⟨-, -, -, -, -, -, -, -, hsensor', -⟩ := id hsame
  have hresult : runResult s.run = result := by
    simp only [result]
    cases s.run <;> rfl
  have hnotMeasured : lossReports s = notMeasured := rfl
  rw [hresult, hnotMeasured] at hreports hsticky
  have hget (k : Key) : (lossEnd b drive rail s).drive[k] = drive[k] := by simp only [hdrive]
  have hatRest (t : State) (ht : t.capture = Vector.replicate 88 CaptureContext.clear) (k : Key) :
      t.capture[k] = CaptureContext.clear := by simp [ht]
  refine ⟨lossEnd b drive rail s, railService (lossEnd b drive rail s), hexec, rfl, hsensor, hserved.flag, hserved.queued,
    hatRest _ hserved.rest, hserved.marked, hserved.noRun, hclock, (railService_queue _).trans hqueue, htables, hpedals,
    hkeyGap, hlink, htime, hrlin, htableRead, fun bytes h => hsnin.trans (hbytes bytes h),
    fun h => hsnin.trans (hwindow h), hsensor'.symm, hgone.queued.trans hserved.queued.symm,
    hgone.rest.trans hserved.rest.symm, hgone.noRun, hreports, hsticky, hreplay, hsame, fun k => ?_,
    fun h => hrail.trans (hwork.noRun h), fun r hr => ?_⟩
  · intro d
    have hprobing {r : CalContext} (hr : s.run = some r) (hk : r.current = k) (h : ProbeUnderWay s r) : probing k := by
      obtain ⟨hphase, htaken, hstate⟩ := h
      exact ⟨r, hr, hk, hphase, htaken, hk ▸ hstate⟩
    rw [hget, hrail]
    refine ⟨hwork.rested k, fun hrest hnone => ?_, ?_⟩
    · exact (hwork.other k fun r hr hk h => hnone (hprobing hr hk h)).trans ((lossDrives_get s k).trans (if_neg hrest))
    · rintro ⟨r, hr, rfl, hphase, htaken, hstate⟩
      exact ⟨hwork.waiting r hr ⟨hphase, htaken, hstate⟩,
        fun channel level hsent hj => hwork.sent r hr ⟨hphase, htaken, hstate⟩ hsent channel level hj⟩
  · rw [hrail]
    refine ⟨fun hphase htaken hrest => hwork.request r hr ⟨hphase, htaken, hrest⟩, fun hnone hmeets => ?_⟩
    refine hwork.unheeded r hr ?_ hmeets
    rintro ⟨hphase, htaken, hstate⟩
    exact hnone ⟨r, hr, rfl, hphase, htaken, hstate⟩

end Sys2Proof.LawProofs
end

section
/-! PROOFS. The capture contexts (07): the rows of the table of R130 with the offers of R131 to R134, and the gate timer of
R129. -/

namespace Sys2Proof.CaptureProofs

open Sys2Proof Sys2Proof.Machine

variable {k : Key} {time : PT} {s : State}

/-! ## The rows of the table of R130 -/

theorem captureCrossing_rest (h : (s.capture[k]).state = .rest) :
    captureCrossing k .k1Down time s = setCapture k { s.capture[k] with state := .descending } s ∧
      ∀ x, x ≠ .k1Down → captureCrossing k x time s = s := by
  refine ⟨by simp only [captureCrossing, h], fun x hx => ?_⟩
  cases x with
  | k1Down => contradiction
  | k1Up | k2Down | k2Up | g1 | g2 => simp only [captureCrossing, h]

theorem captureCrossing_descending (h : (s.capture[k]).state = .descending) (stamp : Stamp) :
    captureCrossing k (.g1 stamp) time s =
        setCapture k (gatedBy stamp time s.localTime { s.capture[k] with restrike := false }) s ∧
      captureCrossing k .k2Down time s =
        offerFirst k (fun gap held => .silent k time gap held)
          (setCapture k { s.capture[k] with state := .quiet } s) ∧
      captureCrossing k .k1Up time s = setCapture k (atRest s.capture[k]) s ∧
      ∀ x ∈ [.k1Down, .k2Up, .g2 stamp], captureCrossing k x time s = s := by
  simp [captureCrossing, h, -Fin.getElem_fin]

/-- A second G1 while Gated begins the wait anew and keeps the restrike mark. -/
theorem captureCrossing_gated (h : (s.capture[k]).state = .gated) (stamp : Stamp) :
    captureCrossing k (.g1 stamp) time s = setCapture k (gatedBy stamp time s.localTime s.capture[k]) s ∧
      captureCrossing k .k1Up time s = offerNoteOff k time (setCapture k (atRest s.capture[k]) s) ∧
      (∀ x ∈ [.k1Down, .k2Down, .k2Up], captureCrossing k x time s = s) ∧
      captureCrossing k (.g2 stamp) time s = completeFlight k stamp time s := by
  simp [captureCrossing, h, -Fin.getElem_fin]

/-- Down and Quiet have the same row: K2 up remembers which of them it left. -/
theorem captureCrossing_landed (h : (s.capture[k]).state = .down ∨ (s.capture[k]).state = .quiet) :
    captureCrossing k .k2Up time s =
        setCapture k { s.capture[k] with state := .rearmed, remembered := some (s.capture[k]).state } s ∧
      captureCrossing k .k1Up time s = offerNoteOff k time (setCapture k (atRest s.capture[k]) s) ∧
      ∀ x, x ≠ .k2Up → x ≠ .k1Up → captureCrossing k x time s = s := by
  refine ⟨?_, ?_, fun x hup hrest => ?_⟩
  · rcases h with h | h <;> simp only [captureCrossing, h]
  · rcases h with h | h <;> simp only [captureCrossing, h]
  · cases x with
    | k2Up | k1Up => contradiction
    | k1Down | k2Down | g1 | g2 => rcases h with h | h <;> simp only [captureCrossing, h]

theorem captureCrossing_rearmed (h : (s.capture[k]).state = .rearmed) (stamp : Stamp) :
    captureCrossing k (.g1 stamp) time s =
        setCapture k (gatedBy stamp time s.localTime { s.capture[k] with restrike := true }) s ∧
      captureCrossing k .k1Up time s = offerNoteOff k time (setCapture k (atRest s.capture[k]) s) ∧
      captureCrossing k .k2Down time s =
        setCapture k { s.capture[k] with state := (s.capture[k]).remembered.getD .down, remembered := none } s ∧
      ∀ x ∈ [.k1Down, .k2Up, .g2 stamp], captureCrossing k x time s = s := by
  simp [captureCrossing, h, -Fin.getElem_fin]

/-- A flight is measured from the G1 that its context holds (R128). -/
theorem completeFlight_started {g1 : Stamp} {t1 : PT} {stamp : Stamp} (hg : (s.capture[k]).g1 = some (g1, t1)) :
    completeFlight k stamp time s =
      let spacing := (s.tables.cal[k]).gateSpacing
      let event := CaptureEvent.noteOn k time (hammerSpeed spacing g1 stamp) (s.capture[k]).restrike
        (speedClamped spacing g1 stamp)
      let down :=
        setCapture k { s.capture[k] with state := .down, remembered := none, g1 := none, gateTimer := none } s
      if (s.capture[k]).restrike = true then offerRestrike k event down else offerFirst k event down := by
  have hstart : ((s.capture[k]).g1.map (·.1)).getD stamp = g1 := by rw [hg]; rfl
  rw [← hstart]
  rfl

/-! ## The gate timer (R129) -/

theorem exec_captureGateTimeout_due (h : (s.capture[k]).state = .gated)
    (hd : ∃ d, (s.capture[k]).gateTimer = some d ∧ d ≤ s.localTime) :
    exec (.captureGateTimeout k) s = .next (captureTimeout k s) :=
  congrArg Host.Outcome.next (if_pos ⟨h, (timerDue_iff _ _).mpr hd⟩)

theorem exec_captureGateTimeout_early
    (h : (s.capture[k]).state ≠ .gated ∨ ¬∃ d, (s.capture[k]).gateTimer = some d ∧ d ≤ s.localTime) :
    exec (.captureGateTimeout k) s = .next s := by
  refine congrArg Host.Outcome.next (if_neg ?_)
  rintro ⟨hs, hd⟩
  exact h.elim (· hs) (· ((timerDue_iff _ _).mp hd))

/-- A first stroke whose G2 does not come is Silent, at the time of its G1. -/
theorem captureTimeout_first {g1 : Stamp} {t1 : PT} (hr : (s.capture[k]).restrike = false)
    (hg : (s.capture[k]).g1 = some (g1, t1)) :
    captureTimeout k s =
      offerFirst k (fun gap held => .silent k t1 gap held)
        (setCapture k { s.capture[k] with state := .quiet, g1 := none, gateTimer := none } s) := by
  simp [captureTimeout, hr, hg, -Fin.getElem_fin]

/-- A restrike whose G2 does not come returns to the state it rose from, and offers nothing. -/
theorem captureTimeout_restrike {m : CaptureState} (hr : (s.capture[k]).restrike = true)
    (hm : (s.capture[k]).remembered = some m) :
    captureTimeout k s =
      setCapture k { s.capture[k] with state := m, remembered := none, g1 := none, gateTimer := none } s := by
  simp [captureTimeout, hr, hm, -Fin.getElem_fin]

/-! ## The statement -/

/-- Settles O51, row by row, with each offer as on the context that its row writes. -/
theorem captureContextsFollowKeys : Obligations.CaptureContextsFollowKeys := by
  refine ⟨StrikeProofs.capturing_iff, ?_⟩
  intro s k time stamp c held room put gated first restrike rest
  have hfirst (c' : CaptureContext) (ev : Bool → Bool → CaptureEvent) (h : c'.announced = c.announced) :
      offerFirst k ev (setCapture k c' s) = first c' (ev s.keyGap held) := offerFirst_setCapture k c' ev s h
  have hrestrike (c' : CaptureContext) (ev : Bool → Bool → CaptureEvent) (h : c'.announced = c.announced) :
      offerRestrike k ev (setCapture k c' s) = restrike c' (ev s.keyGap held) := offerRestrike_setCapture k c' ev s h
  have hrest : offerNoteOff k time (setCapture k (atRest c) s) = rest := offerNoteOff_atRest k time s
  refine ⟨captureCrossing_rest, fun h => ?descending, fun h => ?gated, fun h => ?landed, fun h => ?rearmed,
    fun d h hd => ?timer, fun h => exec_captureGateTimeout_early (.inl h)⟩
  case descending =>
    obtain ⟨hg1, hk2Down, hk1Up, hother⟩ := captureCrossing_descending (time := time) h stamp
    exact ⟨hg1, hk2Down.trans (hfirst _ _ rfl), hk1Up, hother⟩
  case gated =>
    obtain ⟨hg1, hk1Up, hother, hg2⟩ := captureCrossing_gated (time := time) h stamp
    refine ⟨hg1, hk1Up.trans hrest, hother, fun g1 t1 hc => ?_⟩
    exact (hg2.trans (completeFlight_started hc)).trans
      (if_congr Iff.rfl (hrestrike _ _ rfl) (hfirst _ _ rfl))
  case landed =>
    obtain ⟨hk2Up, hk1Up, hother⟩ := captureCrossing_landed (time := time) h
    exact ⟨hk2Up, hk1Up.trans hrest, hother⟩
  case rearmed =>
    obtain ⟨hg1, hk1Up, hk2Down, hother⟩ := captureCrossing_rearmed (time := time) h stamp
    refine ⟨hg1, hk1Up.trans hrest, fun m hm => ?_, hother⟩
    rw [hk2Down, hm]
    rfl
  case timer =>
    refine ⟨fun hlt => exec_captureGateTimeout_early (.inr ?_), fun hle g1 t1 hg => ?_⟩
    · rintro ⟨d', hd', hle⟩
      cases hd.symm.trans hd'
      exact Nat.not_le.mpr hlt hle
    · rw [exec_captureGateTimeout_due h ⟨d, hd, hle⟩]
      refine ⟨fun hr => ?_, fun m hr hm => ?_⟩
      · exact congrArg Host.Outcome.next ((captureTimeout_first hr hg).trans (hfirst _ _ rfl))
      · exact congrArg Host.Outcome.next (captureTimeout_restrike hr hm)

end Sys2Proof.CaptureProofs
end

section
/-! PROOFS. The laws of the capture contexts (R124 to R130): the relation between the states before and after an operation in
which they are proved, and the rows of the table of R130 in one context. -/

namespace Sys2Proof.CaptureLawProofs

open Sys2Proof Sys2Proof.Machine Sys2Proof.TableProofs Sys2Proof.StrikeProofs Sys2Proof.RailListProofs Sys2Proof.LawProofs

/-! ## The relation -/

/-- Driven keys stay at Rest in capture (R124, R125), and capture contexts well formed (R126). -/
structure KeepsCaptures (s t : State) : Prop where
  atRest : DrivenKeysAtRest s → DrivenKeysAtRest t
  formed : CapturesFormed s → CapturesFormed t

theorem captureFormed_clear : CaptureFormed CaptureContext.clear := by decide

namespace KeepsCaptures

variable {s t u : State}

theorem refl (s : State) : KeepsCaptures s s := ⟨id, id⟩

theorem trans (h : KeepsCaptures s t) (h' : KeepsCaptures t u) : KeepsCaptures s u :=
  ⟨h'.atRest ∘ h.atRest, h'.formed ∘ h.formed⟩

theorem ite {c : Prop} [Decidable c] (ht : c → KeepsCaptures s t) (hu : ¬c → KeepsCaptures s u) :
    KeepsCaptures s (if c then t else u) := by
  split
  · next h => exact ht h
  · next h => exact hu h

/-- The same operation for each key, pedal or report in turn. -/
theorem foldl {α : Type} {f : State → α → State} (h : ∀ s a, KeepsCaptures s (f s a)) (l : List α) (s : State) :
    KeepsCaptures s (l.foldl f s) :=
  List.foldlRecOn l f (refl s) fun b hb a _ => hb.trans (h b a)

/-- An operation that leaves the capture contexts, and the Idle drive contexts Idle. -/
theorem of_idle (hd : ∀ k : Key, (s.drive[k]).state = .idle → (t.drive[k]).state = .idle) (hc : t.capture = s.capture) :
    KeepsCaptures s t where
  atRest hs k hk := by rw [hc]; exact hs k (mt (hd k) hk)
  formed hs := by unfold CapturesFormed; rwa [hc]

theorem of_contexts (hd : t.drive = s.drive) (hc : t.capture = s.capture) : KeepsCaptures s t :=
  of_idle (fun k hk => by rwa [hd]) hc

theorem of_vital (h : vital t = vital s) : KeepsCaptures s t :=
  of_contexts (congrArg Vital.drive h) (congrArg Vital.capture h)

theorem of_clear (h : ∀ k : Key, t.capture[k] = CaptureContext.clear) : KeepsCaptures s t where
  atRest _ k _ := h k
  formed _ k := by rw [h k]; exact captureFormed_clear

end KeepsCaptures

/-! ## One context written -/

theorem setDrive_captures {k : Key} {d : DriveContext} {s : State}
    (h : d.state = .idle ∨ (s.drive[k]).state ≠ .idle ∨ s.capture[k] = CaptureContext.clear) :
    KeepsCaptures s (setDrive k d s) where
  atRest hs j hj := by
    rw [setDrive_get] at hj
    split at hj
    · next hjk =>
      rw [hjk]
      exact (h.resolve_left hj).elim (hs k) id
    · exact hs j hj
  formed := id

/-- A drive context written in the state it is in. -/
theorem setDrive_sameState_captures {k : Key} {d : DriveContext} {s : State} (h : d.state = (s.drive[k]).state) :
    KeepsCaptures s (setDrive k d s) := by
  refine setDrive_captures ?_
  rw [h]
  exact (em _).imp_right .inl

/-- Each drive context changed by itself, an Idle one Idle after. -/
theorem mapDrive_captures {g : DriveContext → DriveContext} (h : ∀ d, d.state = .idle → (g d).state = .idle) (s : State) :
    KeepsCaptures s { s with drive := s.drive.map g } :=
  .of_idle (fun k hk => by simpa using h _ hk) rfl

theorem captureAtRest_captures (k : Key) (s : State) : KeepsCaptures s (setCapture k CaptureContext.clear s) where
  atRest hs j hj := by
    rw [setCapture_get]
    split
    · rfl
    · exact hs j hj
  formed hs j := by
    rw [setCapture_get]
    split
    · exact captureFormed_clear
    · exact hs j

theorem driveNotice_captures (k : Key) (s : State) : KeepsCaptures s (driveNotice k s) := by
  rw [driveNotice_eq]
  exact (captureAtRest_captures k s).trans (.of_contexts rfl rfl)

theorem driveNotice_capture (k : Key) (s : State) : (driveNotice k s).capture[k] = CaptureContext.clear := by
  rw [driveNotice_eq]
  exact setCapture_self k _ s

/-- An operation on one key's capture context, which leaves it well formed, every drive context and the capture contexts of
the other keys as they were. -/
structure OneCapture (k : Key) (s t : State) : Prop where
  drive : t.drive = s.drive
  other : ∀ j : Key, j ≠ k → t.capture[j] = s.capture[j]
  formed : CaptureFormed s.capture[k] → CaptureFormed t.capture[k]

namespace OneCapture

variable {k : Key} {s t u : State}

theorem refl (k : Key) (s : State) : OneCapture k s s := ⟨rfl, fun _ _ => rfl, id⟩

theorem trans (h : OneCapture k s t) (h' : OneCapture k t u) : OneCapture k s u :=
  ⟨h'.drive.trans h.drive, fun j hj => (h'.other j hj).trans (h.other j hj), h'.formed ∘ h.formed⟩

theorem ite {c : Prop} [Decidable c] (ht : OneCapture k s t) (hu : OneCapture k s u) :
    OneCapture k s (if c then t else u) := by
  split
  · exact ht
  · exact hu

/-- Of a key that is not driven, it keeps the laws (R124, R125). -/
theorem captures (h : OneCapture k s t) (hi : DrivenKeysAtRest s → (s.drive[k]).state = .idle) : KeepsCaptures s t where
  atRest hs j hj := by
    rw [h.drive] at hj
    rw [h.other j fun hjk => hj (hjk ▸ hi hs)]
    exact hs j hj
  formed hs j := by
    by_cases hj : j = k
    · subst hj
      exact h.formed (hs j)
    · rw [h.other j hj]
      exact hs j

end OneCapture

theorem setCapture_one {k : Key} {c : CaptureContext} {s : State} (h : CaptureFormed s.capture[k] → CaptureFormed c) :
    OneCapture k s (setCapture k c s) where
  drive := rfl
  other j hj := (setCapture_get k c s j).trans (if_neg hj)
  formed hs := by
    rw [setCapture_self]
    exact h hs

/-! ### What each state gives its context (R126) -/

section States

variable {c : CaptureContext}

theorem captureFormed_gated (h : c.state = .gated) :
    CaptureFormed c ↔
      c.g1.isSome = true ∧ c.gateTimer.isSome = true ∧ c.remembered.isSome = c.restrike ∧
        ∀ r ∈ c.remembered, r = .down ∨ r = .quiet := by
  simp [CaptureFormed, h]

theorem captureFormed_rearmed (h : c.state = .rearmed) :
    CaptureFormed c ↔ c.g1 = none ∧ c.gateTimer = none ∧ ∃ r, c.remembered = some r ∧ (r = .down ∨ r = .quiet) := by
  cases hr : c.remembered <;> simp [CaptureFormed, h, hr]

/-- Outside Gated and Rearmed. -/
theorem captureFormed_settled (hg : c.state ≠ .gated) (hr : c.state ≠ .rearmed) :
    CaptureFormed c ↔
      c.g1 = none ∧ c.gateTimer = none ∧ c.remembered = none ∧
        (c.state = .rest ∨ c.state = .descending → c.restrike = false) := by
  cases hm : c.remembered <;> simp [CaptureFormed, hg, hr, hm]

/-- The state that a Rearmed context, or a Gated one with restrike, remembers is settled (R126, R129, R130). -/
theorem captureFormed_returned {r : CaptureState} (h : r = .down ∨ r = .quiet) (hg : c.g1 = none) (ht : c.gateTimer = none) :
    CaptureFormed { c with state := r, remembered := none } := by
  rcases h with rfl | rfl
  all_goals exact (captureFormed_settled (by simp) (by simp)).mpr ⟨hg, ht, rfl, by simp⟩

/-! ### The rows of the table of R130 in one context -/

theorem captureFormed_atRest (c : CaptureContext) : CaptureFormed (atRest c) := captureFormed_clear

theorem captureFormed_descends (hs : c.state = .rest) (h : CaptureFormed c) : CaptureFormed { c with state := .descending } := by
  obtain ⟨hg, ht, hm, hr⟩ := (captureFormed_settled (by simp [hs]) (by simp [hs])).mp h
  exact (captureFormed_settled (by simp) (by simp)).mpr ⟨hg, ht, hm, fun _ => hr (.inl hs)⟩

/-- K2 down in Descending, with no G1 before it. -/
theorem captureFormed_silent (hs : c.state = .descending) (h : CaptureFormed c) : CaptureFormed { c with state := .quiet } := by
  obtain ⟨hg, ht, hm, _⟩ := (captureFormed_settled (by simp [hs]) (by simp [hs])).mp h
  exact (captureFormed_settled (by simp) (by simp)).mpr ⟨hg, ht, hm, by simp⟩

theorem captureFormed_gatedBy_first (stamp : Stamp) (time : PT) (now : Nat) (hs : c.state = .descending)
    (h : CaptureFormed c) : CaptureFormed (gatedBy stamp time now { c with restrike := false }) := by
  obtain ⟨_, _, hm, _⟩ := (captureFormed_settled (by simp [hs]) (by simp [hs])).mp h
  exact (captureFormed_gated rfl).mpr ⟨rfl, rfl, by simp [gatedBy, hm], by simp [gatedBy, hm]⟩

theorem captureFormed_gatedBy_again (stamp : Stamp) (time : PT) (now : Nat) (hs : c.state = .gated)
    (h : CaptureFormed c) : CaptureFormed (gatedBy stamp time now c) := by
  obtain ⟨_, _, hsome, hm⟩ := (captureFormed_gated hs).mp h
  exact (captureFormed_gated rfl).mpr ⟨rfl, rfl, hsome, hm⟩

theorem captureFormed_gatedBy_restrike (stamp : Stamp) (time : PT) (now : Nat) (hs : c.state = .rearmed)
    (h : CaptureFormed c) : CaptureFormed (gatedBy stamp time now { c with restrike := true }) := by
  obtain ⟨_, _, r, hm, hr⟩ := (captureFormed_rearmed hs).mp h
  exact (captureFormed_gated rfl).mpr ⟨rfl, rfl, by simp [gatedBy, hm], by simpa [gatedBy, hm] using hr⟩

/-- K2 up in Down and Quiet. -/
theorem captureFormed_rises {r : CaptureState} (hr : r = .down ∨ r = .quiet) (hs : c.state = r) (h : CaptureFormed c) :
    CaptureFormed { c with state := .rearmed, remembered := some r } := by
  obtain ⟨hg, ht, _, _⟩ :=
    (captureFormed_settled (by rcases hr with rfl | rfl <;> simp [hs]) (by rcases hr with rfl | rfl <;> simp [hs])).mp h
  exact (captureFormed_rearmed rfl).mpr ⟨hg, ht, r, rfl, hr⟩

/-- K2 down in Rearmed. -/
theorem captureFormed_falls (hs : c.state = .rearmed) (h : CaptureFormed c) :
    CaptureFormed { c with state := c.remembered.getD .down, remembered := none } := by
  obtain ⟨hg, ht, r, hm, hr⟩ := (captureFormed_rearmed hs).mp h
  rw [hm]
  exact captureFormed_returned hr hg ht

theorem captureFormed_completed (c : CaptureContext) :
    CaptureFormed { c with state := .down, remembered := none, g1 := none, gateTimer := none } :=
  captureFormed_returned (c := { c with g1 := none, gateTimer := none }) (.inl rfl) rfl rfl

/-- The gate timer of a first stroke expires (R129). -/
theorem captureFormed_timeout_first (hs : c.state = .gated) (hr : ¬c.restrike = true) (h : CaptureFormed c) :
    CaptureFormed { c with state := .quiet, g1 := none, gateTimer := none } := by
  obtain ⟨_, _, hsome, _⟩ := (captureFormed_gated hs).mp h
  have hnone : c.remembered = none := by simpa [hr] using hsome
  exact (captureFormed_settled (by simp) (by simp)).mpr ⟨rfl, rfl, hnone, by simp⟩

/-- The gate timer of a restrike expires (R129). -/
theorem captureFormed_timeout_restrike (hs : c.state = .gated) (hr : c.restrike = true) (h : CaptureFormed c) :
    CaptureFormed { c with state := c.remembered.getD .down, remembered := none, g1 := none, gateTimer := none } := by
  obtain ⟨_, _, hsome, hm⟩ := (captureFormed_gated hs).mp h
  obtain ⟨r, hremembered⟩ := Option.isSome_iff_exists.mp (hsome.trans hr)
  have hr := hm r hremembered
  rw [hremembered]
  exact captureFormed_returned (c := { c with g1 := none, gateTimer := none }) hr rfl rfl

end States

/-! ### Offers and crossings (R127 to R134) -/

/-- Whether the key is announced is nothing to the form of its context (R126). -/
theorem offerFirst_one (k : Key) (event : Bool → Bool → CaptureEvent) (s : State) : OneCapture k s (offerFirst k event s) := by
  have announced : OneCapture k s (setCapture k { s.capture[k] with announced := true } s) := setCapture_one id
  exact .ite (.ite ⟨rfl, announced.other, announced.formed⟩ ⟨rfl, fun _ _ => rfl, id⟩) (.refl k s)

theorem offerRestrike_one (k : Key) (event : Bool → Bool → CaptureEvent) (s : State) :
    OneCapture k s (offerRestrike k event s) :=
  .ite (.ite ⟨rfl, fun _ _ => rfl, id⟩ ⟨rfl, fun _ _ => rfl, id⟩) (.refl k s)

theorem offerNoteOff_one (k : Key) (time : PT) (s : State) : OneCapture k s (offerNoteOff k time s) := by
  have closed : OneCapture k s (setCapture k { s.capture[k] with announced := false } s) := setCapture_one id
  exact .ite ⟨rfl, closed.other, closed.formed⟩ (.refl k s)

theorem completeFlight_one (k : Key) (stamp : Stamp) (time : PT) (s : State) :
    OneCapture k s (completeFlight k stamp time s) := by
  have down : OneCapture k s
      (setCapture k { s.capture[k] with state := .down, remembered := none, g1 := none, gateTimer := none } s) :=
    setCapture_one fun _ => captureFormed_completed _
  exact .ite (down.trans (offerRestrike_one _ _ _)) (down.trans (offerFirst_one _ _ _))

theorem captureCrossing_one (k : Key) (x : Crossing) (time : PT) (s : State) :
    OneCapture k s (captureCrossing k x time s) := by
  have keyUp : OneCapture k s (offerNoteOff k time (setCapture k (atRest s.capture[k]) s)) :=
    (setCapture_one fun _ => captureFormed_atRest _).trans (offerNoteOff_one _ _ _)
  unfold captureCrossing
  simp only
  cases hs : (s.capture[k]).state with
  | rest =>
    cases x with
    | k1Down => exact setCapture_one (captureFormed_descends hs)
    | k1Up | k2Down | k2Up | g1 | g2 => exact .refl k s
  | descending =>
    cases x with
    | g1 stamp => exact setCapture_one (captureFormed_gatedBy_first stamp time s.localTime hs)
    | k2Down => exact (setCapture_one (captureFormed_silent hs)).trans (offerFirst_one _ _ _)
    | k1Up => exact setCapture_one fun _ => captureFormed_atRest _
    | k1Down | k2Up | g2 => exact .refl k s
  | gated =>
    cases x with
    | g2 stamp => exact completeFlight_one k stamp time s
    | g1 stamp => exact setCapture_one (captureFormed_gatedBy_again stamp time s.localTime hs)
    | k1Up => exact keyUp
    | k1Down | k2Down | k2Up => exact .refl k s
  | down =>
    cases x with
    | k2Up => exact setCapture_one (captureFormed_rises (.inl rfl) hs)
    | k1Up => exact keyUp
    | k1Down | k2Down | g1 | g2 => exact .refl k s
  | quiet =>
    cases x with
    | k2Up => exact setCapture_one (captureFormed_rises (.inr rfl) hs)
    | k1Up => exact keyUp
    | k1Down | k2Down | g1 | g2 => exact .refl k s
  | rearmed =>
    cases x with
    | g1 stamp => exact setCapture_one (captureFormed_gatedBy_restrike stamp time s.localTime hs)
    | k2Down => exact setCapture_one (captureFormed_falls hs)
    | k1Up => exact keyUp
    | k1Down | k2Up | g2 => exact .refl k s

theorem captureTimeout_one {k : Key} {s : State} (hs : (s.capture[k]).state = .gated) :
    OneCapture k s (captureTimeout k s) := by
  unfold captureTimeout
  simp only
  split
  · next hr => exact setCapture_one (captureFormed_timeout_restrike hs hr)
  · next hr => exact (setCapture_one (captureFormed_timeout_first hs hr)).trans (offerFirst_one _ _ _)

end Sys2Proof.CaptureLawProofs
end

section
/-! PROOFS. The operations of the Pedal Controller, the Key Drive Controller and the Calibration Unit keep the laws of the
capture contexts (R87, R91 to R97, R104, R124, R125, R161). -/

namespace Sys2Proof.CaptureLawProofs

open Sys2Proof Sys2Proof.Machine Sys2Proof.TableProofs Sys2Proof.StrikeProofs Sys2Proof.RailListProofs Sys2Proof.LawProofs
open KeepsCaptures (of_contexts)

/-! ## Reports, requests and pedals -/

theorem addReport_captures (r : Report) (s : State) : KeepsCaptures s (addReport r s) :=
  of_contexts (addReport_drive r s) (addReport_capture r s)

theorem addReports_captures (rs : List Report) (s : State) : KeepsCaptures s (addReports rs s) :=
  .foldl (fun s r => addReport_captures r s) rs s

theorem wake_captures (s : State) : KeepsCaptures s (wake s) := of_contexts (wake_drive s) (wake_capture s)

theorem requestRail_captures (c : RailCmd) (s : State) : KeepsCaptures s (requestRail c s) :=
  of_contexts (requestRail_drive c s) (requestRail_capture c s)

theorem releaseAll_captures (recovery restart : Bool) (s : State) :
    KeepsCaptures s (requestReleaseAll recovery restart s) :=
  .ite (fun _ => of_contexts rfl rfl) fun _ => of_contexts rfl rfl

theorem releaseEverything_captures (restart : Bool) (s : State) : KeepsCaptures s (releaseEverything restart s) := by
  have cleared : KeepsCaptures s { s with rail := clearInFlight s.rail } := of_contexts rfl rfl
  exact .ite (fun _ => cleared.trans (releaseAll_captures _ _ _)) fun _ => releaseAll_captures _ _ s

theorem setReplay_captures (p : Pedal) (c : PedalReplay) (s : State) : KeepsCaptures s (setReplay p c s) :=
  of_contexts rfl rfl

theorem requestPedal_captures (p : Pedal) (c : PedalReplay) (s : State) :
    KeepsCaptures s (requestRail (.pedalSet p) (setReplay p c s)) :=
  (setReplay_captures p c s).trans (requestRail_captures _ _)

theorem issuePosition_captures (p : Pedal) (n : Nat) (s : State) : KeepsCaptures s (issuePosition p n s) :=
  .ite (fun _ => requestPedal_captures p _ s) fun _ => setReplay_captures p _ s

theorem pedalAction_captures (p : Pedal) (n : Nat) (s : State) : KeepsCaptures s (pedalAction p n s) := by
  unfold pedalAction
  cases (s.replay[p]).state with
  | ready => exact issuePosition_captures p n s
  | requested | spacing | waiting => exact setReplay_captures p _ s

theorem endGapIfOver_captures (p : Pedal) (s : State) : KeepsCaptures s (endGapIfOver p s) := by
  refine .ite (fun _ => ?_) fun _ => .refl s
  unfold endGap
  cases (s.replay[p]).state with
  | spacing => exact setReplay_captures p _ s
  | waiting => exact issuePosition_captures p _ s
  | ready | requested => exact .refl s

theorem pedalsToRest_captures (s : State) : KeepsCaptures s (pedalsToRest s) := by
  refine .foldl (fun s p => ?_) allPedals s
  unfold pedalToRest
  split
  · exact setReplay_captures p _ s
  · exact .ite (fun _ => requestPedal_captures p _ s) fun _ => setReplay_captures p _ s

theorem pedalsFault_captures (s : State) : KeepsCaptures s (pedalsFault s) := by
  refine .foldl (fun s p => ?_) allPedals s
  unfold pedalFault
  cases (s.replay[p]).state with
  | requested | waiting => exact setReplay_captures p _ s
  | ready | spacing => exact .refl s

/-! ## Measurements and probes (R94 to R97, R104, R161 to R163) -/

/-- A probe request is taken behind the drive notice to its key (R104, R124). -/
theorem takeProbe_captures (c : CalContext) (s : State) : KeepsCaptures s (takeProbe c s) := by
  have pushing : KeepsCaptures (driveNotice c.current s)
      (setDrive c.current
        { DriveContext.clear with state := .pushing, job := some (.probe c.channel (currentLevel c)) }
        (driveNotice c.current s)) :=
    setDrive_captures (.inr (.inr (driveNotice_capture c.current s)))
  exact (((driveNotice_captures c.current s).trans pushing).trans (requestRail_captures _ _)).trans (of_contexts rfl rfl)

theorem idleReport_captures (k : Key) (s : State) : KeepsCaptures s (idleReport k s) := by
  unfold idleReport
  split
  · exact .refl s
  · next c _ =>
    refine .ite (fun _ => ?_) fun _ => .refl s
    cases c.phase with
    | awaitingRest => exact of_contexts rfl rfl
    | probing => exact .ite (fun _ => .refl s) fun _ => takeProbe_captures c s
    | settling => exact .refl s

theorem probeOutcome_captures (k : Key) (d : DriveContext) (o : MeasOutcome) (s : State) :
    KeepsCaptures s (probeOutcome k d o s) := by
  unfold probeOutcome
  split
  · exact .refl s
  · next c _ =>
    have recorded (arrived : Bool) (speed latency : Nat) : KeepsCaptures s (probeRecorded c k arrived speed latency s) :=
      of_contexts (addReport_drive _ _) (addReport_capture _ _)
    refine .ite (fun _ => ?_) fun _ => .refl s
    cases o with
    | arrived | noArrival => exact recorded _ _ _
    | notMeasured => exact .refl s

theorem strikeClosed_captures (d : DriveContext) (st : Strike) (o : MeasOutcome) (s : State) :
    KeepsCaptures s (strikeClosed d st o s) := by
  cases o with
  | arrived g1 g2 time =>
    have trim : KeepsCaptures s (applyTrim d st (measuredLatency time (d.issue.getD 0)) s) :=
      .ite (fun _ => of_contexts rfl rfl) fun _ => .refl s
    exact trim.trans (addReport_captures _ _)
  | noArrival | notMeasured => exact addReport_captures _ s

theorem closeMeasurement_captures (k : Key) (o : MeasOutcome) (s : State) : KeepsCaptures s (closeMeasurement k o s) := by
  have closed : KeepsCaptures s (setDrive k { s.drive[k] with measuring := false, gateTimer := none } s) :=
    setDrive_sameState_captures rfl
  refine closed.trans ?_
  unfold closeMeasurement
  simp only
  split
  · exact strikeClosed_captures _ _ o _
  · exact probeOutcome_captures k _ o _
  · exact .refl _

theorem closeOpen_captures (k : Key) (s : State) : KeepsCaptures s (closeOpen k s) :=
  .ite (fun _ => closeMeasurement_captures k _ s) fun _ => .refl s

theorem closeMarked_captures (k : Key) (s : State) : KeepsCaptures s (closeMarked k s) :=
  .ite (fun _ => closeMeasurement_captures k _ s) fun _ => .refl s

/-! ## Drive contexts (R86 to R93) -/

theorem becomeIdle_captures (k : Key) (s : State) : KeepsCaptures s (becomeIdle k s) := by
  have cleared : KeepsCaptures s (setDrive k DriveContext.clear s) := setDrive_captures (.inl rfl)
  exact (cleared.trans (captureAtRest_captures k _)).trans (idleReport_captures k _)

theorem comeToRest_captures (k : Key) (s : State) : KeepsCaptures s (comeToRest k s) :=
  (closeOpen_captures k s).trans (becomeIdle_captures k _)

/-- A strike is taken behind the drive notice to an Idle key, or on a key that is driven already (R87, R124). -/
theorem takeStrike_captures (time : PT) (st : Strike) (s : State) : KeepsCaptures s (takeStrike time st s) := by
  rw [takeStrike_eq]
  refine KeepsCaptures.trans ?_ (requestRail_captures _ _)
  split
  · exact (driveNotice_captures st.key s).trans (setDrive_captures (.inr (.inr (driveNotice_capture st.key s))))
  · next hdriven =>
    refine (closeOpen_captures st.key s).trans (setDrive_captures (.inr (.inl ?_)))
    rwa [(closeOpen_state st.key st.key s).1]

section Driven

variable {k : Key} {s : State} (h : (s.drive[k]).state ≠ .idle)

include h

theorem beginRelease_captures : KeepsCaptures s (beginRelease k s) :=
  ((setDrive_captures (.inr (.inl h))).trans (requestRail_captures _ _)).trans (closeMarked_captures k _)

theorem endPush_captures : KeepsCaptures s (endPush k s) := by
  unfold endPush
  simp only
  split
  · exact ((setDrive_captures (.inr (.inl h))).trans (requestRail_captures _ _)).trans (closeMarked_captures k _)
  · exact beginRelease_captures h
  · exact .refl s

end Driven

theorem giveUpPush_captures (k : Key) (s : State) : KeepsCaptures s (giveUpPush k s) := by
  have withdrawn : KeepsCaptures s (withdraw (isPushOf k) s) := of_contexts rfl rfl
  refine withdrawn.trans ?_
  unfold giveUpPush
  simp only
  split
  · exact (addReport_captures _ _).trans (becomeIdle_captures k _)
  · exact becomeIdle_captures k _
  · exact becomeIdle_captures k _

theorem releaseKey_captures (k : Key) (s : State) : KeepsCaptures s (releaseKey k s) := by
  refine .ite (fun _ => .refl s) fun _ => ?_
  cases h : (s.drive[k]).state with
  | pushing =>
    cases (s.drive[k]).stage with
    | sent => exact beginRelease_captures (h.trans_ne (by simp))
    | waiting => exact giveUpPush_captures k s
  | holding => exact beginRelease_captures (h.trans_ne (by simp))
  | releasing | idle => exact .refl s

theorem recordG1_captures (k : Key) (stamp : Stamp) (s : State) : KeepsCaptures s (recordG1 k stamp s) :=
  .ite (fun _ => setDrive_sameState_captures rfl) fun _ => .refl s

theorem recordG1_state (k : Key) (stamp : Stamp) (s : State) : ((recordG1 k stamp s).drive[k]).state = (s.drive[k]).state := by
  rw [recordG1_eq, setDrive_self]
  split <;> rfl

theorem measureG2_captures (k : Key) (stamp : Stamp) (time : PT) (s : State) : KeepsCaptures s (measureG2 k stamp time s) := by
  unfold measureG2
  simp only
  split
  · exact closeMeasurement_captures k _ s
  · exact .refl s

theorem driveCrossing_captures (k : Key) (x : Crossing) (time : PT) (s : State) :
    KeepsCaptures s (driveCrossing k x time s) := by
  refine .ite (fun _ => .refl s) fun _ => ?_
  cases h : (s.drive[k]).state with
  | idle => exact .refl s
  | pushing =>
    cases (s.drive[k]).stage with
    | waiting => exact .refl s
    | sent =>
      cases x with
      | g1 stamp =>
        refine .ite (fun _ => recordG1_captures k stamp s) fun _ => (recordG1_captures k stamp s).trans (endPush_captures ?_)
        exact ((recordG1_state k stamp s).trans h).trans_ne (by simp)
      | g2 stamp => exact measureG2_captures k stamp time s
      | k1Down | k1Up | k2Down | k2Up => exact .refl s
  | holding =>
    cases x with
    | g1 stamp => exact recordG1_captures k stamp s
    | g2 stamp => exact measureG2_captures k stamp time s
    | k1Down | k1Up | k2Down | k2Up => exact .refl s
  | releasing =>
    cases x with
    | g1 stamp => exact recordG1_captures k stamp s
    | g2 stamp => exact measureG2_captures k stamp time s
    | k2Up | k2Down => exact setDrive_sameState_captures h.symm
    | k1Up => exact comeToRest_captures k s
    | k1Down => exact .refl s

theorem lossMarks_captures (k : Key) (s : State) : KeepsCaptures s (lossMarks k s) := by
  have marked : KeepsCaptures s (setDrive k { s.drive[k] with notMeasured := true } s) := setDrive_sameState_captures rfl
  exact .ite (fun _ => marked.trans (.ite (fun _ => closeMeasurement_captures k _ _) fun _ => .refl _)) fun _ => .refl s

theorem lossReleases_captures (k : Key) (s : State) : KeepsCaptures s (lossReleases k s) := by
  unfold lossReleases
  simp only
  split
  · exact .ite (fun _ => comeToRest_captures k s) fun _ => setDrive_sameState_captures rfl
  · exact .refl s

theorem driveLoss_captures (s : State) : KeepsCaptures s (driveLoss s) :=
  .foldl (fun s k => (lossMarks_captures k s).trans (lossReleases_captures k _)) allKeys s

theorem closeCutShort_captures (s : State) : KeepsCaptures s (closeCutShort s) :=
  .foldl (fun s k => .ite (fun _ => closeMarked_captures k s) fun _ => .refl s) allKeys s

/-! ## Calibration runs (R158 to R167) -/

theorem withoutRun_captures (s : State) : KeepsCaptures s { s with run := none } := of_contexts rfl rfl

theorem abortRun_captures (s : State) : KeepsCaptures s (abortRun s) := by
  unfold abortRun
  split
  · exact .refl s
  · next c _ =>
    have aborted : KeepsCaptures s (abortKey c s) := by
      refine .ite (fun _ => ?_) fun _ => .refl s
      split
      · exact giveUpPush_captures _ s
      · next hp _ => exact beginRelease_captures (hp.trans_ne (by simp))
      · exact .refl s
    exact (aborted.trans (withoutRun_captures _)).trans (addReport_captures _ _)

theorem beginProbe_captures (c : CalContext) (s : State) : KeepsCaptures s (beginProbe c s) := by
  have withRun (r : Option CalContext) : KeepsCaptures s { s with run := r } := of_contexts rfl rfl
  exact .ite (fun _ => (withRun _).trans (.ite (fun _ => takeProbe_captures _ _) fun _ => .refl _)) fun _ =>
    (withRun _).trans (abortRun_captures _)

theorem makeCurrent_captures (n : Nat) (k : Key) (c : CalContext) (s : State) : KeepsCaptures s (makeCurrent n k c s) := by
  induction n generalizing k s with
  | zero => exact withoutRun_captures s
  | succ n ih =>
    by_cases hk : keySkipped k s = true
    · rw [makeCurrent_skipped hk]
      refine (addReport_captures (skippedResult c k) s).trans ?_
      split
      · exact ih _ _
      · exact withoutRun_captures _
    · rw [makeCurrent_played hk]
      exact beginProbe_captures _ s

theorem nextKey_captures (c : CalContext) (s : State) : KeepsCaptures s (nextKey c s) := by
  unfold nextKey
  split
  · exact makeCurrent_captures _ _ c s
  · exact withoutRun_captures s

theorem keyResult_captures (c : CalContext) (s : State) : KeepsCaptures s (keyResult c s) := by
  have written (r : CalRecord) : KeepsCaptures s (setCal c.current r s) := of_contexts rfl rfl
  unfold keyResult sweepResult quickResult
  cases c.kind with
  | sweep =>
    simp only
    split
    · exact addReport_captures _ s
    · exact (written _).trans (addReport_captures _ _)
  | quick => exact (written _).trans (addReport_captures _ _)

theorem settleEnds_captures (c : CalContext) (s : State) : KeepsCaptures s (settleEnds c s) :=
  .ite (fun _ => beginProbe_captures _ s) fun _ => (keyResult_captures c s).trans (nextKey_captures c _)

theorem startRun_captures (f : CalFields) (s : State) : KeepsCaptures s (startRun f s) := by
  unfold startRun
  split
  · exact (wake_captures s).trans (makeCurrent_captures _ _ _ _)
  · exact .refl s

end Sys2Proof.CaptureLawProofs
end

section
/-! PROOFS. The taking of rail commands, Stops, faults and Restarts keep the laws of the capture contexts (R88, R101 to R103,
R137 to R139, R144, R148, R156). -/

namespace Sys2Proof.CaptureLawProofs

open Sys2Proof Sys2Proof.Machine Sys2Proof.TableProofs Sys2Proof.StrikeProofs Sys2Proof.RailListProofs Sys2Proof.LawProofs
open KeepsCaptures (of_contexts of_vital)

/-! ## Commands taken at the rail (R88, R91, R103, R144, R156) -/

theorem markReleaseSent_state (now : Nat) (up : Bool) (d : DriveContext) : (markReleaseSent now up d).state = d.state := by
  unfold markReleaseSent
  split <;> rfl

/-- At a Restart's Release All every context becomes Idle, the run's key the next that may be driven (R103, R163). -/
theorem allIdle_captures (s : State) : KeepsCaptures s (allIdle s) := by
  have idle : KeepsCaptures s (allMadeIdle s) := .of_idle (fun k _ => by simp [allMadeIdle, DriveContext.clear]) rfl
  rw [allIdle_eq]
  split
  · exact idle
  · exact .ite (fun _ => idle.trans (idleReport_captures _ _)) fun _ => idle

theorem recordSending_captures (c : RailCmd) (s : State) : KeepsCaptures s (recordSending c s) := by
  cases c with
  | push k channel level =>
    have sent : KeepsCaptures s
        (setDrive k
          (pushSent s.tables.cal[k] (decide (s.clock.part = .running)) s.sensor.up s.localTime s.clock.pt s.drive[k]) s) :=
      setDrive_sameState_captures rfl
    exact sent.trans (of_contexts rfl rfl)
  | release k _ => exact setDrive_sameState_captures (markReleaseSent_state _ _ _)
  | releaseAll _ restart =>
    exact .ite (fun _ => allIdle_captures s) fun _ =>
      mapDrive_captures (fun d hd => (markReleaseSent_state _ _ d).trans hd) s
  | hold | pedalSet | park => exact of_contexts rfl rfl
  | unpark | passThrough => exact .refl s

theorem sendCommand_captures (start : Nat) (c : RailCmd) (s : State) : KeepsCaptures s (sendCommand start c s) :=
  (of_contexts rfl rfl : KeepsCaptures s (transmit start c s)).trans (recordSending_captures c _)

theorem takeCommand_captures (start : Nat) (c : RailCmd) (s : State) : KeepsCaptures s (takeCommand start c s).state := by
  unfold takeCommand
  split
  · next k _ _ =>
    split
    · exact sendCommand_captures start _ s
    · next st _ =>
      split
      · exact (addReport_captures (missedReport st) s).trans (becomeIdle_captures k _)
      · have late : KeepsCaptures s (markContextLate k st s) := setDrive_sameState_captures rfl
        exact late.trans (sendCommand_captures start _ _)
  · split
    · exact sendCommand_captures start _ s
    · exact of_contexts rfl rfl
  · exact sendCommand_captures start _ s

theorem railTake_captures (start n : Nat) (s : State) : KeepsCaptures s (railTake start n s) := by
  induction n generalizing s with
  | zero => exact .refl s
  | succ n ih =>
    refine .ite (fun _ => ?_) fun _ => .refl s
    split
    · unfold takePassThrough
      split
      · exact .refl s
      · next p rest _ =>
        have taken : KeepsCaptures s { s with rail := { s.rail with passQueue := rest } } := of_contexts rfl rfl
        exact .ite (fun _ => taken.trans (sendCommand_captures start _ _)) fun _ => .refl s
    · next q _ =>
      have looked : KeepsCaptures s
          (takeCommand start q.cmd { s with rail := { s.rail with waiting := s.rail.waiting.erase q } }).state :=
        (of_contexts rfl rfl : KeepsCaptures s (takenOut q s)).trans (takeCommand_captures start q.cmd _)
      split
      · next t ht => rw [ht] at looked; exact looked
      · next t ht => rw [ht] at looked; exact looked.trans (ih t)

theorem railServiceAt_captures (start : Nat) (s : State) : KeepsCaptures s (railServiceAt start s) :=
  railTake_captures start _ s

/-- A command that ends with the rail's service (R143). -/
theorem KeepsCaptures.served {s e : State} (h : KeepsCaptures s e) : KeepsCaptures s (railService e) :=
  h.trans (railServiceAt_captures _ e)

/-- A request's effect and its answer (R179). -/
theorem KeepsCaptures.answered {s e : State} (h : KeepsCaptures s e) (r : Response) : KeepsCaptures s (respond r e) :=
  h.trans (of_contexts rfl rfl)

theorem parkExpires_captures (s : State) : KeepsCaptures s (parkExpires s) := by
  have stopped : KeepsCaptures s { s with rail := { s.rail with parkTimer := none } } := of_contexts rfl rfl
  exact .ite (fun _ => stopped.trans (requestRail_captures _ _)) fun _ => of_contexts rfl rfl

/-! ## Closure, Stops, faults and Restarts (R10, R13, R14, R101 to R103, R137, R138, R148) -/

/-- Closure at a Stop or fault takes the announcement from a context and nothing else (R137). -/
theorem closeAnnounced_captures (cause : ClosingCause) (s : State) : KeepsCaptures s (closeAnnounced cause s) := by
  have closed (k : Key) : (closeAnnounced cause s).capture[k] = { s.capture[k] with announced := false } := by
    simp [closeAnnounced]
  refine ⟨fun hs k hk => ?_, fun hs k => ?_⟩
  · rw [closed, hs k hk]
    rfl
  · rw [closed]
    exact hs k

theorem captureLoss_captures (s : State) : KeepsCaptures s (captureLoss s) := .of_clear fun k => by simp [captureLoss]

theorem stopContext_idle (d : DriveContext) (h : d.state = .idle) : (stopContext d).state = .idle := by
  simp [stopContext, h]

theorem faultStopContext_idle (d : DriveContext) (h : d.state = .idle) : (faultStopContext d).state = .idle := by
  simp [faultStopContext, h]

/-- What the Key Drive Controller reports and withdraws at a Stop, ahead of its contexts (R96, R98, R101). -/
theorem givenUp_captures (s : State) : KeepsCaptures s (addReports (givenUpReports (closeCutShort s)) (closeCutShort s)) :=
  (closeCutShort_captures s).trans (addReports_captures _ _)

theorem driveStop_captures (s : State) : KeepsCaptures s (driveStop s) := by
  have withdrawn (which : RailCmd → Bool) (s : State) : KeepsCaptures s (withdraw which s) := of_contexts rfl rfl
  exact ((givenUp_captures s).trans (withdrawn _ _)).trans (mapDrive_captures stopContext_idle _)

theorem driveFaultStop_captures (s : State) : KeepsCaptures s (driveFaultStop s) :=
  (givenUp_captures s).trans (mapDrive_captures faultStopContext_idle _)

theorem stopTransition_captures (cause : StopCause) {release : State → State} (h : ∀ s, KeepsCaptures s (release s))
    (s : State) : KeepsCaptures s (stopTransition cause release s) := by
  have left : KeepsCaptures s (flush (leavePerformance .stopped cause s)) := of_contexts rfl rfl
  exact (((left.trans (driveStop_captures _)).trans (h _)).trans (pedalsToRest_captures _)).trans
    (closeAnnounced_captures _ _)

theorem stopInFaulted_captures (s : State) : KeepsCaptures s (stopInFaulted s) := by
  have left : KeepsCaptures s (leavePerformance .stopped .request s) := of_contexts rfl rfl
  exact ((left.trans (driveFaultStop_captures _)).trans (releaseEverything_captures _ _)).trans (pedalsToRest_captures _)

theorem stopInStopped_captures (s : State) : KeepsCaptures s (stopInStopped s) := by
  have recovering (s : State) : KeepsCaptures s (recoverIfFaulted s) :=
    .ite (fun _ => releaseEverything_captures _ s) fun _ => .refl s
  exact ((abortRun_captures s).trans (recovering _)).trans (of_contexts rfl rfl)

/-- A Restart brings every capture context to Rest (R139). -/
theorem restarted_captures (s : State) : KeepsCaptures s (driveRestart (restartBlocks s)) :=
  .of_clear fun k => by simp [driveRestart, restartBlocks]

theorem clearTrim_captures (s : State) : KeepsCaptures s { s with drive := s.drive.map clearTrim } :=
  mapDrive_captures (g := clearTrim) (fun _ h => h) s

theorem restartIdle_captures (s : State) : KeepsCaptures s (restartIdle s) :=
  mapDrive_captures (fun d hd => by split <;> [rfl; exact hd]) s

theorem clockFault_captures (s : State) : KeepsCaptures s (clockFault s) := by
  have left : KeepsCaptures s (flush (leavePerformance .faulted .railFault s)) := of_contexts rfl rfl
  exact .ite (fun _ => (left.trans (closeAnnounced_captures _ _)).trans (clearTrim_captures _)) fun _ => .refl s

theorem railFault_captures (s : State) : KeepsCaptures s (railFault s) := by
  have faulted : KeepsCaptures s (faultRail s) := .ite (fun _ => of_contexts rfl rfl) fun _ => of_contexts rfl rfl
  exact (((faulted.trans (restartIdle_captures _)).trans (clockFault_captures _)).trans (pedalsFault_captures _)).trans
    (abortRun_captures _)

/-- What an acknowledgement does at the rail (R145, R152, R154, R157). -/
theorem ackEffect_captures (c : RailCmd) (s : State) : KeepsCaptures s (ackEffect c s) := by
  refine of_vital ?_
  unfold ackEffect passThroughAcked powerGoesOn recovered
  (repeat' split) <;> rfl

theorem takeAck_captures (tag : Byte) (p : List Byte) (s : State) : KeepsCaptures s (takeAck tag p s) := by
  unfold takeAck
  split
  · exact .ite (fun _ => .refl s) fun _ => railFault_captures s
  · next e rest _ =>
    have removed : KeepsCaptures s
        { s with rail := { s.rail with inFlight := rest, window := windowOf s.localTime rest } } := of_contexts rfl rfl
    exact .ite (fun _ => removed.trans (ackEffect_captures e.cmd _)) fun _ => railFault_captures s

end Sys2Proof.CaptureLawProofs
end

section
/-! PROOFS. Crossings, the loss of the Sensor Link, the Action Queue, the tables and the Performance Link keep the laws of the
capture contexts (R29, R59 to R80, R122, R124, R129, R138, R181). -/

namespace Sys2Proof.CaptureLawProofs

open Sys2Proof Sys2Proof.Machine Sys2Proof.TableProofs Sys2Proof.StrikeProofs Sys2Proof.RailListProofs Sys2Proof.LawProofs
open KeepsCaptures (of_contexts)

/-! ## Crossings and the Sensor Link (R120, R122, R124, R129) -/

/-- A crossing goes to the capture context of a key that is not driven alone (R124). -/
theorem routeCrossing_captures (k : Key) (x : Crossing) (s : State) : KeepsCaptures s (routeCrossing k x s) := by
  refine .ite (fun _ => driveCrossing_captures k x _ s) fun hd => .ite (fun _ => ?_) fun _ => .refl s
  exact (captureCrossing_one k x _ s).captures fun _ => not_not.mp hd

/-- A Gated context is not at Rest, so its key is not driven (R124, R129). -/
theorem captureTimeout_captures {k : Key} {s : State} (h : (s.capture[k]).state = .gated) :
    KeepsCaptures s (captureTimeout k s) := by
  refine (captureTimeout_one h).captures fun hs => ?_
  by_contra hd
  rw [hs k hd] at h
  cases h

theorem samplePedals_captures (a b c : BitVec 16) (s : State) : KeepsCaptures s (samplePedals a b c s) := by
  have sampled (time : PT) (p : Pedal) (raw : BitVec 16) (s : State) : KeepsCaptures s (pedalRaw time p raw s) := by
    have written (c : PedalCapture) : KeepsCaptures s (setPedal p c s) := of_contexts rfl rfl
    have offered (s : State) : KeepsCaptures s (offerPedal p time s) :=
      .ite (fun _ => of_contexts rfl rfl) fun _ => of_contexts rfl rfl
    exact .ite (fun _ => (written _).trans (offered _)) fun _ => written _
  exact ((sampled _ _ _ _).trans (sampled _ _ _ _)).trans (sampled _ _ _ _)

theorem loseSensor_captures (s : State) : KeepsCaptures s (loseSensor s) := by
  have lost : KeepsCaptures s { s with sensor := defaultSensor, sticky := { s.sticky with sensorLoss := true } } :=
    of_contexts rfl rfl
  exact ((lost.trans (driveLoss_captures _)).trans (captureLoss_captures _)).trans (abortRun_captures _)

theorem sensorBad_captures (s : State) : KeepsCaptures s (sensorBad s) :=
  .ite (fun _ => .ite (fun _ => of_contexts rfl rfl) fun _ => loseSensor_captures s) fun _ => of_contexts rfl rfl

/-! ## The Action Queue (R59 to R80) -/

/-- The queue is nothing to these laws. -/
theorem withQueue_captures (q : ActionQueue) (s : State) : KeepsCaptures s { s with queue := q } := of_contexts rfl rfl

theorem enqueue_captures (time : PT) (body : ActionBody) (s : State) : KeepsCaptures s (enqueue time body s) :=
  (withQueue_captures _ s).trans (wake_captures _)

theorem admitStrike_captures (st : Strike) (j : Judgement) (target : PT) (s : State) :
    KeepsCaptures s (admitStrike st j target s) := by
  have released : KeepsCaptures s
      (if (s.queue.intake[st.key]).isOpen then implicitRelease st.key st.channel target s else s) :=
    .ite (fun _ => enqueue_captures _ _ s) fun _ => .refl s
  have admitted : KeepsCaptures s (admitKey st.key st.channel target s) := released.trans (withQueue_captures _ _)
  have refused (st : Strike) (missed : Bool) : KeepsCaptures s (refuseForRoom st missed s) :=
    of_contexts (addReport_drive _ _) (addReport_capture _ _)
  unfold admitStrike
  cases j with
  | missed => exact .ite (fun _ => admitted.trans (addReport_captures _ _)) fun _ => refused _ _
  | late | normal => exact .ite (fun _ => admitted.trans (enqueue_captures _ _ _)) fun _ => refused _ _

theorem intakeNoteOn_captures (f : NoteOnFields) (s : State) : KeepsCaptures s (intakeNoteOn f s) := by
  unfold intakeNoteOn
  split
  · exact addReport_captures _ s
  · exact .ite (fun _ => addReport_captures _ s) fun _ =>
      .ite (fun _ => addReport_captures _ s) fun _ => (withQueue_captures _ s).trans (admitStrike_captures _ _ _ _)

theorem intakeNoteOff_captures (note : Nat) (target : PT) (s : State) : KeepsCaptures s (intakeNoteOff note target s) := by
  unfold intakeNoteOff
  split
  · exact .refl s
  · exact .ite (fun _ => .refl s) fun _ => (withQueue_captures _ s).trans (enqueue_captures _ _ _)

theorem intakePedal_captures (f : PedalTargetFields) (s : State) : KeepsCaptures s (intakePedal f s) :=
  .ite (fun _ => .refl s) fun _ => .ite (fun _ => enqueue_captures _ _ s) fun _ => of_contexts rfl rfl

theorem handOver_captures (a : Action) (s : State) : KeepsCaptures s (handOver a s) := by
  have deferred (st : Strike) (own : Option PT) : KeepsCaptures s (deferStrike a st own s) := by
    rcases deferStrike_cases a st own s with h | ⟨_, h⟩ <;> rw [h]
    · exact addReport_captures _ s
    · exact withQueue_captures _ s
  unfold handOver
  split
  · exact .ite (fun _ => .ite (fun _ => takeStrike_captures _ _ s) fun _ => deferred _ _) fun _ => addReport_captures _ s
  · exact releaseKey_captures _ s
  · exact pedalAction_captures _ _ s

theorem dueNow_captures (s : State) : KeepsCaptures s (dueNow s) := by
  unfold dueNow
  induction 17 * s.queue.actions.length generalizing s with
  | zero => exact .refl s
  | succ n ih =>
    unfold handOverDue
    split
    · exact .refl s
    · next a rest _ =>
      have removed := withQueue_captures { s.queue with actions := rest } s
      exact .ite (fun _ => (removed.trans (handOver_captures a _)).trans (ih _)) fun _ => .refl s

theorem takeEvent_captures {intake : State → State} (h : ∀ s, KeepsCaptures s (intake s)) (s : State) :
    KeepsCaptures s (takeEvent intake s) :=
  .ite (fun _ => ((h s).trans (dueNow_captures _)).served) fun _ => of_contexts rfl rfl

/-! ## Tables (R29, R34) -/

theorem writeRecord_captures {table i : Nat} {bs : List Byte} {s t : State} (h : writeRecord table i bs s = .applied t) :
    KeepsCaptures s t := by
  unfold writeRecord at h
  split at h
  · unfold writeCal at h
    (repeat' split at h) <;> cases h
    exact of_contexts rfl rfl
  · unfold writeEntry at h
    (repeat' split at h) <;> cases h
    next k _ _ e _ =>
      have written : KeepsCaptures s (withEntry k e s) := of_contexts rfl rfl
      rw [applyEntry_eq]
      exact .ite (fun _ => written.trans (captureAtRest_captures k _)) fun _ => written
  · unfold writePedal at h
    (repeat' split at h) <;> cases h
    next p _ _ r _ =>
      have written : KeepsCaptures s (withPedalRecord p r s) := of_contexts rfl rfl
      exact written.trans (endGapIfOver_captures p _)

theorem writeRecords_captures (table size n i : Nat) (bs : List Byte) (s : State) :
    KeepsCaptures s (writeRecords table size n i bs s).2.2.2 := by
  induction n generalizing i bs s with
  | zero => exact .refl s
  | succ n ih =>
    unfold writeRecords
    split
    · exact .refl s
    · next t ht => exact (writeRecord_captures ht).trans (ih _ _ t)

theorem writeTable_captures (tag : Byte) (p : List Byte) (s : State) : KeepsCaptures s (writeTable tag p s) := by
  have refused (r : Response) : KeepsCaptures s (respond r s) := of_contexts rfl rfl
  refine .ite (fun _ => refused _) fun _ => ?_
  simp only
  split
  · exact refused _
  · have applied (size n i : Nat) (bs : List Byte) := writeRecords_captures (byteAt p 0) size n i bs s
    exact .ite (fun _ => .ite (fun _ => refused _) fun _ => (applied _ _ _ _).answered _) fun _ => refused _

theorem readTable_captures (tag : Byte) (p : List Byte) (s : State) : KeepsCaptures s (readTable tag p s) := by
  have refused (r : Response) : KeepsCaptures s (respond r s) := of_contexts rfl rfl
  exact .ite (fun _ => refused _) fun _ => .ite (fun _ => refused _) fun _ => .ite (fun _ => refused _) fun _ =>
    .ite (fun _ => refused _) fun _ => of_contexts rfl rfl

/-! ## The Performance Link (R181) -/

theorem choose_captures (start : Nat) (s : State) : KeepsCaptures s (choose start s) := by
  unfold choose chooseLower
  split
  · exact of_contexts rfl rfl
  · exact of_contexts rfl rfl
  · exact of_contexts rfl rfl
  · refine .ite (fun _ => of_contexts rfl rfl) fun _ => ?_
    split
    · exact of_contexts rfl rfl
    · exact of_contexts rfl rfl
    · exact .ite (fun _ => of_contexts rfl rfl) fun _ => .refl s

theorem endUpFrame_captures (t : UpTx) (s : State) : KeepsCaptures s (endUpFrame t s) := by
  have idle : KeepsCaptures s { s with link := { s.link with tx := none } } := of_contexts rfl rfl
  refine .ite (fun _ => idle.trans ?_) fun _ => idle
  unfold advanceRead
  split
  · exact .refl _
  · exact .ite (fun _ => of_contexts rfl rfl) fun _ => of_contexts rfl rfl

end Sys2Proof.CaptureLawProofs
end

section
/-! PROOFS. Every command and every step keeps the laws of the capture contexts (R124 to R130). -/

namespace Sys2Proof.CaptureLawProofs

open Sys2Proof Sys2Proof.Machine Sys2Proof.TableProofs Sys2Proof.StrikeProofs Sys2Proof.RailListProofs Sys2Proof.LawProofs
open KeepsCaptures (of_contexts of_vital)

/-! ## The receivers (R120, R141, R175, R178, R179) -/

section Receivers

variable {act : State → State} (h : ∀ s, KeepsCaptures s (act s))

include h

theorem deliver_captures (f : Frame) (s : State) : KeepsCaptures s (deliver f act s) := by
  have good : KeepsCaptures s (goodFrame s) := of_contexts rfl rfl
  exact .ite (fun _ => good.trans (h _)) fun _ => of_vital (feed_vital _ s)

theorem unlessFull_captures (s : State) : KeepsCaptures s (unlessFull act s) := .ite (fun _ => h s) fun _ => .refl s

/-- A control request on PLIN (R5, R178, R179). -/
theorem request_captures (f : Frame) (n : Nat) (p : List Byte) (r : State → Response) (s : State) :
    KeepsCaptures s (deliver f (unlessFull (checkLength n p (fun s => respond (r s) s) act)) s) := by
  have checked (s : State) : KeepsCaptures s (checkLength n p (fun s => respond (r s) s) act s) :=
    .ite (fun _ => h s) fun _ => of_contexts rfl rfl
  exact deliver_captures (unlessFull_captures checked) f s

theorem sninFrame_captures (f : Frame) (s : State) : KeepsCaptures s (sninFrame f act s) :=
  .ite (fun _ => h s) fun _ => of_contexts rfl rfl

theorem sensorFrame_captures (s : State) : KeepsCaptures s (sensorFrame act s) := by
  have up : KeepsCaptures s { s with sensor := sensorGood s.localTime } := of_contexts rfl rfl
  exact .ite (fun _ => up.trans (h _)) fun _ => of_contexts rfl rfl

theorem rlinFrame_captures (f : Frame) (s : State) : KeepsCaptures s (rlinFrame f act s) :=
  .ite (fun _ => h s) fun _ => of_contexts rfl rfl

end Receivers

theorem crossingFrame_captures (note : Byte) (x : Crossing) (s : State) : KeepsCaptures s (crossingFrame note x s) := by
  unfold crossingFrame
  split
  · exact sensorFrame_captures .refl s
  · next k _ => exact (sensorFrame_captures (routeCrossing_captures k x) s).served

/-! ## Requests (01, 09) -/

section Requests

variable (tag : Byte) (s : State)

theorem refused_captures (r : Response) : KeepsCaptures s (respond r s) := of_contexts rfl rfl

theorem doConfigure_captures (p : List Byte) : KeepsCaptures s (doConfigure tag p s) := by
  unfold doConfigure
  cases s.clock.part with
  | unconfigured | stopped | running | held | faulted => exact of_contexts rfl rfl

theorem doStart_captures : KeepsCaptures s (doStart tag s) := by
  unfold doStart
  cases s.clock.part with
  | stopped =>
    exact .ite (fun _ => refused_captures s _) fun _ =>
      .ite (fun _ => refused_captures s _) fun _ => of_contexts rfl rfl
  | unconfigured | running | held | faulted => exact refused_captures s _

theorem doHold_captures : KeepsCaptures s (doHold tag s) := by
  unfold doHold
  cases s.clock.part with
  | running =>
    have held : KeepsCaptures s { s with clock := { s.clock with part := .held } } := of_contexts rfl rfl
    exact (held.trans (clearTrim_captures _)).answered _
  | unconfigured | stopped | held | faulted => exact refused_captures s _

theorem doResume_captures : KeepsCaptures s (doResume tag s) := by
  unfold doResume
  cases s.clock.part with
  | held =>
    have running : KeepsCaptures s (answer 0x13 tag .done (enterRunning s)) := of_contexts rfl rfl
    exact (running.trans (dueNow_captures _)).served
  | unconfigured | stopped | running | faulted => exact refused_captures s _

theorem doStop_captures : KeepsCaptures s (doStop tag s) := by
  unfold doStop
  cases s.clock.part with
  | unconfigured => exact refused_captures s _
  | stopped => exact (stopInStopped_captures s).served.answered _
  | running | held => exact (stopTransition_captures .request (releaseEverything_captures false) s).served.answered _
  | faulted => exact (stopInFaulted_captures s).served.answered _

theorem doRestart_captures : KeepsCaptures s (doRestart tag s) :=
  (((restarted_captures s).trans (releaseEverything_captures true _)).trans (pedalsToRest_captures _)).served.answered _

theorem doClockSet_captures (p : List Byte) : KeepsCaptures s (doClockSet tag p s) := by
  unfold doClockSet
  cases s.clock.part with
  | stopped | unconfigured | running | held | faulted => exact of_contexts rfl rfl

theorem calibrate_captures (kind : Byte) (f : CalFields) : KeepsCaptures s (railService (calibrate kind tag f s)) := by
  refine KeepsCaptures.served ?_
  unfold calibrate
  split
  · exact refused_captures s _
  · exact (refused_captures s _).trans (startRun_captures f _)

end Requests

/-! ## Every command -/

theorem exec_captures (c : Instr) (s : State) : LeadsTo KeepsCaptures s (exec c s) := by
  cases c with
  | powerOnReset _ _ => exact leadsTo_next (.of_clear fun k => by simp [State.powerOn])
  | ptTick =>
    have ticked : KeepsCaptures s (advancePt s) := of_contexts rfl rfl
    exact leadsTo_next (.ite (fun _ => (ticked.trans (dueNow_captures _)).served) fun _ => .refl s)
  | noteOn _ p =>
    refine leadsTo_next (deliver_captures (fun s => ?_) _ s)
    cases noteOnFields? p with
    | none => exact of_contexts rfl rfl
    | some f => exact takeEvent_captures (intakeNoteOn_captures f) s
  | noteOff _ p =>
    refine leadsTo_next (deliver_captures (fun s => ?_) _ s)
    cases noteOffFields? p with
    | none => exact of_contexts rfl rfl
    | some f => exact takeEvent_captures (intakeNoteOff_captures f.1 f.2) s
  | pedalTarget _ p =>
    refine leadsTo_next (deliver_captures (fun s => ?_) _ s)
    cases pedalTargetFields? p with
    | none => exact of_contexts rfl rfl
    | some f => exact takeEvent_captures (intakePedal_captures f) s
  | configure tag p => exact leadsTo_next (request_captures (fun s => doConfigure_captures tag s p) _ _ p _ s)
  | start tag p => exact leadsTo_next (request_captures (doStart_captures tag) _ _ p _ s)
  | hold tag p => exact leadsTo_next (request_captures (doHold_captures tag) _ _ p _ s)
  | resume tag p => exact leadsTo_next (request_captures (doResume_captures tag) _ _ p _ s)
  | stop tag p => exact leadsTo_next (request_captures (doStop_captures tag) _ _ p _ s)
  | restart tag p => exact leadsTo_next (request_captures (doRestart_captures tag) _ _ p _ s)
  | clearErrors _ p =>
    have cleared (s : State) : KeepsCaptures s { s with sticky := {} } := of_contexts rfl rfl
    exact leadsTo_next (request_captures (fun s => (cleared s).answered _) _ _ p _ s)
  | clockSet tag p => exact leadsTo_next (request_captures (fun s => doClockSet_captures tag s p) _ _ p _ s)
  | clockLatch _ p => exact leadsTo_next (request_captures (fun s => refused_captures s _) _ _ p (fun _ => _) s)
  | tableWrite tag p => exact leadsTo_next (deliver_captures (unlessFull_captures (writeTable_captures tag p)) _ s)
  | tableRead tag p => exact leadsTo_next (deliver_captures (unlessFull_captures (readTable_captures tag p)) _ s)
  | calibrateQuick tag p => exact leadsTo_next (request_captures (fun s => calibrate_captures tag s _ _) _ _ p _ s)
  | calibrateSweep tag p => exact leadsTo_next (request_captures (fun s => calibrate_captures tag s _ _) _ _ p _ s)
  | railPassThrough _ p =>
    have taken (s : State) : KeepsCaptures s (takePass p s) :=
      .ite (fun _ => of_contexts rfl rfl) fun _ => of_contexts rfl rfl
    exact leadsTo_next (deliver_captures (fun s => (taken s).served) _ s)
  | unknown _ _ _ => exact leadsTo_next (deliver_captures (unlessFull_captures fun s => refused_captures s _) _ s)
  | hunt bytes | verify bytes => exact leadsTo_next (of_vital (feed_vital bytes s))
  | crcError bytes =>
    exact leadsTo_next
      (.ite (fun _ => of_vital (badCheckFrame_vital bytes s)) fun _ => of_vital (feed_vital bytes s))
  | framingError bytes =>
    exact leadsTo_next
      (.ite (fun _ => of_vital (returnToHunt_vital bytes _)) fun _ => of_vital (feed_vital bytes s))
  | linkLossStop =>
    exact leadsTo_next
      (.ite (fun _ => (stopTransition_captures _ (releaseAll_captures false false) s).served) fun _ => .refl s)
  | frameBoundary =>
    refine leadsTo_next ?_
    split
    · exact choose_captures _ s
    · exact .ite (fun _ => (endUpFrame_captures _ s).trans (choose_captures _ _)) fun _ => .refl s
  | statusSpacing =>
    refine leadsTo_next ?_
    split
    · exact .ite (fun _ => choose_captures _ s) fun _ => .refl s
    · exact .refl s
  | idle _ | discardedSensorFrame _ _ _ => exact leadsTo_next (sninFrame_captures (sensorFrame_captures .refl) _ s)
  | keyTrip note _ _ _ _ | hammerTrip note _ _ _ =>
    exact leadsTo_next (sninFrame_captures (crossingFrame_captures note _) _ s)
  | pedalSample raw1 raw2 raw3 _ =>
    exact leadsTo_next (sninFrame_captures (sensorFrame_captures (samplePedals_captures raw1 raw2 raw3)) _ s)
  | sensorBadFrame bytes =>
    have met : KeepsCaptures s { s with snin := afterBadFrame bytes } := of_contexts rfl rfl
    exact leadsTo_next
      (.ite (fun _ => (met.trans (sensorBad_captures _)).served) fun _ => of_contexts rfl rfl)
  | lossWindowExpiry => exact leadsTo_next (.ite (fun _ => (loseSensor_captures s).served) fun _ => .refl s)
  | pushTimerExpiry k =>
    refine leadsTo_next (.ite (fun h => KeepsCaptures.served ?_) fun _ => .refl s)
    obtain ⟨hpushing, _, _⟩ := h
    exact .ite (fun _ => setDrive_sameState_captures rfl) fun _ => endPush_captures (hpushing.trans_ne (by simp))
  | gateTimerExpiry k =>
    have stopped : KeepsCaptures s (setDrive k { s.drive[k] with gateTimer := none } s) := setDrive_sameState_captures rfl
    exact leadsTo_next (.ite (fun _ => stopped.trans (closeOpen_captures k _)) fun _ => .refl s)
  | restTimerExpiry k | sensorlessReleaseTimer k =>
    exact leadsTo_next (.ite (fun _ => (comeToRest_captures k s).served) fun _ => .refl s)
  | captureGateTimeout k =>
    exact leadsTo_next (.ite (fun h => captureTimeout_captures h.1) fun _ => .refl s)
  | restWaitExpiry =>
    refine leadsTo_next ?_
    split
    · exact .refl s
    · exact of_contexts rfl rfl
  | settleExpiry =>
    refine leadsTo_next ?_
    split
    · exact .refl s
    · next c _ => exact (settleEnds_captures c s).served
  | rateGapEnd p => exact leadsTo_next (endGapIfOver_captures p s)
  | ack tag p => exact leadsTo_next (rlinFrame_captures (fun s => (takeAck_captures tag p s).served) _ s)
  | railReply p _ =>
    have taken (s : State) : KeepsCaptures s (takeReply p s) :=
      .ite (fun _ => of_contexts rfl rfl) fun _ => of_contexts rfl rfl
    exact leadsTo_next (rlinFrame_captures taken _ s)
  | railUnexpectedFrame _ _ _ =>
    exact leadsTo_next (rlinFrame_captures (fun s => .ite (fun _ => .refl s) fun _ => railFault_captures s) _ s)
  | railBadFrame _ => exact leadsTo_next (of_contexts rfl rfl)
  | acknowledgementWindow => exact leadsTo_next (.ite (fun _ => railFault_captures s) fun _ => .refl s)
  | railTransmitEnd =>
    refine leadsTo_next ?_
    split
    · exact (KeepsCaptures.refl s).served
    · next t _ =>
      have ended : KeepsCaptures s (endRailFrame t s) := .ite (fun _ => of_contexts rfl rfl) fun _ => of_contexts rfl rfl
      exact .ite (fun _ => ended.trans (railServiceAt_captures _ _)) fun _ => .refl s
  | parkTimer => exact leadsTo_next (.ite (fun _ => (parkExpires_captures s).served) fun _ => .refl s)

/-! ## Every step -/

theorem takeUp_captures (r : Raised) (s : State) : LeadsTo KeepsCaptures s (takeUp r s) := by
  cases r with
  | event c => exact exec_captures c s
  | frame l c rest =>
    intro t h
    unfold takeUp at h
    simp only at h
    split at h
    · next u hu =>
      cases h
      have atPlace : KeepsCaptures s (emptied l s) := of_vital (emptied_vital l s)
      exact (atPlace.trans (exec_captures c _ u hu)).trans (of_vital (takeBehind_vital l rest u))
    · cases h
    · cases h

theorem step_captures {s t : State} (h : step s = .next t) : KeepsCaptures s t := by
  unfold step at h
  split at h
  · unfold idleStep at h
    split at h
    · unfold endMoment at h
      split at h
      · exact exec_captures _ s t h
      · cases h
        exact of_contexts rfl rfl
    · exact takeUp_captures _ s t h
    · have counted : KeepsCaptures s { s with tieBreak := s.tieBreak + 1 } := of_contexts rfl rfl
      exact counted.trans (takeUp_captures _ _ t h)
  · next c rest _ =>
    have front : KeepsCaptures s { s with pending := rest } := of_contexts rfl rfl
    exact front.trans (exec_captures c _ t h)

/-- Settles O12: every step keeps both laws, as every operation does. -/
theorem capturesStayFormed : Obligations.CapturesStayFormed :=
  ⟨fun _ _ hs h => (step_captures h).atRest hs, fun _ _ hs h => (step_captures h).formed hs⟩

end Sys2Proof.CaptureLawProofs
end

section
/-! PROOFS. The Sensor Link's judgement of frames met at the receiver's place, and its loss window (R120, R121). -/

namespace Sys2Proof.SensorLinkProofs

open Sys2Proof Sys2Proof.Machine Sys2Proof.StrikeProofs

variable {s : State}

/-- A bad frame met at the receiver's place is judged with the receiver after it, and the rail served (R120). -/
theorem exec_sensorBadFrame_met {bytes : List Byte} (h : s.snin = ByteIn.start) (hb : isBadFrame bytes = true) :
    exec (.sensorBadFrame bytes) s = .next (railService (sensorBad { s with snin := afterBadFrame bytes })) :=
  congrArg Host.Outcome.next (if_pos ⟨h, hb⟩)

theorem sensorBad_counted (h : s.sensor.up = true) (hc : s.sensor.badCount < 3) :
    sensorBad s = { s with sensor := { s.sensor with badCount := s.sensor.badCount + 1 } } :=
  (if_pos h).trans (if_pos (by omega))

theorem sensorBad_lost (h : s.sensor.up = false) :
    sensorBad s = { s with sensor := { s.sensor with goodCount := 0 } } := if_neg (by simp [h])

/-- Of a lost link, or ahead of its end, the loss window does nothing (R120; log entries 1, 9). -/
theorem exec_lossWindowExpiry_early (h : s.sensor.up = false ∨ ∀ d ∈ s.sensor.window, s.localTime < d) :
    exec .lossWindowExpiry s = .next s := by
  refine congrArg Host.Outcome.next (if_neg ?_)
  rintro ⟨hup, hdue⟩
  obtain ⟨d, hd, hle⟩ := (timerDue_iff _ _).mp hdue
  rcases h with h | h
  · simp [h] at hup
  · exact Nat.not_le.mpr (h d hd) hle

/-- Settles O47: a good frame is delivered or counted, a bad one counts, and the loss window waits for its end. -/
theorem sensorLinkIsJudged : Obligations.SensorLinkIsJudged := by
  intro s good counted
  refine ⟨fun hplace => ⟨fun hup tag kind p => ?delivered, fun hlost hnone tag kind p => ?counted, fun bytes hbad => ?bad⟩,
    exec_lossWindowExpiry_early⟩
  case delivered =>
    have judged (f : Frame) (act : State → State) : sninFrame f (sensorFrame act) s = act good :=
      (sninFrame_atPlace f _ hplace).trans (sensorFrame_delivered act hup)
    exact ⟨congrArg Host.Outcome.next (judged _ id), congrArg Host.Outcome.next (judged _ fun s => s)⟩
  case counted =>
    have judged (f : Frame) (act : State → State) : sninFrame f (sensorFrame act) s = counted :=
      (sninFrame_atPlace f _ hplace).trans (sensorFrame_counted act (by simp [hlost, hnone]))
    exact ⟨congrArg Host.Outcome.next (judged _ _), congrArg Host.Outcome.next (judged _ _),
      fun _ _ _ => congrArg Host.Outcome.next (judged _ _)⟩
  case bad =>
    exact ⟨fun hup hcount => after_of_service (exec_sensorBadFrame_met hplace hbad) (sensorBad_counted hup hcount),
      fun hlost => after_of_service (exec_sensorBadFrame_met hplace hbad) (sensorBad_lost hlost)⟩

end Sys2Proof.SensorLinkProofs
end

section
/-! PROOFS. The receivers of SNIN and RLIN (R119 to R121, R141): the commands of good frames, frames met away from the
receiver's place, bad frames, and the scan for the next Sync. -/

namespace Sys2Proof.SensorLinkProofs

open Sys2Proof Sys2Proof.Machine Sys2Proof.StrikeProofs

/-! ## The commands of good frames (R119, R121, R141) -/

/-- Two bytes joined go on the line as they stand. -/
theorem bytes16_append (h l : Byte) : bytes16 (h ++ l) = [h, l] := by
  have hhigh : ((h ++ l) >>> 8).setWidth 8 = h := by
    ext i hi
    rw [BitVec.getElem_setWidth, BitVec.getLsbD_ushiftRight]
    refine BitVec.getLsbD_append.trans ?_
    simp [hi]
  have hlow : (h ++ l).setWidth 8 = l := BitVec.setWidth_append_eq_right
  rw [bytes16, hhigh, hlow]

theorem keyPointByte_keyPointOf {b : Byte} {p : KeyPoint} (h : keyPointOf? b = some p) : keyPointByte p = b := by
  unfold keyPointOf? at h
  split_ifs at h with hb hb <;> cases h <;> exact hb.symm

theorem directionByte_directionOf {b : Byte} {d : Direction} (h : directionOf? b = some d) : directionByte d = b := by
  unfold directionOf? at h
  split_ifs at h with hb hb <;> cases h <;> exact hb.symm

theorem gateByte_gateOf {b : Byte} {g : Gate} (h : gateOf? b = some g) : gateByte g = b := by
  unfold gateOf? at h
  split_ifs at h with hb hb <;> cases h <;> exact hb.symm

theorem validNote_iff (b : Byte) : validNote b = true ↔ 1 ≤ b.toNat ∧ b.toNat ≤ 88 := decide_eq_true_iff

/-- What a good frame on SNIN stands for, and the frame that command arrives as (R119, R121). -/
theorem sensorCommand_cases (f : Frame) :
    (sensorCommand f = .idle f.tag ∧ f = ⟨0x50, f.tag, []⟩) ∨
    (∃ (note : Byte) (p : KeyPoint) (d : Direction) (s1 s0 : Byte), validNote note = true ∧ sensorCommand f = .keyTrip note p d (s1 ++ s0) f.tag ∧
      f = keyTripFrame f.tag note p d (s1 ++ s0)) ∨
    (∃ (note : Byte) (g : Gate) (s1 s0 : Byte), validNote note = true ∧ sensorCommand f = .hammerTrip note g (s1 ++ s0) f.tag ∧
      f = hammerTripFrame f.tag note g (s1 ++ s0)) ∨
    (∃ a1 a0 b1 b0 c1 c0 : Byte, sensorCommand f = .pedalSample (a1 ++ a0) (b1 ++ b0) (c1 ++ c0) f.tag ∧
      f = pedalSampleFrame f.tag (a1 ++ a0) (b1 ++ b0) (c1 ++ c0)) ∨
    sensorCommand f = .discardedSensorFrame f.kind f.tag f.payload := by
  have kind {n : Nat} (hn : n < 256) (h : f.kind.toNat = n) : f.kind = BitVec.ofNat 8 n :=
    BitVec.eq_of_toNat_eq (by simp [h, Nat.mod_eq_of_lt hn])
  obtain ⟨k, tag, payload⟩ := f
  unfold sensorCommand
  simp only at kind ⊢
  split
  · next hk => exact .inl ⟨rfl, by simp [kind _ hk]⟩
  · next note point dir s1 s0 hk =>
    split
    · next p d hn hp hd =>
      refine .inr (.inl ⟨note, p, d, s1, s0, hn, rfl, ?_⟩)
      simp [keyTripFrame, keyPointByte_keyPointOf hp, directionByte_directionOf hd, bytes16_append, kind _ hk]
    · exact .inr (.inr (.inr (.inr rfl)))
  · next note gate s1 s0 hk =>
    split
    · next g hn hg =>
      refine .inr (.inr (.inl ⟨note, g, s1, s0, hn, rfl, ?_⟩))
      simp [hammerTripFrame, gateByte_gateOf hg, bytes16_append, kind _ hk]
    · exact .inr (.inr (.inr (.inr rfl)))
  · next a1 a0 b1 b0 c1 c0 hk =>
    refine .inr (.inr (.inr (.inl ⟨a1, a0, b1, b0, c1, c0, rfl, ?_⟩)))
    simp [pedalSampleFrame, bytes16_append, kind _ hk]
  · exact .inr (.inr (.inr (.inr rfl)))

/-- A KeyTrip of a key of the piano, by its point and direction bytes (R119). -/
theorem sensorCommand_keyTrip {note : Byte} (hn : validNote note = true) (p : KeyPoint) (d : Direction) (tag h l : Byte) :
    sensorCommand ⟨0x51, tag, [note, keyPointByte p, directionByte d, h, l]⟩ = .keyTrip note p d (h ++ l) tag := by
  cases p <;> cases d <;> simp [sensorCommand, hn, keyPointByte, directionByte, keyPointOf?, directionOf?]

/-- A HammerTrip of a key of the piano, by its gate byte (R119). -/
theorem sensorCommand_hammerTrip {note : Byte} (hn : validNote note = true) (g : Gate) (tag h l : Byte) :
    sensorCommand ⟨0x52, tag, [note, gateByte g, h, l]⟩ = .hammerTrip note g (h ++ l) tag := by
  cases g <;> simp [sensorCommand, hn, gateByte, gateOf?]

/-- The Kinds and contents of the Sensor Link (R119). -/
def SensorContent (kind : Byte) (p : List Byte) : Prop :=
  kind = 0x50 ∧ p = [] ∨
    (kind = 0x51 ∧ ∃ n point direction s1 s0 : Byte, p = [n, point, direction, s1, s0] ∧ 1 ≤ n.toNat ∧ n.toNat ≤ 88 ∧
      (point = 1 ∨ point = 2) ∧ (direction = 0 ∨ direction = 1)) ∨
    (kind = 0x52 ∧ ∃ n gate s1 s0 : Byte, p = [n, gate, s1, s0] ∧ 1 ≤ n.toNat ∧ n.toNat ≤ 88 ∧ (gate = 1 ∨ gate = 2)) ∨
    kind = 0x53 ∧ p.length = 6

/-- A frame that does not stand for DISCARDED_SENSOR_FRAME has one of those contents (R121). -/
theorem sensorCommand_invalid {kind tag : Byte} {p : List Byte} (h : ¬SensorContent kind p) :
    sensorCommand ⟨kind, tag, p⟩ = .discardedSensorFrame kind tag p := by
  rcases sensorCommand_cases ⟨kind, tag, p⟩ with ⟨_, hf⟩ | ⟨note, pt, d, s1, s0, hn, _, hf⟩ |
    ⟨note, g, s1, s0, hn, _, hf⟩ | ⟨a1, a0, b1, b0, c1, c0, _, hf⟩ | hd
  · simp only [Frame.mk.injEq] at hf
    obtain ⟨hk, -, hp⟩ := hf
    exact absurd (.inl ⟨hk, hp⟩) h
  · obtain ⟨hlo, hhi⟩ := (validNote_iff note).mp hn
    simp only [keyTripFrame, bytes16_append, Frame.mk.injEq] at hf
    obtain ⟨hk, -, hp⟩ := hf
    refine absurd (.inr (.inl ⟨hk, note, _, _, s1, s0, hp, hlo, hhi, ?_, ?_⟩)) h
    · cases pt <;> simp [keyPointByte]
    · cases d <;> simp [directionByte]
  · obtain ⟨hlo, hhi⟩ := (validNote_iff note).mp hn
    simp only [hammerTripFrame, bytes16_append, Frame.mk.injEq] at hf
    obtain ⟨hk, -, hp⟩ := hf
    refine absurd (.inr (.inr (.inl ⟨hk, note, _, s1, s0, hp, hlo, hhi, ?_⟩))) h
    cases g <;> simp [gateByte]
  · simp only [pedalSampleFrame, bytes16_append, Frame.mk.injEq] at hf
    obtain ⟨hk, -, hp⟩ := hf
    exact absurd (.inr (.inr (.inr ⟨hk, by simp [hp]⟩))) h
  · exact hd

/-- Another Kind than Ack and Rail Reply is unexpected on RLIN (R141, R147). -/
theorem railCommand_unexpected {kind tag : Byte} {p : List Byte} (hack : kind ≠ 0x70) (hreply : kind ≠ 0x71) :
    railCommand ⟨kind, tag, p⟩ = .railUnexpectedFrame kind tag p := by
  unfold railCommand
  split
  · next h => exact absurd (BitVec.eq_of_toNat_eq h) hack
  · next h => exact absurd (BitVec.eq_of_toNat_eq h) hreply
  · rfl

/-! ## Frames away from the receiver's place (R120, R141; log entry 20) -/

/-- Every good frame on SNIN arrives with its own bytes, whatever its block does with it. -/
theorem exec_sensorCommand (f : Frame) : ∃ act, ∀ s, exec (sensorCommand f) s = .next (sninFrame f act s) := by
  rcases sensorCommand_cases f with ⟨hc, hf⟩ | ⟨_, _, _, _, _, _, hc, hf⟩ | ⟨_, _, _, _, _, hc, hf⟩ |
    ⟨_, _, _, _, _, _, hc, hf⟩ | hc
  all_goals rw [hc]
  case inr.inr.inr.inr => exact ⟨_, fun s => rfl⟩
  all_goals exact ⟨_, fun s => congrArg (fun f => Host.Outcome.next (sninFrame f _ s)) hf.symm⟩

theorem exec_railCommand (f : Frame) : ∃ act, ∀ s, exec (railCommand f) s = .next (rlinFrame f act s) := by
  obtain ⟨kind, tag, payload⟩ := f
  unfold railCommand
  simp only
  split
  · next h =>
    obtain rfl : kind = 0x70 := BitVec.eq_of_toNat_eq h
    exact ⟨_, fun s => rfl⟩
  · next h =>
    obtain rfl : kind = 0x71 := BitVec.eq_of_toNat_eq h
    exact ⟨_, fun s => rfl⟩
  · exact ⟨_, fun s => rfl⟩

/-! ## Bad frames (R120, R141) -/

theorem isBadFrame_iff (bytes : List Byte) :
    isBadFrame bytes = true ↔ judge bytes = .badCheck [] ∨ judge bytes = .noSync ∨ judge bytes = .overLength := by
  simp [isBadFrame, isCrcError, isFramingError]

theorem afterBadFrame_badCheck {bytes : List Byte} (h : judge bytes = .badCheck []) :
    afterBadFrame bytes = ByteIn.start := by
  rw [afterBadFrame, h]
  rfl

theorem afterBadFrame_scans {bytes : List Byte} (h : judge bytes = .noSync ∨ judge bytes = .overLength) :
    afterBadFrame bytes = takeBytes ⟨[], true⟩ (bytes.drop 1) := by
  rcases h with h | h <;> rw [afterBadFrame, h]

/-! ## The scan for the next Sync (R120, R141) -/

/-- A Sync begins at a place of the bytes (R172). -/
abbrev SyncAt (l : List Byte) (i : Nat) : Prop := l[i]? = some 0xA7 ∧ l[i + 1]? = some 0x3C

theorem SyncAt.two_le_drop_length {l : List Byte} {i : Nat} (h : SyncAt l i) : 2 ≤ (l.drop i).length := by
  obtain ⟨hlt, _⟩ := List.getElem?_eq_some_iff.mp h.2
  simp only [List.length_drop]
  omega

/-- Scanning passes over the bytes ahead of the first Sync. -/
theorem scanSync_first {l : List Byte} {i : Nat} (h : SyncAt l i) (hfirst : ∀ j < i, ¬SyncAt l j) :
    scanSync l = l.drop i := by
  induction l generalizing i with
  | nil => simp [SyncAt] at h
  | cons b l ih =>
    cases l with
    | nil => simp [SyncAt] at h
    | cons c rest =>
      by_cases hsync : b = syncFirst ∧ c = syncSecond
      · obtain rfl : i = 0 := by
          by_contra hi
          exact hfirst 0 (Nat.pos_of_ne_zero hi) (by simpa [SyncAt, syncFirst, syncSecond] using hsync)
        rw [scanSync, if_pos hsync, List.drop_zero]
      · cases i with
        | zero => exact absurd (by simpa [SyncAt, syncFirst, syncSecond] using h) hsync
        | succ i =>
          rw [scanSync, if_neg hsync, List.drop_succ_cons]
          exact ih h fun j hj hsync' => hfirst (j + 1) (Nat.succ_lt_succ hj) hsync'

/-- With no Sync among them the bytes are passed over, but for an 0xA7 that stands last. -/
theorem scanSync_none {l : List Byte} (h : ∀ i, ¬SyncAt l i) :
    scanSync l = if l.getLast? = some 0xA7 then [0xA7] else [] := by
  induction l with
  | nil => rfl
  | cons b l ih =>
    cases l with
    | nil =>
      by_cases hb : b = syncFirst
      · subst hb; rfl
      · rw [scanSync, if_neg hb, if_neg (by simpa [syncFirst] using hb)]
    | cons c rest =>
      have hsync : ¬(b = syncFirst ∧ c = syncSecond) := fun hbc => h 0 (by simpa [SyncAt, syncFirst, syncSecond] using hbc)
      rw [scanSync, if_neg hsync, List.getLast?_cons_cons]
      exact ih fun i hi => h (i + 1) hi

theorem takeBytes_scanning (buffer bytes : List Byte) :
    takeBytes ⟨buffer, true⟩ bytes =
      ⟨scanSync (buffer ++ bytes), decide ((scanSync (buffer ++ bytes)).length < 2)⟩ := rfl

/-- Settles O48: the commands of good frames, frames away from the receiver's place, bad frames, and the scan. -/
theorem lineReceiversFindFrames : Obligations.LineReceiversFindFrames := by
  refine ⟨fun kind tag note h l a1 a0 b1 b0 c1 c0 p => ?commands, fun s f bytes => ?arrivals, fun bytes => ?bad,
    fun buffer bytes => ?scan⟩
  case commands =>
    intro key trip gate valid
    refine ⟨rfl, fun hkey => ?_, rfl, sensorCommand_invalid, rfl, rfl, railCommand_unexpected⟩
    have hn := (validNote_iff note).mpr hkey
    exact ⟨sensorCommand_keyTrip hn .k1 .down tag h l, sensorCommand_keyTrip hn .k1 .up tag h l,
      sensorCommand_keyTrip hn .k2 .down tag h l, sensorCommand_keyTrip hn .k2 .up tag h l,
      sensorCommand_hammerTrip hn .g1 tag h l, sensorCommand_hammerTrip hn .g2 tag h l⟩
  case arrivals =>
    obtain ⟨sensed, hsensed⟩ := exec_sensorCommand f
    obtain ⟨railed, hrailed⟩ := exec_railCommand f
    have notMet {r : ByteIn} (h : r ≠ ByteIn.start ∨ isBadFrame bytes = false) :
        ¬(r = ByteIn.start ∧ isBadFrame bytes = true) := fun hmet =>
      h.elim (· hmet.1) fun hgood => Bool.eq_false_iff.mp hgood hmet.2
    refine ⟨fun h => ?_, fun h => ?_, fun h => ?_, fun h => ?_, fun h hb => ?_⟩
    · exact (hsensed s).trans (congrArg Host.Outcome.next (if_neg h))
    · exact (hrailed s).trans (congrArg Host.Outcome.next (if_neg h))
    · exact congrArg Host.Outcome.next (if_neg (notMet h))
    · exact congrArg (fun r => Host.Outcome.next { s with rlin := r }) (if_neg (notMet h))
    · have met : s.rlin = ByteIn.start ∧ isBadFrame bytes = true := ⟨h, hb⟩
      exact congrArg (fun r => Host.Outcome.next { s with rlin := r }) (if_pos met)
  case bad => exact ⟨isBadFrame_iff bytes, afterBadFrame_badCheck, afterBadFrame_scans⟩
  case scan =>
    refine ⟨rfl, fun i hi hfirst => ?_, fun hnone => ?_⟩
    · have hlen := SyncAt.two_le_drop_length hi
      rw [takeBytes_scanning, scanSync_first hi hfirst, decide_eq_false (by omega)]
    · rw [takeBytes_scanning, scanSync_none hnone]
      split <;> rfl

end Sys2Proof.SensorLinkProofs
end

section
/-! PROOFS. The Rail Link's intake (08): pass-through frames and Rail Replies (R153, R155), acknowledgements and what they
end (R145, R146, R149, R151, R152, R154, R157), the end of a frame on RLOUT, and the park timer (R143, R146, R149). -/

namespace Sys2Proof.RailLinkProofs

open Sys2Proof Sys2Proof.Machine Sys2Proof.StrikeProofs Sys2Proof.RailListProofs

variable {s : State}

/-! ## Pass-through frames and Rail Replies (R153, R155) -/

theorem exec_railPassThrough_atFrame (tag : Byte) (p : List Byte) (h : AtFrame s) :
    exec (.railPassThrough tag p) s = .next (railService (takePass p (goodFrame s))) :=
  congrArg Host.Outcome.next (deliver_atFrame _ _ h)

theorem exec_railReply_atPlace (tag : Byte) (p : List Byte) (h : s.rlin = ByteIn.start) :
    exec (.railReply p tag) s = .next (takeReply p s) :=
  congrArg Host.Outcome.next (rlinFrame_atPlace _ _ h)

/-- Settles O57: both are taken at the receiver's place, where room decides. -/
theorem passThroughsAndRepliesAreStored : Obligations.PassThroughsAndRepliesAreStored := fun _ tag p =>
  ⟨fun hframe => after_of_service (exec_railPassThrough_atFrame tag p hframe) rfl, exec_railReply_atPlace tag p⟩

/-! ## The mask of a Channel Enable (R154) -/

/-- Bytes joined to one number, the most significant first: the content of a Channel Enable (R154). -/
def joinedBytes (l : List Byte) : Nat := l.foldl (fun v b => v * 256 + b.toNat) 0

theorem joinedBytes_append_singleton (l : List Byte) (b : Byte) :
    joinedBytes (l ++ [b]) = 2 ^ 8 * joinedBytes l + b.toNat := by
  rw [joinedBytes, List.foldl_append, List.foldl_cons, List.foldl_nil, Nat.mul_comm]
  rfl

/-- Bit `n` of bytes joined is bit `n % 8` of the byte `n / 8` places before the last. -/
theorem testBit_joinedBytes {l : List Byte} {n : Nat} (h : n / 8 < l.length) :
    (joinedBytes l).testBit n = (l.getD (l.length - 1 - n / 8) 0).getLsbD (n % 8) := by
  induction l using List.reverseRecOn generalizing n with
  | nil => simp at h
  | append_singleton l b ih =>
    rw [joinedBytes_append_singleton, Nat.testBit_two_pow_mul_add _ b.isLt, List.length_append, List.length_singleton,
      Nat.add_sub_cancel]
    rw [List.length_append, List.length_singleton] at h
    by_cases hn : n < 8
    · rw [if_pos hn, Nat.div_eq_of_lt hn, Nat.mod_eq_of_lt hn, Nat.sub_zero, List.getD_append_right _ _ _ _ le_rfl,
        Nat.sub_self]
      rfl
    · have hplace : l.length - 1 - (n - 8) / 8 = l.length - n / 8 := by omega
      have hbit : (n - 8) % 8 = n % 8 := by omega
      rw [if_neg hn, ih (by omega), hplace, hbit, List.getD_append _ _ _ _ (by omega)]

theorem channelMask?_cons (kind : Byte) (l : List Byte) :
    channelMask? (kind :: l) = if l.length = 12 ∧ kind = 1 then some (BitVec.ofNat 91 (joinedBytes l)) else none := by
  have hlength : (kind :: l).length = 13 ↔ l.length = 12 := Nat.succ_inj
  have hkind : byteAt (kind :: l) 0 = 0x01 ↔ kind = 1 := BitVec.toNat_inj (y := (1 : Byte))
  simp only [channelMask?, hlength, hkind]
  rfl

theorem channelMask?_eq_some_iff (p : List Byte) (m : BitVec 91) :
    channelMask? p = some m ↔
      p.length = 13 ∧ p.head? = some 1 ∧ ∀ n < 91, m.getLsbD n = (p.getD (12 - n / 8) 0).getLsbD (n % 8) := by
  cases p with
  | nil => simp [channelMask?]
  | cons kind l =>
    rw [channelMask?_cons, Option.ite_none_right_eq_some, List.length_cons, Nat.succ_inj, List.head?_cons,
      Option.some.injEq, Option.some.injEq, and_assoc]
    refine and_congr_right fun hlen => and_congr_right fun _ => ?_
    have hbit (n : Nat) (hn : n < 91) :
        (BitVec.ofNat 91 (joinedBytes l)).getLsbD n = ((kind :: l).getD (12 - n / 8) 0).getLsbD (n % 8) := by
      have hplace : 12 - n / 8 = (l.length - 1 - n / 8) + 1 := by omega
      rw [BitVec.getLsbD_ofNat, decide_eq_true hn, Bool.true_and, testBit_joinedBytes (by omega), hplace,
        List.getD_cons_succ]
    constructor
    · rintro rfl
      exact hbit
    · exact fun h => BitVec.eq_of_getLsbD_eq fun n hn => (hbit n hn).trans (h n hn).symm

/-! ## What an acknowledged Pass-through does (R152, R154) -/

theorem passThroughAcked_mask {p : List Byte} {m : BitVec 91} (h : channelMask? p = some m) (s : State) :
    passThroughAcked p s = { s with rail := { s.rail with mask := m } } := by
  rw [passThroughAcked, h]

/-- A Rail Power content is its kind byte and the power, and nothing else (R154). -/
theorem railPower?_some {p : List Byte} {on : Bool} (h : railPower? p = some on) : p = [2, if on then 1 else 0] := by
  unfold railPower? at h
  split_ifs at h with hform hoff hon
  all_goals
    obtain ⟨hlen, hkind⟩ := hform
    obtain ⟨kind, power, rfl⟩ := List.length_eq_two.mp hlen
    obtain rfl : kind = 2 := BitVec.eq_of_toNat_eq hkind
    cases h
  · obtain rfl : power = 0 := BitVec.eq_of_toNat_eq hoff
    rfl
  · obtain rfl : power = 1 := BitVec.eq_of_toNat_eq hon
    rfl

/-- A content that is neither a Channel Enable of 13 bytes nor a Rail Power has no effect (R154). -/
theorem passThroughAcked_other {p : List Byte} (hmask : channelMask? p = none) (hoff : p ≠ [2, 0]) (hon : p ≠ [2, 1])
    (s : State) : passThroughAcked p s = s := by
  have hpower : railPower? p = none := by
    rw [Option.eq_none_iff_forall_ne_some]
    intro on h
    cases on with
    | false => exact hoff (railPower?_some h)
    | true => exact hon (railPower?_some h)
  rw [passThroughAcked, hmask, hpower]

theorem powerGoesOff_eq (s : State) :
    powerGoesOff s =
      { s with
        rail := { s.rail with powerOff := true, state := if s.rail.state = .faulted then .faulted else .off } } := by
  unfold powerGoesOff
  cases s.rail.state <;> rfl

/-! ## Acknowledgements (R145, R146) -/

/-- The Ack of the oldest entry, transmitted in full, is acted on, and the rail served (R145). -/
theorem exec_ack_oldest {tag : Byte} {o : InFlight} {rest : List InFlight} (hlist : s.rail.inFlight = o :: rest)
    (hplace : s.rlin = ByteIn.start) (hsent : o.transmitted = true) (htag : tag = o.seq.setWidth 8) :
    exec (.ack tag []) s = .next (railService (acknowledge o rest s)) := by
  have hmatches : ackMatches tag [] o = true := by simp [ackMatches, hsent, htag]
  have htaken : takeAck tag [] s = acknowledge o rest s := by
    rw [takeAck, hlist]
    exact if_pos hmatches
  exact congrArg Host.Outcome.next ((rlinFrame_atPlace _ _ hplace).trans (congrArg railService htaken))

/-- Settles O58: one case for each command that an entry can hold; the mask bit by bit. -/
theorem acksAreTaken : Obligations.AcksAreTaken := by
  refine ⟨fun s tag o rest hlist hplace hsent htag => ?acks, channelMask?_eq_some_iff⟩
  intro window rail active gives
  have effect {e : State} (h : ackEffect o.cmd { s with rail := rail } = e) : gives e :=
    after_of_service (exec_ack_oldest hlist hplace hsent htag) h
  refine ⟨fun hc => ?unpark, fun recovery restart hc => ?releaseAll, fun p hc => ?passThrough, fun hc => ?noEffect⟩
  case unpark => exact effect (by rw [hc]; rfl)
  case releaseAll => exact effect (by rw [hc]; rfl)
  case passThrough =>
    have passed {e : State} (h : passThroughAcked p { s with rail := rail } = e) : gives e := effect (by rw [hc]; exact h)
    refine ⟨fun m hm => passed (passThroughAcked_mask hm _), ?_, ?_,
      fun hmask hoff hon => passed (passThroughAcked_other hmask hoff hon _)⟩
    · rintro rfl
      exact passed (powerGoesOff_eq _)
    · rintro rfl
      exact passed rfl
  case noEffect =>
    rcases hc with hc | ⟨k, ch, l, hc⟩ | ⟨k, ch, l, hc⟩ | ⟨k, ch, hc⟩ | ⟨p, hc⟩ <;> exact effect (by rw [hc]; rfl)

/-! ## The end of a frame on RLOUT (R143, R145, R146) -/

theorem exec_railTransmitEnd_idle (h : s.rail.tx = none) : exec .railTransmitEnd s = .next (railService s) := by
  simp only [exec, execRailTransmitEnd, h]

theorem exec_railTransmitEnd_early {x : RailTx} (h : s.rail.tx = some x) (hd : ¬railFrameDone s.localTime x = true) :
    exec .railTransmitEnd s = .next s := by
  simp only [exec, execRailTransmitEnd, h, if_neg hd]

theorem exec_railTransmitEnd_done {x : RailTx} (h : s.rail.tx = some x) (hd : railFrameDone s.localTime x = true) :
    exec .railTransmitEnd s = .next (railServiceAt (railFrameEnd x) (endRailFrame x s)) := by
  simp only [exec, execRailTransmitEnd, h, if_pos hd]

/-- The frame on RLOUT takes ten bit times a byte, ten twelfths of a µs each byte at 12 Mbit/s (R140). -/
theorem railFrameDone_iff (now : Nat) (x : RailTx) :
    railFrameDone now x = true ↔ x.start + (7 + x.frame.payload.length) * 10 ≤ 12 * now := decide_eq_true_iff

/-! ## The park timer (R149) -/

theorem exec_parkTimer_due (h : ∃ d, s.rail.parkTimer = some d ∧ d ≤ s.localTime) :
    exec .parkTimer s = .next (railService (parkExpires s)) :=
  congrArg Host.Outcome.next (if_pos ((timerDue_iff _ _).mpr h))

theorem exec_parkTimer_early (h : ¬∃ d, s.rail.parkTimer = some d ∧ d ≤ s.localTime) : exec .parkTimer s = .next s :=
  congrArg Host.Outcome.next (if_neg (mt (timerDue_iff _ _).mp h))

/-- With the park conditions in Active, Park is requested and the timer stands still (R149). -/
theorem parkExpires_requests (h : s.rail.state = .active ∧ parkConditions s = true) :
    parkExpires s = requested .park { s with rail := { s.rail with parkTimer := none } } :=
  (if_pos h).trans (requestRail_noWake (.inr (by simp [wakesRail])))

/-- Settles O60: the transmitter idle, its frame not over, ended alone or with its entry; the park timer due or not. -/
theorem railTimersExpire : Obligations.RailTimersExpire := by
  intro s
  refine ⟨exec_railTransmitEnd_idle, fun x hx => ?frame, fun h => exec_parkTimer_early ?early, fun d hd hdue => ?park⟩
  case frame =>
    intro ends elapsed sent
    have hdone : railFrameDone s.localTime x = true ↔ elapsed := railFrameDone_iff s.localTime x
    refine ⟨fun h => exec_railTransmitEnd_early hx (mt hdone.mp h), fun h hlive => ?_, fun h hlive => ?_⟩
    · rw [exec_railTransmitEnd_done hx (hdone.mpr h), endRailFrame, if_neg (by simp [hlive])]
      rfl
    · have hsent : markTransmitted s.rail.inFlight = sent := rfl
      rw [exec_railTransmitEnd_done hx (hdone.mpr h), endRailFrame, if_pos hlive, hsent]
      clear_value sent
      cases s.rail.window with
      | some w => rfl
      | none => cases sent <;> rfl
  case early =>
    rintro ⟨d, hd, hle⟩
    rcases h with h | ⟨d', hd', hlt⟩
    · simp [h] at hd
    · obtain rfl : d' = d := Option.some.inj (hd'.symm.trans hd)
      exact Nat.not_le.mpr hlt hle
  case park =>
    intro mayPark
    have hmay : (s.rail.state = .active ∧ parkConditions s = true) ↔ mayPark := and_congr_right' (parkConditions_iff s)
    have hexec := exec_parkTimer_due ⟨d, hd, hdue⟩
    exact ⟨fun h => after_of_service hexec (parkExpires_requests (hmay.mpr h)),
      fun h => after_of_service hexec (if_neg (mt hmay.mp h))⟩

end Sys2Proof.RailLinkProofs
end

section
/-! PROOFS. The laws in the state after power-on reset, block by block (R1, R4, R157, R187). -/

namespace Sys2Proof.ResetProofs

open Sys2Proof Sys2Proof.Machine Sys2Proof.TableProofs Sys2Proof.LawProofs Sys2Proof.CaptureLawProofs

/-! ## What emptied blocks meet -/

/-- With no key announced and no event queued the Capture FIFO is within its bound (R132). -/
theorem captureBounded_of_silent {s : State} (hfifo : s.captureFifo = []) (h : Silent s) : CaptureBounded s := by
  have hnone : announcedKeys s = 0 := by simpa [announcedKeys_eq, Silent] using h
  simp [CaptureBounded, hfifo, hnone]

/-- An empty queue with no key open is within its bound (R69). -/
theorem queueBounded_of_emptied {s : State} (h : Emptied s) : QueueBounded s := by
  simp [QueueBounded, h.actions, h.openKeys]

/-- An empty queue holds no strike (R42, R43). -/
theorem strikesInRange_of_emptied {s : State} (h : Emptied s) : StrikesInRange s := by
  simp [StrikesInRange, h.actions]

/-- With no run in flight the laws of runs hold (R104, R158, R161). -/
theorem runLaws_of_noRun {s : State} (h : s.run = none) : RunOnlyStopped s ∧ ProbeDriven s := by
  simp [RunOnlyStopped, ProbeDriven, h]

/-! ## The blocks after power-on reset -/

section Blocks

variable (r q : StrapLevel)

theorem powerOn_capture (k : Key) : (State.powerOn r q).capture[k] = CaptureContext.clear := by simp [State.powerOn]

theorem powerOn_replay (p : Pedal) : (State.powerOn r q).replay[p] = PedalReplay.clear := by simp [State.powerOn]

theorem powerOn_waiting : (State.powerOn r q).rail.waiting = [] := rfl

theorem powerOn_railBounded : RailBounded (State.powerOn r q) := ⟨Nat.zero_le _, Nat.zero_le _, Nat.zero_le _⟩

/-- The receiver is in Hunt, but the part is Unconfigured: no link-loss timer runs (R11, R187). -/
theorem powerOn_linkLossRuns : LinkLossRuns (State.powerOn r q) := rfl

theorem powerOn_pedalRequests : PedalRequests (State.powerOn r q) := by
  intro p
  rw [powerOn_waiting, powerOn_replay]
  rfl

theorem powerOn_pushesOwned : PushesOwned (State.powerOn r q) :=
  pushesOwned_of_noPush (by simp [powerOn_waiting])

theorem powerOn_capturesFormed : CapturesFormed (State.powerOn r q) := by
  intro k
  rw [powerOn_capture]
  exact captureFormed_clear

end Blocks

/-- Settles O15: the queue and the captures are emptied, the tables hold their defaults, and no run or request is there. -/
theorem resetMeetsTheLaws : Obligations.ResetMeetsTheLaws := by
  intro r q s
  have hempty : Emptied s := powerOn_emptied r q
  obtain ⟨hordered, hnothingOverdue, hquiet⟩ : Law s := hempty.law
  obtain ⟨hrunStopped, hprobe⟩ := runLaws_of_noRun (rfl : s.run = none)
  exact ⟨Nat.zero_le _, captureBounded_of_silent rfl hempty.silent, queueBounded_of_emptied hempty,
    powerOn_railBounded r q, Nat.zero_le _, .inl (Nat.zero_le _), defaultTables_valid q rfl,
    powerOn_linkLossRuns r q, hrunStopped, fun _ => rfl, hordered, hnothingOverdue, hquiet,
    strikesInRange_of_emptied hempty, fun k _ => powerOn_capture r q k, powerOn_capturesFormed r q,
    powerOn_pedalRequests r q, powerOn_pushesOwned r q, hprobe⟩

end Sys2Proof.ResetProofs
end

section
/-! PROOFS. The step on a queue that is not empty. -/

namespace Sys2Proof.StepProofs

open Sys2Proof Sys2Proof.Machine

/-- With a command at the front of the queue the step is that command's meaning; nothing of the idle step runs. -/
theorem step_of_pending {s : State} {c : Instr} {rest : List Instr} (h : s.pending = c :: rest) :
    step s = exec c { s with pending := rest } := by
  unfold step
  rw [h]

/-- Settles O1: the queue holds the command at its front, and `exec` reads the same state but for the queue. -/
theorem stepTakesTheFront : Obligations.StepTakesTheFront :=
  fun _ _ _ => step_of_pending rfl

end Sys2Proof.StepProofs
end

section
/-! PROOFS. What a command does to the Performance Clock (R1, R4, R11), with what no command but POWER_ON_RESET touches (R3, R25,
R171): the turns of the clock that the commands of 01 and a rail fault make, and the laws of the clock over every step. -/

namespace Sys2Proof.ClockProofs

open Sys2Proof Sys2Proof.Machine Sys2Proof.TableProofs

/-! ## The clock with the receiver's state -/

/-- What no command but POWER_ON_RESET touches. -/
structure Anchor where
  pending : List Instr
  tieBreak : Nat
  localTime : Nat
  rateSel : StrapLevel
  roleSel : StrapLevel

/-- That part of a state. -/
def anchor (s : State) : Anchor := ⟨s.pending, s.tieBreak, s.localTime, s.rateSel, s.roleSel⟩

/-- All that the laws of the clock speak of. -/
structure Timing where
  anchor : Anchor
  clock : Clock
  rx : RxState

/-- That part of a state. -/
def timing (s : State) : Timing := ⟨anchor s, s.clock, s.link.rx⟩

theorem timing_anchor {s t : State} (h : timing t = timing s) : anchor t = anchor s := congrArg Timing.anchor h
theorem timing_clock {s t : State} (h : timing t = timing s) : t.clock = s.clock := congrArg Timing.clock h
theorem timing_rx {s t : State} (h : timing t = timing s) : t.link.rx = s.link.rx := congrArg Timing.rx h

theorem timing_of_outer {s t : State} (h : outer t = outer s) : timing t = timing s := by
  obtain ⟨⟨hpending, htie, hlocal, hrate, hrole, _, _, _, _, _, _, _, hlink⟩, hclock, _⟩ := (outer_eq_iff s t).mp h
  simp only [timing, anchor, hpending, htie, hlocal, hrate, hrole, hclock, hlink]

theorem Calm.timing {s t : State} (h : Calm s t) : timing t = timing s := timing_of_outer h.outerEq

/-! ### Operations that leave both -/

@[simp] theorem respond_timing (r : Response) (s : State) : timing (respond r s) = timing s := rfl
@[simp] theorem goodFrame_timing (s : State) : timing (goodFrame s) = timing s := rfl
@[simp] theorem setDrive_timing (k : Key) (c : DriveContext) (s : State) : timing (setDrive k c s) = timing s := rfl
@[simp] theorem setCapture_timing (k : Key) (c : CaptureContext) (s : State) : timing (setCapture k c s) = timing s := rfl
@[simp] theorem setPedal_timing (p : Pedal) (c : PedalCapture) (s : State) : timing (setPedal p c s) = timing s := rfl
@[simp] theorem setCal_timing (k : Key) (r : CalRecord) (s : State) : timing (setCal k r s) = timing s := rfl
@[simp] theorem addReport_timing (r : Report) (s : State) : timing (addReport r s) = timing s :=
  timing_of_outer (addReport_outer r s)
@[simp] theorem railService_timing (s : State) : timing (railService s) = timing s :=
  timing_of_outer (railService_outer s)
@[simp] theorem dueNow_timing (s : State) : timing (dueNow s) = timing s := timing_of_outer (dueNow_outer s)

theorem ite_timing {s t u : State} {c : Prop} [Decidable c] (ht : timing t = timing s) (hu : timing u = timing s) :
    timing (if c then t else u) = timing s := by
  split
  · exact ht
  · exact hu

/-- A performance event is taken in, or discarded (R57, R75). -/
theorem takeEvent_timing {intake : State → State} (h : ∀ s, outer (intake s) = outer s) (s : State) :
    timing (takeEvent intake s) = timing s := by
  refine ite_timing ?_ rfl
  rw [railService_timing, dueNow_timing]
  exact timing_of_outer (h s)

/-- A measurement that closes writes at most a record of the Calibration Table beside its report (R50, R97, R98). -/
theorem closeMeasurement_timing (k : Key) (o : MeasOutcome) (s : State) : timing (closeMeasurement k o s) = timing s := by
  have trim (d : DriveContext) (st : Strike) (l : Int) (u : State) : timing (applyTrim d st l u) = timing u :=
    ite_timing rfl rfl
  unfold closeMeasurement
  simp only
  split
  · cases o with
    | arrived g1 g2 time =>
      simp only [strikeClosed]
      rw [addReport_timing, trim, setDrive_timing]
    | noArrival => exact addReport_timing _ _
    | notMeasured => exact addReport_timing _ _
  · exact timing_of_outer (probeOutcome_outer _ _ _ _)
  · rfl

theorem measureG2_timing (k : Key) (stamp : Stamp) (time : PT) (s : State) :
    timing (measureG2 k stamp time s) = timing s := by
  unfold measureG2
  simp only
  split
  · exact closeMeasurement_timing k _ s
  · rfl

/-- A crossing of a driven key (R87, R89, R90, R92, R94). -/
theorem driveCrossing_timing (k : Key) (x : Crossing) (time : PT) (s : State) :
    timing (driveCrossing k x time s) = timing s := by
  have g1 (stamp : Stamp) : timing (recordG1 k stamp s) = timing s := Calm.timing (recordG1_calm k stamp s)
  have ended (stamp : Stamp) : timing (endPush k (recordG1 k stamp s)) = timing s :=
    (Calm.timing (endPush_calm k _)).trans (g1 stamp)
  unfold driveCrossing
  simp only
  refine ite_timing rfl ?_
  cases (s.drive[k]).state with
  | idle => rfl
  | pushing =>
    cases (s.drive[k]).stage with
    | waiting => rfl
    | sent =>
      cases x with
      | g1 stamp => exact ite_timing (g1 stamp) (ended stamp)
      | g2 stamp => exact measureG2_timing k stamp time s
      | k1Down | k1Up | k2Down | k2Up => rfl
  | holding =>
    cases x with
    | g1 stamp => exact g1 stamp
    | g2 stamp => exact measureG2_timing k stamp time s
    | k1Down | k1Up | k2Down | k2Up => rfl
  | releasing =>
    cases x with
    | g1 stamp => exact g1 stamp
    | g2 stamp => exact measureG2_timing k stamp time s
    | k1Up => exact Calm.timing (comeToRest_calm k s)
    | k2Up | k2Down | k1Down => rfl

theorem offerFirst_timing (k : Key) (event : Bool → Bool → CaptureEvent) (s : State) :
    timing (offerFirst k event s) = timing s := ite_timing (ite_timing rfl rfl) rfl

theorem offerRestrike_timing (k : Key) (event : Bool → Bool → CaptureEvent) (s : State) :
    timing (offerRestrike k event s) = timing s := ite_timing (ite_timing rfl rfl) rfl

theorem offerNoteOff_timing (k : Key) (time : PT) (s : State) : timing (offerNoteOff k time s) = timing s :=
  ite_timing rfl rfl

theorem completeFlight_timing (k : Key) (stamp : Stamp) (time : PT) (s : State) :
    timing (completeFlight k stamp time s) = timing s :=
  ite_timing (offerRestrike_timing k _ _) (offerFirst_timing k _ _)

/-- A crossing taken by a capture context (R127, R128, R130). -/
theorem captureCrossing_timing (k : Key) (x : Crossing) (time : PT) (s : State) :
    timing (captureCrossing k x time s) = timing s := by
  have keyUp (c : CaptureContext) : timing (offerNoteOff k time (setCapture k c s)) = timing s :=
    offerNoteOff_timing k time _
  unfold captureCrossing
  simp only
  cases (s.capture[k]).state with
  | rest => cases x <;> rfl
  | descending =>
    cases x with
    | k2Down => exact offerFirst_timing k _ _
    | g1 | k1Up | k1Down | k2Up | g2 => rfl
  | gated =>
    cases x with
    | g2 stamp => exact completeFlight_timing k stamp time s
    | k1Up => exact keyUp _
    | g1 | k1Down | k2Down | k2Up => rfl
  | down | quiet | rearmed =>
    cases x with
    | k1Up => exact keyUp _
    | k2Up | k1Down | k2Down | g1 | g2 => rfl

theorem captureTimeout_timing (k : Key) (s : State) : timing (captureTimeout k s) = timing s :=
  ite_timing rfl (offerFirst_timing k _ _)

theorem routeCrossing_timing (k : Key) (x : Crossing) (s : State) : timing (routeCrossing k x s) = timing s :=
  ite_timing (driveCrossing_timing k x _ s) (ite_timing (captureCrossing_timing k x _ s) rfl)

theorem pedalRaw_timing (time : PT) (p : Pedal) (raw : BitVec 16) (s : State) : timing (pedalRaw time p raw s) = timing s :=
  ite_timing (ite_timing rfl rfl) rfl

theorem samplePedals_timing (raw1 raw2 raw3 : BitVec 16) (s : State) :
    timing (samplePedals raw1 raw2 raw3 s) = timing s := by
  unfold samplePedals
  simp only
  rw [pedalRaw_timing, pedalRaw_timing, pedalRaw_timing]

theorem loseSensor_timing (s : State) : timing (loseSensor s) = timing s :=
  (Calm.timing (loseSensor_base_calm s)).trans rfl

theorem sensorBad_timing (s : State) : timing (sensorBad s) = timing s :=
  ite_timing (ite_timing rfl (loseSensor_timing s)) rfl

/-- One record of a Table Write (R34). -/
theorem writeRecord_timing {table i : Nat} {bs : List Byte} {s t : State} (h : writeRecord table i bs s = .applied t) :
    timing t = timing s := by
  have cal (k : Key) (r : CalRecord) : timing (setCal k r s) = timing s := rfl
  have entry (k : Key) (e : MapEntry) : timing (applyEntry k e s) = timing s := ite_timing rfl rfl
  have pedal (p : Pedal) (r : PedalRecord) : timing (applyPedal p r s) = timing s :=
    (Calm.timing (endGapIfOver_calm p _)).trans rfl
  unfold writeRecord writeCal writeEntry writePedal at h
  (repeat' split at h) <;> cases h
  · exact cal _ _
  · exact entry _ _
  · exact pedal _ _

theorem writeRecords_timing (table size n i : Nat) (bs : List Byte) (s : State) :
    timing (writeRecords table size n i bs s).2.2.2 = timing s := by
  induction n generalizing i bs s with
  | zero => rfl
  | succ n ih =>
    unfold writeRecords
    split
    · rfl
    · next t h => exact (ih _ _ t).trans (writeRecord_timing h)

theorem writeTable_timing (tag : Byte) (p : List Byte) (s : State) : timing (writeTable tag p s) = timing s := by
  unfold writeTable
  refine ite_timing rfl ?_
  simp only
  split
  · rfl
  · exact ite_timing (ite_timing rfl (writeRecords_timing _ _ _ _ _ s)) rfl

theorem readTable_timing (tag : Byte) (p : List Byte) (s : State) : timing (readTable tag p s) = timing s := by
  unfold readTable; simp only; (repeat' split) <;> rfl

theorem calibrate_timing (kind tag : Byte) (f : CalFields) (s : State) : timing (calibrate kind tag f s) = timing s := by
  unfold calibrate
  split
  · rfl
  · exact (Calm.timing (startRun_calm f _)).trans rfl

/-- The result of a key (R164, R165). -/
theorem keyResult_timing (c : CalContext) (s : State) : timing (keyResult c s) = timing s := by
  unfold keyResult sweepResult quickResult
  split
  · simp only
    split
    · exact addReport_timing _ s
    · rw [addReport_timing, setCal_timing]
  · rw [addReport_timing, setCal_timing]

theorem settleEnds_timing (c : CalContext) (s : State) : timing (settleEnds c s) = timing s :=
  ite_timing (Calm.timing (beginProbe_calm _ s)) ((Calm.timing (nextKey_calm c _)).trans (keyResult_timing c s))

theorem ackEffect_timing (c : RailCmd) (s : State) : timing (ackEffect c s) = timing s := by
  unfold ackEffect passThroughAcked powerGoesOn recovered
  (repeat' split) <;> rfl

/-- The upstream arbiter's choice (R181). -/
theorem choose_timing (start : Nat) (s : State) : timing (choose start s) = timing s := by
  unfold choose chooseLower; (repeat' split) <;> rfl

theorem endUpFrame_timing (t : UpTx) (s : State) : timing (endUpFrame t s) = timing s := by
  unfold endUpFrame advanceRead; simp only; (repeat' split) <;> rfl

/-! ## The receiver of PLIN and the link-loss timer (R11, R173 to R177) -/

/-- The clock is as it was but for the link-loss timer, which goes on following the receiver. -/
structure ClockKept (s t : State) : Prop where
  anchor : anchor t = anchor s
  clock : t.clock = { s.clock with linkLoss := t.clock.linkLoss }
  law : LinkLossRuns s → LinkLossRuns t

theorem LinkLossRuns.of_timing {s t : State} (h : timing t = timing s) (hs : LinkLossRuns s) : LinkLossRuns t := by
  unfold LinkLossRuns inPerformance
  rw [timing_clock h, timing_rx h]
  exact hs

theorem ClockKept.of_timing {s t : State} (h : timing t = timing s) : ClockKept s t :=
  ⟨timing_anchor h, by rw [timing_clock h], LinkLossRuns.of_timing h⟩

theorem ClockKept.trans {s t u : State} (h : ClockKept s t) (h' : ClockKept t u) : ClockKept s u :=
  ⟨h'.anchor.trans h.anchor, by rw [h'.clock, h.clock], h'.law ∘ h.law⟩

/-- Out of Locked before and after, the receiver leaves the clock alone. -/
theorem clockKept_unlocked {s t : State} (ha : anchor t = anchor s) (hc : t.clock = s.clock) (hs : s.link.rx ≠ .locked)
    (ht : t.link.rx ≠ .locked) : ClockKept s t := by
  refine ⟨ha, by rw [hc], fun h => ?_⟩
  unfold LinkLossRuns inPerformance at h ⊢
  rw [hc, h]
  simp [hs, ht]

/-- Entry to Locked cancels the timer (R11, R177). -/
theorem enterLocked_kept (rest : List Byte) (s : State) : ClockKept s (enterLocked rest s) :=
  ⟨rfl, rfl, fun _ => by simp [LinkLossRuns, enterLocked]⟩

theorem receive_kept (n : Nat) (s : State) : ClockKept s (receive n s) := by
  induction n generalizing s with
  | zero => exact .of_timing rfl
  | succ n ih =>
    unfold receive
    cases hrx : s.link.rx with
    | locked => exact .of_timing rfl
    | hunt =>
      have out : s.link.rx ≠ .locked := by simp [hrx]
      have away (bs : List Byte) : ClockKept s { s with link := { s.link with rx := .verify, buffer := bs } } :=
        clockKept_unlocked rfl rfl out (by simp)
      simp only
      split
      · exact clockKept_unlocked rfl rfl out out
      · exact (away _).trans (ih _)
    | verify =>
      have away (bs : List Byte) : ClockKept s { s with link := { s.link with rx := .hunt, buffer := bs } } :=
        clockKept_unlocked rfl rfl (by simp [hrx]) (by simp)
      simp only
      split
      · exact .of_timing rfl
      · exact enterLocked_kept _ s
      · exact (away _).trans (ih _)

theorem feed_kept (bytes : List Byte) (s : State) : ClockKept s (feed bytes s) :=
  (ClockKept.of_timing rfl : ClockKept s { s with link := { s.link with buffer := s.link.buffer ++ bytes } }).trans
    (receive_kept _ _)

/-- Leaving Locked in Running and Held starts the timer (R11, R177). -/
theorem returnToHunt_kept (bytes : List Byte) (s : State) : ClockKept s (returnToHunt bytes s) := by
  refine ClockKept.trans (t := { leaveLocked s with
    link := { (leaveLocked s).link with rx := .hunt, badCount := 0, buffer := [] } }) ?_ (feed_kept _ _)
  unfold leaveLocked
  split
  · next hp => exact ⟨rfl, rfl, fun _ => by simpa [LinkLossRuns, inPerformance] using hp⟩
  · next hp =>
    refine ⟨rfl, rfl, fun h => ?_⟩
    have hoff : inPerformance s = false := by simpa using hp
    unfold LinkLossRuns at h ⊢
    rw [hoff, Bool.false_and] at h
    exact h.trans (by unfold inPerformance at hoff ⊢; rw [hoff]; rfl)

theorem badCheckFrame_kept (bytes : List Byte) (s : State) : ClockKept s (badCheckFrame bytes s) := by
  unfold badCheckFrame
  simp only
  split
  · exact .of_timing rfl
  · exact (ClockKept.of_timing (by rfl)).trans (returnToHunt_kept bytes { s with sticky := { s.sticky with crcError := true } })

/-! ## The turns of the clock -/

/-- The commands that can bring a rail fault about (R147, R146). -/
inductive BringsFault : Instr → Prop
  | ack (tag : Byte) (p : List Byte) : BringsFault (.ack tag p)
  | unexpected (kind tag : Byte) (p : List Byte) : BringsFault (.railUnexpectedFrame kind tag p)
  | window : BringsFault .acknowledgementWindow

/-- The clock a command can turn the clock of a state to (R1, R6 to R14, R16, R18). -/
inductive Turn (s : Timing) : Instr → Clock → Prop
  | tick : s.clock.part = .running →
      Turn s .ptTick { s.clock with pt := s.clock.pt + 1#32, unitStart := s.clock.unitStart + 10 }
  | configure (tag : Byte) (p : List Byte) : s.clock.part = .unconfigured ∨ s.clock.part = .stopped →
      Turn s (.configure tag p) { s.clock with part := .stopped }
  | start (tag : Byte) (p : List Byte) : s.clock.part = .stopped → s.rx = .locked →
      Turn s (.start tag p) { s.clock with part := .running, unitStart := s.anchor.localTime }
  | hold (tag : Byte) (p : List Byte) : s.clock.part = .running → Turn s (.hold tag p) { s.clock with part := .held }
  | resume (tag : Byte) (p : List Byte) : s.clock.part = .held →
      Turn s (.resume tag p) { s.clock with part := .running, unitStart := s.anchor.localTime }
  | stop (tag : Byte) (p : List Byte) : s.clock.part ≠ .unconfigured →
      Turn s (.stop tag p) { s.clock with part := .stopped, cause := .request, linkLoss := none }
  | restart (tag : Byte) (p : List Byte) :
      Turn s (.restart tag p) { s.clock with pt := 0, part := .unconfigured, cause := .none, linkLoss := none }
  | clockSet (tag : Byte) (p : List Byte) : s.clock.part = .stopped →
      Turn s (.clockSet tag p) { s.clock with pt := bits32 p 0 }
  | linkLoss : s.clock.part = .running ∨ s.clock.part = .held →
      Turn s .linkLossStop { s.clock with part := .stopped, cause := .linkLoss, linkLoss := none }
  | fault {c : Instr} : BringsFault c → s.clock.part = .running ∨ s.clock.part = .held →
      Turn s c { s.clock with part := .faulted, cause := .railFault, linkLoss := none }

/-- What a command other than POWER_ON_RESET does to the clock: it keeps it, or turns it. -/
inductive Follows (c : Instr) (s t : State) : Prop
  | kept (h : ClockKept s t) : Follows c s t
  | turned (ha : anchor t = anchor s) (hrx : t.link.rx = s.link.rx) (h : Turn (timing s) c t.clock) : Follows c s t

namespace Follows

variable {c : Instr} {s t u : State} {act : State → State}

theorem anchor_eq (h : Follows c s t) : anchor t = anchor s := by
  cases h with
  | kept h => exact h.anchor
  | turned ha _ _ => exact ha

theorem of_timing (h : timing t = timing s) : Follows c s t := .kept (.of_timing h)

theorem refl (s : State) : Follows c s s := of_timing rfl

/-- A command behind what leaves the clock and the receiver's state. -/
theorem after (h : Follows c t u) (hb : timing t = timing s) : Follows c s u := by
  cases h with
  | kept h => exact .kept ((ClockKept.of_timing hb).trans h)
  | turned ha hrx h => exact .turned (ha.trans (timing_anchor hb)) (hrx.trans (timing_rx hb)) (hb ▸ h)

/-- What follows a command and leaves the clock and the receiver's state. -/
theorem andThen (h : Follows c s t) (hb : timing u = timing t) : Follows c s u := by
  cases h with
  | kept h => exact .kept (h.trans (.of_timing hb))
  | turned ha hrx h => exact .turned ((timing_anchor hb).trans ha) ((timing_rx hb).trans hrx) (timing_clock hb ▸ h)

/-- The clock is turned and then left alone. -/
theorem turn {e : State} (h : timing t = timing e) (ha : anchor e = anchor s) (hrx : e.link.rx = s.link.rx)
    (hturn : Turn (timing s) c e.clock) : Follows c s t := (Follows.turned ha hrx hturn).andThen h

theorem ite {p : Prop} [Decidable p] (ht : p → Follows c s t) (hu : ¬p → Follows c s u) :
    Follows c s (if p then t else u) := by
  split
  · next h => exact ht h
  · next h => exact hu h

/-- A good frame on PLIN is acted on in Locked, or its bytes go to the receiver (R178). -/
theorem deliver (f : Frame) (h : ∀ s, s.link.rx = .locked → Follows c s (act s)) (s : State) :
    Follows c s (deliver f act s) := by
  unfold Machine.deliver
  refine ite (fun hat => ?_) fun _ => .kept (feed_kept _ s)
  simp only [atFrame, Bool.and_eq_true, decide_eq_true_eq] at hat
  exact (h (goodFrame s) hat.1).after (goodFrame_timing s)

/-- A request is acted on, or discarded (R179). -/
theorem unlessFull (h : ∀ s, s.link.rx = .locked → Follows c s (act s)) (s : State) (hs : s.link.rx = .locked) :
    Follows c s (unlessFull act s) := ite (fun _ => h s hs) fun _ => refl s

/-- A control request on PLIN (R5, R178, R179). -/
theorem request (f : Frame) (n : Nat) (p : List Byte) (r : State → Response)
    (h : ∀ s, s.link.rx = .locked → Follows c s (act s)) (s : State) :
    Follows c s (Machine.deliver f (Machine.unlessFull (checkLength n p (fun s => respond (r s) s) act)) s) :=
  deliver f (unlessFull fun s hs => ite (fun _ => h s hs) fun _ => of_timing (respond_timing (r s) s)) s

/-- A good frame on SNIN is acted on, or its bytes go to the receiver (R120). -/
theorem sninFrame (f : Frame) (h : ∀ s, timing (act s) = timing s) (s : State) : Follows c s (sninFrame f act s) :=
  of_timing (ite_timing (h s) rfl)

/-- A good frame on RLIN is acted on, or its bytes go to the receiver (R141). -/
theorem rlinFrame (f : Frame) (h : ∀ s, Follows c s (act s)) (s : State) : Follows c s (rlinFrame f act s) :=
  ite (fun _ => h s) fun _ => of_timing rfl

end Follows

theorem sensorFrame_timing {act : State → State} (h : ∀ s, timing (act s) = timing s) (s : State) :
    timing (sensorFrame act s) = timing s := ite_timing (h _) rfl

theorem crossingFrame_timing (note : Byte) (x : Crossing) (s : State) : timing (crossingFrame note x s) = timing s := by
  unfold crossingFrame
  split
  · exact sensorFrame_timing (fun _ => rfl) s
  · next k _ => exact (railService_timing _).trans (sensorFrame_timing (routeCrossing_timing k x) s)

/-! ## The commands that turn the clock -/

theorem tick_follows (s : State) : Follows .ptTick s (if tickDue s then railService (dueNow (advancePt s)) else s) := by
  refine .ite (fun h => ?_) fun _ => .refl s
  simp only [tickDue, decide_eq_true_eq] at h
  exact .turn (e := advancePt s) (by rw [railService_timing, dueNow_timing]) rfl rfl (.tick h.1)

theorem doConfigure_follows (tag : Byte) (p : List Byte) (s : State) : Follows (.configure tag p) s (doConfigure tag p s) := by
  unfold doConfigure
  cases h : s.clock.part with
  | unconfigured => exact .turn (e := configured p s) rfl rfl rfl (.configure tag p (.inl h))
  | stopped => exact .turn (e := configured p s) rfl rfl rfl (.configure tag p (.inr h))
  | running | held | faulted => exact .of_timing rfl

theorem doStart_follows (tag : Byte) (p : List Byte) (s : State) (hrx : s.link.rx = .locked) :
    Follows (.start tag p) s (doStart tag s) := by
  unfold doStart
  cases h : s.clock.part with
  | stopped =>
    refine .ite (fun _ => .of_timing rfl) fun _ => .ite (fun _ => .of_timing rfl) fun _ => ?_
    exact .turn (e := startNotices (enterRunning s)) rfl rfl rfl (.start tag p h hrx)
  | unconfigured | running | held | faulted => exact .of_timing rfl

theorem doHold_follows (tag : Byte) (p : List Byte) (s : State) : Follows (.hold tag p) s (doHold tag s) := by
  unfold doHold
  cases h : s.clock.part with
  | running => exact .turn (e := enterHeld s) rfl rfl rfl (.hold tag p h)
  | unconfigured | stopped | held | faulted => exact .of_timing rfl

theorem doResume_follows (tag : Byte) (p : List Byte) (s : State) : Follows (.resume tag p) s (doResume tag s) := by
  unfold doResume
  cases h : s.clock.part with
  | held =>
    refine .turn (e := enterRunning s) ?_ rfl rfl (.resume tag p h)
    rw [railService_timing, dueNow_timing]; rfl
  | unconfigured | stopped | running | faulted => exact .of_timing rfl

/-- The transition of R10 writes the clock first and leaves it. -/
theorem stopTransition_timing (cause : StopCause) {release : State → State} (h : ∀ s, Calm s (release s)) (s : State) :
    timing (stopTransition cause release s) = timing (leavePerformance .stopped cause s) :=
  (Calm.timing ((pedalsToRest_calm _).after ((h _).after (driveStop_calm (flush (leavePerformance .stopped cause s)))))).trans
    rfl

theorem doStop_follows (tag : Byte) (p : List Byte) (s : State) : Follows (.stop tag p) s (doStop tag s) := by
  have stopped {t : State} (hpart : s.clock.part ≠ .unconfigured)
      (h : timing t = timing (leavePerformance .stopped .request s)) :
      Follows (.stop tag p) s (answerStop tag .done (railService t)) :=
    .turn (e := leavePerformance .stopped .request s)
      ((respond_timing _ _).trans ((railService_timing t).trans h)) rfl rfl (.stop tag p hpart)
  have transition := stopTransition_timing .request (releaseEverything_calm false) s
  unfold doStop
  cases h : s.clock.part with
  | unconfigured => exact .of_timing rfl
  | stopped =>
    have same : timing (recoverIfFaulted (abortRun s)) = timing s :=
      Calm.timing ((recoverIfFaulted_calm _).after (abortRun_calm s))
    refine stopped (by simp [h]) ?_
    simp only [timing, Timing.mk.injEq] at same ⊢
    obtain ⟨hanchor, hclock, hrx⟩ := same
    exact ⟨hanchor, by simp only [stopInStopped, leavePerformance, hclock], hrx⟩
  | running | held => exact stopped (by simp [h]) transition
  | faulted =>
    exact stopped (by simp [h]) (Calm.timing
      ((pedalsToRest_calm _).after ((releaseEverything_calm false _).after (driveFaultStop_calm _))))

theorem doRestart_follows (tag : Byte) (p : List Byte) (s : State) : Follows (.restart tag p) s (doRestart tag s) := by
  have notices : Calm (restartBlocks s) (pedalsToRest (releaseEverything true (driveRestart (restartBlocks s)))) :=
    (pedalsToRest_calm _).after ((releaseEverything_calm true _).after (driveRestart_calm _))
  have served := (railService_timing _).trans (Calm.timing notices)
  unfold doRestart answer
  exact .turn ((respond_timing _ _).trans served) rfl rfl (.restart tag p)

theorem doClockSet_follows (tag : Byte) (p : List Byte) (s : State) : Follows (.clockSet tag p) s (doClockSet tag p s) := by
  unfold doClockSet
  cases h : s.clock.part with
  | stopped =>
    exact .turn (e := { s with clock := { s.clock with pt := bits32 p 0 } }) rfl rfl rfl (.clockSet tag p h)
  | unconfigured | running | held | faulted => exact .of_timing rfl

theorem linkLossStop_follows (s : State) :
    Follows .linkLossStop s
      (if inPerformance s ∧ timerDue s.localTime s.clock.linkLoss then
        railService (stopTransition .linkLoss (requestReleaseAll false false) s)
      else s) := by
  refine .ite (fun h => ?_) fun _ => .refl s
  exact .turn (e := leavePerformance .stopped .linkLoss s)
    ((railService_timing _).trans (stopTransition_timing .linkLoss (requestReleaseAll_calm false false) s)) rfl rfl
    (.linkLoss ((inPerformance_iff s).mp h.1))

/-- A rail fault turns the clock of a Running or Held part alone (R12). -/
theorem clockFault_follows {c : Instr} (hc : BringsFault c) (s : State) : Follows c s (clockFault s) := by
  refine .ite (fun hp => ?_) fun _ => .refl s
  exact .turn (e := leavePerformance .faulted .railFault s) rfl rfl rfl (.fault hc ((inPerformance_iff s).mp hp))

theorem railFault_follows {c : Instr} (hc : BringsFault c) (s : State) : Follows c s (railFault s) := by
  have before : Calm s (restartIdle (faultRail s)) := (restartIdle_calm _).after (faultRail_calm s)
  have behind := (abortRun_calm _).after (pedalsFault_calm (clockFault (restartIdle (faultRail s))))
  exact ((clockFault_follows hc _).after (Calm.timing before)).andThen (Calm.timing behind)

theorem takeAck_follows (tag : Byte) (p : List Byte) (s : State) : Follows (.ack tag p) s (takeAck tag p s) := by
  have fault := railFault_follows (.ack tag p) s
  unfold takeAck
  split
  · exact .ite (fun _ => .refl s) fun _ => fault
  · exact .ite (fun _ => .of_timing (ackEffect_timing _ _)) fun _ => fault

/-! ## Every command -/

/-- A meaning leads to a next state that stands in the relation to the one before. -/
def Reaches (R : State → State → Prop) (s : State) (o : Out) : Prop := ∃ t, o = .next t ∧ R s t

theorem Reaches.of_next {R : State → State → Prop} {s t : State} (h : R s t) : Reaches R s (.next t) := ⟨t, rfl, h⟩

theorem Reaches.next {R : State → State → Prop} {s t : State} {o : Out} (h : Reaches R s o) (ht : o = .next t) : R s t := by
  obtain ⟨u, hu, hr⟩ := h
  cases hu.symm.trans ht
  exact hr

/-- What is no POWER_ON_RESET follows the clock. -/
theorem exec_follows (c : Instr) (s : State) (hc : ∀ r q, c ≠ .powerOnReset r q) : Reaches (Follows c) s (exec c s) := by
  cases c with
  | powerOnReset r q => exact absurd rfl (hc r q)
  | ptTick => exact .of_next (tick_follows s)
  | noteOn _ p =>
    refine .of_next (.deliver _ (fun s _ => .of_timing ?_) s)
    cases noteOnFields? p with
    | none => rfl
    | some f => exact takeEvent_timing (intakeNoteOn_outer f) s
  | noteOff _ p =>
    refine .of_next (.deliver _ (fun s _ => .of_timing ?_) s)
    cases noteOffFields? p with
    | none => rfl
    | some f => exact takeEvent_timing (intakeNoteOff_outer f.1 f.2) s
  | pedalTarget _ p =>
    refine .of_next (.deliver _ (fun s _ => .of_timing ?_) s)
    cases pedalTargetFields? p with
    | none => rfl
    | some f => exact takeEvent_timing (intakePedal_outer f) s
  | configure tag p => exact .of_next (.request _ _ p _ (fun s _ => doConfigure_follows tag p s) s)
  | start tag p => exact .of_next (.request _ _ p _ (doStart_follows tag p) s)
  | hold tag p => exact .of_next (.request _ _ p _ (fun s _ => doHold_follows tag p s) s)
  | resume tag p => exact .of_next (.request _ _ p _ (fun s _ => doResume_follows tag p s) s)
  | stop tag p => exact .of_next (.request _ _ p _ (fun s _ => doStop_follows tag p s) s)
  | restart tag p => exact .of_next (.request _ _ p _ (fun s _ => doRestart_follows tag p s) s)
  | clearErrors _ p =>
    refine .of_next (.request _ _ p _ (fun _ _ => ?_) s)
    exact .of_timing rfl
  | clockSet tag p => exact .of_next (.request _ _ p _ (fun s _ => doClockSet_follows tag p s) s)
  | clockLatch _ p =>
    refine .of_next (.request _ _ p (fun _ => _) (fun _ _ => ?_) s)
    exact .of_timing rfl
  | tableWrite tag p =>
    exact .of_next (.deliver _ (Follows.unlessFull fun s _ => .of_timing (writeTable_timing tag p s)) s)
  | tableRead tag p =>
    exact .of_next (.deliver _ (Follows.unlessFull fun s _ => .of_timing (readTable_timing tag p s)) s)
  | calibrateQuick _ p | calibrateSweep _ p =>
    refine .of_next (.request _ _ p _ (fun s _ => .of_timing ?_) s)
    exact (railService_timing _).trans (calibrate_timing _ _ _ s)
  | railPassThrough _ p =>
    exact .of_next (.deliver _
      (fun s _ => .of_timing ((railService_timing _).trans (Calm.timing (takePass_calm p s)))) s)
  | unknown _ _ _ =>
    refine .of_next (.deliver _ (Follows.unlessFull fun _ _ => ?_) s)
    exact .of_timing rfl
  | hunt bytes | verify bytes => exact .of_next (.kept (feed_kept bytes s))
  | crcError bytes =>
    exact .of_next (.ite (fun _ => .kept (badCheckFrame_kept bytes s)) fun _ => .kept (feed_kept bytes s))
  | framingError bytes =>
    have bad := returnToHunt_kept bytes { s with sticky := { s.sticky with framingError := true } }
    exact .of_next (.ite (fun _ => .kept ((ClockKept.of_timing (by rfl)).trans bad)) fun _ => .kept (feed_kept bytes s))
  | linkLossStop => exact .of_next (linkLossStop_follows s)
  | frameBoundary =>
    refine .of_next (.of_timing ?_)
    split
    · exact choose_timing _ s
    · exact ite_timing ((choose_timing _ _).trans (endUpFrame_timing _ s)) rfl
  | statusSpacing =>
    refine .of_next (.of_timing ?_)
    split
    · exact ite_timing (choose_timing _ s) rfl
    · rfl
  | idle _ | discardedSensorFrame _ _ _ =>
    exact .of_next (.sninFrame _ (sensorFrame_timing fun _ => rfl) s)
  | keyTrip note _ _ _ _ | hammerTrip note _ _ _ => exact .of_next (.sninFrame _ (crossingFrame_timing note _) s)
  | pedalSample raw1 raw2 raw3 _ =>
    exact .of_next (.sninFrame _ (sensorFrame_timing (samplePedals_timing raw1 raw2 raw3)) s)
  | sensorBadFrame bytes =>
    exact .of_next (.of_timing (ite_timing ((railService_timing _).trans (sensorBad_timing _)) rfl))
  | lossWindowExpiry => exact .of_next (.of_timing (ite_timing ((railService_timing _).trans (loseSensor_timing s)) rfl))
  | pushTimerExpiry k =>
    refine .of_next (.of_timing (ite_timing ((railService_timing _).trans ?_) rfl))
    exact ite_timing rfl (Calm.timing (endPush_calm k s))
  | gateTimerExpiry k => exact .of_next (.of_timing (ite_timing ((Calm.timing (closeOpen_calm k _)).trans rfl) rfl))
  | restTimerExpiry k | sensorlessReleaseTimer k =>
    exact .of_next (.of_timing (ite_timing ((railService_timing _).trans (Calm.timing (comeToRest_calm k s))) rfl))
  | captureGateTimeout k => exact .of_next (.of_timing (ite_timing (captureTimeout_timing k s) rfl))
  | restWaitExpiry =>
    refine .of_next (.of_timing ?_)
    split <;> rfl
  | settleExpiry =>
    refine .of_next (.of_timing ?_)
    split
    · rfl
    · exact (railService_timing _).trans (settleEnds_timing _ s)
  | rateGapEnd p => exact .of_next (.of_timing (Calm.timing (endGapIfOver_calm p s)))
  | ack tag p => exact .of_next (.rlinFrame _ (fun s => (takeAck_follows tag p s).andThen (railService_timing _)) s)
  | railReply p _ =>
    refine .of_next (.rlinFrame _ (fun s => ?_) s)
    exact .of_timing (ite_timing (c := s.rail.replies.length < 4) rfl rfl)
  | railUnexpectedFrame kind tag p =>
    refine .of_next (.rlinFrame _ (fun s => ?_) s)
    exact .ite (fun _ => .refl s) fun _ => railFault_follows (.unexpected kind tag p) s
  | railBadFrame _ => exact .of_next (.of_timing rfl)
  | acknowledgementWindow => exact .of_next (.ite (fun _ => railFault_follows .window s) fun _ => .refl s)
  | railTransmitEnd =>
    refine .of_next (.of_timing ?_)
    split
    · exact railService_timing s
    · exact ite_timing (Calm.timing ((railServiceAt_calm _ _).after (endRailFrame_calm _ s))) rfl
  | parkTimer =>
    exact .of_next (.of_timing (ite_timing ((railService_timing _).trans (Calm.timing (parkExpires_calm s))) rfl))

/-! ## The statements over commands -/

/-- Settles O3: every command but POWER_ON_RESET keeps what no command touches, and that one keeps the queue. -/
theorem commandsKeepTheQueue : Obligations.CommandsKeepTheQueue := by
  intro c s
  by_cases hc : ∃ r q, c = .powerOnReset r q
  · obtain ⟨r, q, rfl⟩ := hc
    exact ⟨_, rfl, rfl, rfl, .inl ⟨r, q, rfl⟩⟩
  · obtain ⟨t, ht, hf⟩ := exec_follows c s fun r q h => hc ⟨r, q, h⟩
    have ha := hf.anchor_eq
    simp only [anchor, Anchor.mk.injEq] at ha
    obtain ⟨hpending, htie, hlocal, hrate, hrole⟩ := ha
    exact ⟨t, ht, hpending, htie, .inr ⟨hlocal, hrate, hrole⟩⟩

/-- What a command does to the clock: POWER_ON_RESET sets it, any other keeps it or turns it. -/
theorem exec_clock {c : Instr} {s t : State} (h : exec c s = .next t) :
    (∃ r q, c = .powerOnReset r q ∧ t.clock = defaultClock) ∨ Follows c s t := by
  by_cases hc : ∃ r q, c = .powerOnReset r q
  · obtain ⟨r, q, rfl⟩ := hc
    cases h
    exact .inl ⟨r, q, rfl, rfl⟩
  · exact .inr ((exec_follows c s fun r q h => hc ⟨r, q, h⟩).next h)

/-- Settles O4: of the turns of the clock four change PT. -/
theorem ptChangesOnly : Obligations.PtChangesOnly := by
  intro c s t h hne
  rcases exec_clock h with ⟨r, q, rfl, hclock⟩ | ⟨⟨_, hclock, _⟩⟩ | ⟨_, _, hturn⟩
  · exact .inr (.inr (.inr ⟨r, q, rfl, by rw [hclock]; rfl⟩))
  · exact absurd (by rw [hclock]) hne
  · generalize ht : t.clock = clock at hturn hne ⊢
    cases hturn with
    | tick hp => exact .inl ⟨rfl, hp, rfl⟩
    | clockSet tag p hp => exact .inr (.inl ⟨tag, p, rfl, hp, rfl⟩)
    | restart tag p => exact .inr (.inr (.inl ⟨tag, p, rfl, rfl⟩))
    | configure | start | hold | resume | stop | linkLoss | fault => exact absurd rfl hne

/-- Settles O5: the turns of the clock are the arrows of 01. -/
theorem partStateChangesOnly : Obligations.PartStateChangesOnly := by
  intro c s t h hne
  rcases exec_clock h with ⟨r, q, rfl, hclock⟩ | ⟨⟨_, hclock, _⟩⟩ | ⟨_, _, hturn⟩
  · simp [hclock, defaultClock]
  · exact absurd (by rw [hclock]) hne
  · generalize ht : t.clock = clock at hturn hne ⊢
    have perf := inPerformance_iff s
    cases hturn with
    | tick => exact absurd rfl hne
    | clockSet => exact absurd rfl hne
    | configure tag p hp =>
      rcases hp with hp | hp
      · exact .inl ⟨tag, p, rfl, hp, rfl⟩
      · exact absurd hp.symm hne
    | start tag p hp => simp [show s.clock.part = _ from hp]
    | hold tag p hp => simp [show s.clock.part = _ from hp]
    | resume tag p hp => simp [show s.clock.part = _ from hp]
    | stop tag p hp => simp [show s.clock.part ≠ _ from hp]
    | restart tag p => simp
    | linkLoss hp => simp [perf.mpr hp]
    | fault hc hp => cases hc <;> simp [perf.mpr hp]

/-! ## The laws of the clock over every step -/

/-- The link-loss timer follows the receiver, and PT is 0 in Unconfigured (R1, R11). -/
structure ClockLaw (s : State) : Prop where
  linkLoss : LinkLossRuns s
  zero : ZeroWhenUnconfigured s

theorem ClockKept.clockLaw {s t : State} (h : ClockKept s t) (hs : ClockLaw s) : ClockLaw t := by
  refine ⟨h.law hs.linkLoss, ?_⟩
  unfold ZeroWhenUnconfigured
  rw [h.clock]
  exact hs.zero

/-- A turn of the clock keeps its laws: what enters performance finds the receiver Locked, what leaves it cancels the timer. -/
theorem Turn.clockLaw {c : Instr} {s t : State} (h : Turn (timing s) c t.clock) (hrx : t.link.rx = s.link.rx)
    (hs : ClockLaw s) : ClockLaw t := by
  obtain ⟨hloss, hzero⟩ := hs
  unfold LinkLossRuns inPerformance at hloss
  constructor
  · unfold LinkLossRuns inPerformance
    rw [hrx]
    change (timing s).clock.linkLoss.isSome = (decide ((timing s).clock.part = _ ∨ (timing s).clock.part = _) && _) at hloss
    generalize t.clock = clock at h ⊢
    cases h with
    | tick hp => exact hloss
    | clockSet => exact hloss
    | configure _ _ hp => rcases hp with hp | hp <;> simpa [hp] using hloss
    | start _ _ hp hlocked => simpa [hp, show s.link.rx = .locked from hlocked] using hloss
    | hold _ _ hp | resume _ _ hp => simpa [hp] using hloss
    | stop | restart | linkLoss | fault => simp
  · unfold ZeroWhenUnconfigured
    generalize t.clock = clock at h ⊢
    cases h with
    | tick hp | clockSet _ _ hp => intro hu; exact absurd (hp.symm.trans hu) (by simp)
    | restart => intro _; rfl
    | configure | start | hold | resume | stop | linkLoss | fault => intro hu; cases hu

theorem exec_clockLaw {c : Instr} {s t : State} (hs : ClockLaw s) (h : exec c s = .next t) : ClockLaw t := by
  by_cases hc : ∃ r q, c = .powerOnReset r q
  · obtain ⟨r, q, rfl⟩ := hc
    cases h
    exact ⟨rfl, fun _ => rfl⟩
  · cases (exec_follows c s fun r q h => hc ⟨r, q, h⟩).next h with
    | kept hk => exact hk.clockLaw hs
    | turned _ hrx hturn => exact hturn.clockLaw hrx hs

theorem takeUp_clockLaw {r : Raised} {s t : State} (hs : ClockLaw s) (h : takeUp r s = .next t) : ClockLaw t := by
  cases r with
  | event c => exact exec_clockLaw hs h
  | frame l c rest =>
    have hplace : ClockKept s (emptied l s) := .of_timing (by cases l <;> rfl)
    have behind (u : State) : ClockKept u (takeBehind l rest u) := by
      cases l with
      | plin => exact feed_kept rest u
      | snin | rlin => exact .of_timing rfl
    unfold takeUp at h
    simp only at h
    split at h
    · next u hu =>
      cases h
      exact (behind u).clockLaw (exec_clockLaw (hplace.clockLaw hs) hu)
    · cases h
    · cases h

theorem step_clockLaw {s t : State} (hs : ClockLaw s) (h : step s = .next t) : ClockLaw t := by
  unfold step at h
  split at h
  · unfold idleStep at h
    split at h
    · unfold endMoment at h
      split at h
      · exact exec_clockLaw hs h
      · cases h
        exact ⟨hs.linkLoss, hs.zero⟩
    · exact takeUp_clockLaw hs h
    · exact takeUp_clockLaw (s := { s with tieBreak := s.tieBreak + 1 }) ⟨hs.linkLoss, hs.zero⟩ h
  · next rest _ => exact exec_clockLaw (s := { s with pending := rest }) ⟨hs.linkLoss, hs.zero⟩ h

/-- Settles O10: every turn of the clock keeps its laws; that of the run is kept with those of the stores. -/
theorem clockLawsAreKept : Obligations.ClockLawsAreKept := by
  rintro s t ⟨hloss, hrun, hzero⟩ h
  obtain ⟨hloss', hzero'⟩ := step_clockLaw ⟨hloss, hzero⟩ h
  exact ⟨hloss', (LawProofs.step_serves h).run hrun, hzero'⟩

end Sys2Proof.ClockProofs
end

section
/-! PROOFS. The control requests short of Stop and Restart (R5 to R8, R15 to R18, R178, R179), what POWER_ON_RESET leaves (R4),
the judgement at intake (R44, R45) and the hand-over of what is due (R75). -/

namespace Sys2Proof.ControlProofs

open Sys2Proof Sys2Proof.Machine Sys2Proof.TableProofs Sys2Proof.StrikeProofs Sys2Proof.IntakeProofs Sys2Proof.ClockProofs

/-! ## Requests by their Length and the room for their Response (R5, R179) -/

section Requests

variable {s : State} {n : Nat} {p : List Byte} {invalid act : State → State}

/-- A request of a wrong Length is answered Invalid (R5). -/
theorem request_invalid (f : Frame) (hs : RequestTaken s) (h : p.length ≠ n) :
    deliver f (unlessFull (checkLength n p invalid act)) s = invalid (goodFrame s) := by
  rw [deliver_taken _ _ hs, checkLength, if_neg h]

/-- A request of its own Length is acted on. -/
theorem request_acts (f : Frame) (hs : RequestTaken s) (h : p.length = n) :
    deliver f (unlessFull (checkLength n p invalid act)) s = act (goodFrame s) := by
  rw [deliver_taken _ _ hs, checkLength, if_pos h]

/-- With 16 Responses pending a request is discarded (R179). -/
theorem request_discarded (f : Frame) (hs : AtFrame s) (h : 16 ≤ s.link.responses.length) :
    deliver f (unlessFull act) s = goodFrame s := by
  have hfull : ¬(goodFrame s).link.responses.length < 16 := by simpa [goodFrame] using h
  rw [deliver_atFrame f _ hs, unlessFull, if_neg hfull]

end Requests

/-- Wrong Lengths (R5, R33, R36, R158, R180). -/
theorem wrongLength_invalid {s : State} (tag : Byte) (p : List Byte) (hs : RequestTaken s) :
    (p.length ≠ 8 → exec (.configure tag p) s = .next (answered ⟨0x10, tag, .invalid, .plain⟩ s)) ∧
    (p ≠ [] →
      exec (.start tag p) s = .next (answered ⟨0x11, tag, .invalid, .plain⟩ s) ∧
      exec (.hold tag p) s = .next (answered ⟨0x12, tag, .invalid, .plain⟩ s) ∧
      exec (.resume tag p) s = .next (answered ⟨0x13, tag, .invalid, .plain⟩ s) ∧
      exec (.stop tag p) s = .next (answered ⟨0x14, tag, .invalid, .flush s.queue.lastFlush⟩ s) ∧
      exec (.restart tag p) s = .next (answered ⟨0x15, tag, .invalid, .plain⟩ s) ∧
      exec (.clearErrors tag p) s = .next (answered ⟨0x16, tag, .invalid, .plain⟩ s) ∧
      exec (.clockLatch tag p) s = .next (answered ⟨0x18, tag, .invalid, .clock 0⟩ s)) ∧
    (p.length ≠ 4 → exec (.clockSet tag p) s = .next (answered ⟨0x17, tag, .invalid, .plain⟩ s)) ∧
    (p.length ≠ 3 → exec (.tableRead tag p) s = .next (answered ⟨0x21, tag, .invalid, .read 0 0⟩ s)) ∧
    (p.length ≠ 2 → exec (.calibrateQuick tag p) s = .next (answered ⟨0x22, tag, .invalid, .plain⟩ s)) ∧
    (p.length ≠ 7 → exec (.calibrateSweep tag p) s = .next (answered ⟨0x23, tag, .invalid, .plain⟩ s)) := by
  refine ⟨fun h => ?_, fun h => ?_, fun h => ?_, fun h => ?_, fun h => ?_, fun h => ?_⟩
  · exact congrArg _ (request_invalid _ hs h)
  · have hlen : p.length ≠ 0 := by simpa using h
    refine ⟨?_, ?_, ?_, ?_, ?_, ?_, ?_⟩ <;> exact congrArg _ (request_invalid _ hs hlen)
  · exact congrArg _ (request_invalid _ hs h)
  · refine congrArg _ ((deliver_taken _ _ hs).trans ?_)
    rw [readTable, if_pos h]
    rfl
  · exact congrArg _ (request_invalid _ hs h)
  · exact congrArg _ (request_invalid _ hs h)

/-- A request met while 16 Responses are pending (R179; log entry 7). -/
theorem requestFrames_discarded {s : State} {c : Instr} {tag kind : Byte} {p : List Byte} (hs : AtFrame s)
    (h : 16 ≤ s.link.responses.length) (hc : c ∈ requestFrames tag kind p) : exec c s = .next (goodFrame s) := by
  have discarded (f : Frame) (act : State → State) : Host.Outcome.next (deliver f (unlessFull act) s) =
      (.next (goodFrame s) : Out) := congrArg _ (request_discarded f hs h)
  simp only [requestFrames, List.mem_cons, List.not_mem_nil, or_false] at hc
  rcases hc with rfl | rfl | rfl | rfl | rfl | rfl | rfl | rfl | rfl | rfl | rfl | rfl | rfl | rfl <;>
    exact discarded _ _

/-! ## Requests by the part state -/

section Taken

variable {s : State} {tag : Byte} (hs : RequestTaken s)

include hs

theorem exec_configure_taken {p : List Byte} (h : p.length = 8) :
    exec (.configure tag p) s = .next (doConfigure tag p (goodFrame s)) := congrArg _ (request_acts _ hs h)

theorem exec_start_taken : exec (.start tag []) s = .next (doStart tag (goodFrame s)) :=
  congrArg _ (request_acts _ hs rfl)

theorem exec_hold_taken : exec (.hold tag []) s = .next (doHold tag (goodFrame s)) :=
  congrArg _ (request_acts _ hs rfl)

theorem exec_resume_taken : exec (.resume tag []) s = .next (doResume tag (goodFrame s)) :=
  congrArg _ (request_acts _ hs rfl)

theorem exec_stop_taken : exec (.stop tag []) s = .next (doStop tag (goodFrame s)) :=
  congrArg _ (request_acts _ hs rfl)

theorem exec_restart_taken : exec (.restart tag []) s = .next (doRestart tag (goodFrame s)) :=
  congrArg _ (request_acts _ hs rfl)

theorem exec_clockSet_taken {p : List Byte} (h : p.length = 4) :
    exec (.clockSet tag p) s = .next (doClockSet tag p (goodFrame s)) := congrArg _ (request_acts _ hs h)

end Taken

/-- What each request comes to in each part state, where it is refused or nothing is to be done (R6 to R9, R16, R18). -/
theorem refusals_by_part {s : State} (tag : Byte) {p4 p8 : List Byte} (hs : RequestTaken s) (h4 : p4.length = 4)
    (h8 : p8.length = 8) :
    let reply := fun (kind : Byte) (code : RespCode) => answered ⟨kind, tag, code, .plain⟩ s
    (s.clock.part = .unconfigured →
      exec (.start tag []) s = .next (reply 0x11 .notConfigured) ∧
      exec (.hold tag []) s = .next (reply 0x12 .notConfigured) ∧
      exec (.resume tag []) s = .next (reply 0x13 .notConfigured) ∧
      exec (.stop tag []) s = .next (answered ⟨0x14, tag, .notConfigured, .flush s.queue.lastFlush⟩ s) ∧
      exec (.clockSet tag p4) s = .next (reply 0x17 .notConfigured)) ∧
    (s.clock.part = .stopped →
      exec (.hold tag []) s = .next (reply 0x12 .busy) ∧ exec (.resume tag []) s = .next (reply 0x13 .busy)) ∧
    (inPerformance s = true ∨ s.clock.part = .faulted →
      exec (.configure tag p8) s = .next (reply 0x10 .busy) ∧ exec (.start tag []) s = .next (reply 0x11 .busy) ∧
      exec (.clockSet tag p4) s = .next (reply 0x17 .busy)) ∧
    (s.clock.part = .faulted →
      exec (.hold tag []) s = .next (reply 0x12 .busy) ∧ exec (.resume tag []) s = .next (reply 0x13 .busy)) ∧
    (s.clock.part = .held → exec (.hold tag []) s = .next (reply 0x12 .done)) ∧
    (s.clock.part = .running → exec (.resume tag []) s = .next (reply 0x13 .done)) := by
  intro reply
  have part : (goodFrame s).clock.part = s.clock.part := rfl
  rw [exec_start_taken hs, exec_hold_taken hs, exec_resume_taken hs, exec_stop_taken hs, exec_clockSet_taken hs h4,
    exec_configure_taken hs h8]
  unfold doStart doHold doResume doStop doClockSet doConfigure
  rw [part]
  refine ⟨fun h => ?_, fun h => ?_, fun h => ?_, fun h => ?_, fun h => ?_, fun h => ?_⟩
  · rw [h]; exact ⟨rfl, rfl, rfl, rfl, rfl⟩
  · rw [h]; exact ⟨rfl, rfl⟩
  · rw [inPerformance_iff] at h
    rcases h with (h | h) | h <;> rw [h] <;> exact ⟨rfl, rfl, rfl⟩
  · rw [h]; exact ⟨rfl, rfl⟩
  · rw [h]; rfl
  · rw [h]; rfl

/-- Settles O31: what is not taken is answered, or discarded for want of room. -/
theorem requestsNotTaken : Obligations.RequestsNotTaken := by
  refine ⟨fun s tag p hs => wrongLength_invalid tag p hs, fun s tag kind p hs => ⟨fun h => ?_, fun h c hc => ?_⟩,
    fun s tag p4 p8 hs h4 h8 => refusals_by_part tag hs h4 h8⟩
  · exact congrArg _ (deliver_taken _ _ ⟨hs, h⟩)
  · exact requestFrames_discarded hs h hc

/-! ## Configure and Start (R6, R7) -/

/-- The fields of a Configure payload, each brought into range (R6). -/
theorem configFields_bytes (ce re l1 l0 sd park trim tr : Byte) :
    configFields [ce, re, l1, l0, sd, park, trim, tr] =
      ⟨decide (ce ≠ 0), decide (re ≠ 0), min (l1.toNat * 256 + l0.toNat) 5000, sd.toNat, park.toNat, decide (trim ≠ 0),
        max (-12) (min tr.toInt 12)⟩ := by
  have zero (b : Byte) : decide (b.toNat ≠ 0) = decide (b ≠ 0) :=
    decide_eq_decide.mpr (not_congr (BitVec.toNat_inj (y := 0)))
  have hlate := clampNat_eq 0 5000 (l1.toNat * 256 + l0.toNat) (by omega)
  have htr := clampInt_eq (-12) 12 (BitVec.ofNat 8 tr.toNat).toInt (by omega)
  rw [BitVec.ofNat_toNat, BitVec.setWidth_eq] at htr
  have hmax : max 0 (min (l1.toNat * 256 + l0.toNat) 5000) = min (l1.toNat * 256 + l0.toNat) 5000 := by omega
  simp only [configFields, signed8, byteAt, word16, List.getD_cons_zero, List.getD_cons_succ, zero, hlate, hmax]
  rw [← htr, BitVec.ofNat_toNat, BitVec.setWidth_eq]

/-- Settles O32: Configure replaces the record, Start goes through its checks in order. -/
theorem configureAndStartAreTaken : Obligations.ConfigureAndStartAreTaken := by
  refine ⟨fun s tag ce re l1 l0 sd park trim tr hs hp => ?_, fun s tag hs hp => ?_⟩
  · have part : (goodFrame s).clock.part = s.clock.part := rfl
    rw [exec_configure_taken hs rfl, doConfigure, part, ← configFields_bytes]
    rcases hp with hp | hp <;> rw [hp] <;> rfl
  · have part : (goodFrame s).clock.part = .stopped := hp
    rw [exec_start_taken hs, doStart, part]
    refine congrArg _ ?_
    change (if s.run.isSome = true then _ else _) = if s.run.isSome = true then _ else _
    refine if_congr Iff.rfl rfl ?_
    exact if_congr Iff.rfl rfl rfl

/-! ## Clear Errors, Clock Set and Clock Latch (R15 to R17) -/

/-- Settles O37: the flags after it are those of a state with none set. -/
theorem clearErrorsIsTaken : Obligations.ClearErrorsIsTaken :=
  fun _ _ hs => congrArg _ (request_acts _ hs rfl)

/-- Settles O38: Clock Set goes by the part state, Clock Latch reads PT. -/
theorem clockIsSetAndLatched : Obligations.ClockIsSetAndLatched := by
  refine ⟨fun s tag b3 b2 b1 b0 hs => ?_, fun s tag hs => congrArg _ (request_acts _ hs rfl)⟩
  have part : (goodFrame s).clock.part = s.clock.part := rfl
  have hpt : bits32 [b3, b2, b1, b0] 0 = b3 ++ b2 ++ b1 ++ b0 := ofNat_four_bytes b3 b2 b1 b0
  rw [exec_clockSet_taken hs rfl, doClockSet, part]
  cases s.clock.part with
  | stopped =>
    simp only [hpt]
    rfl
  | unconfigured | running | held | faulted => rfl

/-! ## The judgement at intake (R44, R45) -/

/-- The lateness of an action placed before its target, by the distance of the target ahead of now (R2, R44). -/
theorem placementLateness_eq (now t : PT) (u : Nat) :
    placementLateness now t u =
      if 2147483648 < (t - now).toNat then some ((now - t).toNat + u)
      else if u ≤ (t - now).toNat then none
      else some (u - (t - now).toNat) := by
  have he := earlier_eq_false_iff t now
  unfold placementLateness latenessOf
  cases hc : earlier t now with
  | true =>
    have hpast : 2147483648 < (t - now).toNat := by
      rw [hc] at he
      simpa using he
    rw [if_pos rfl, if_pos hpast]
  | false =>
    have hahead : ¬2147483648 < (t - now).toNat := Nat.not_lt.mpr (he.mp hc)
    rw [if_neg Bool.false_ne_true, if_neg hahead]

/-- A target ahead of now but nearer than the lead is late by the lateness of its planned time (R44). -/
theorem lateness_of_planned {now t : PT} {u : Nat} (hu : u ≤ 6554) (hd : (t - now).toNat < u) :
    u - (t - now).toNat = (now - before t u).toNat := by
  have hs : (BitVec.ofNat 32 u).toNat = u := by rw [BitVec.toNat_ofNat]; omega
  unfold before
  generalize BitVec.ofNat 32 u = v at *
  bv_omega

/-- Settles O18: the lateness is that of R44's three cases, and the judgement and the placement follow it. -/
theorem intakeIsJudged : Obligations.IntakeIsJudged := by
  refine ⟨fun a b u => ⟨?_, ?_, rfl, ptUnits_eq_floor u⟩, ?_⟩
  · simp [earlier]
  · rw [isDue, Bool.or_eq_true, beq_iff_eq, or_comm]
  intro now t u limit hu d past late
  refine ⟨?_, ?_, ?_⟩
  · unfold judgeIntake
    rw [placementLateness_eq]
    by_cases hp : past
    · rw [if_pos hp, if_neg (fun h => h.1 hp)]
      simp only [late, if_pos hp]
    · by_cases hd : u ≤ d
      · rw [if_neg hp, if_pos hd, if_pos ⟨hp, hd⟩]
      · rw [if_neg hp, if_neg hd, if_neg (fun h => hd h.2)]
        simp only [late, if_neg hp, if_neg hd, d]
  · intro hp hd
    simp only [late, if_neg hp, if_neg (Nat.not_le.mpr hd)]
    exact lateness_of_planned hu hd
  · unfold placed
    rw [placementLateness_eq]
    by_cases hp : past
    · rw [if_pos hp, if_neg (fun h => h.1 hp)]
    · by_cases hd : u ≤ d
      · rw [if_neg hp, if_pos hd, if_pos ⟨hp, hd⟩]
      · rw [if_neg hp, if_neg hd, if_neg (fun h => hd h.2)]

/-! ## Power-on reset (R4) -/

/-- Settles O22: each block holds what its default states. -/
theorem powerOnResetLeaves : Obligations.PowerOnResetLeaves := by
  intro r q s
  refine ⟨_, rfl, rfl, rfl, rfl, rfl, rfl, rfl, rfl, rfl, fun k => ⟨?_, ?_, ?_⟩, fun p => ?_, rfl, rfl, rfl, fun k => ?_,
    rfl, fun k => ⟨?_, ?_⟩, rfl, rfl, fun p => ⟨?_, ?_⟩, rfl, rfl, rfl, rfl, rfl, rfl, rfl, rfl, rfl, rfl⟩
  · change (Vector.replicate 88 defaultCal)[k] = _
    rw [Fin.getElem_fin, Vector.getElem_replicate]
    rfl
  · exact defaultKeyMap_channel q k
  · change ((defaultKeyMap q)[k]).role = _
    rw [defaultKeyMap, Fin.getElem_fin, Vector.getElem_ofFn]
    cases q <;> rfl
  · change (Vector.replicate 3 defaultPedal)[p] = _
    rw [Fin.getElem_fin, Vector.getElem_replicate]
    rfl
  · change (Vector.replicate 88 IntakeRecord.clear)[k] = _
    rw [Fin.getElem_fin, Vector.getElem_replicate]
    rfl
  · exact Vector.getElem_replicate _
  · exact Vector.getElem_replicate _
  · change (Vector.replicate 3 PedalReplay.clear)[p] = _
    rw [Fin.getElem_fin, Vector.getElem_replicate]
    rfl
  · change (Vector.replicate 3 PedalCapture.clear)[p] = _
    rw [Fin.getElem_fin, Vector.getElem_replicate]
    rfl

/-! ## The hand-over of what is due (R75, R77, R78) -/

/-- How often an action can still be handed over: a strike until its 17th return, any other once (R75, R79). -/
def handOversLeft (a : Action) : Nat :=
  match a.body with
  | .strike st _ => 17 - min 16 st.deferrals
  | _ => 1

/-- How often the actions of a queue can still be handed over. -/
def queueLeft (as : List Action) : Nat := (as.map handOversLeft).sum

theorem handOversLeft_bounds (a : Action) : 1 ≤ handOversLeft a ∧ handOversLeft a ≤ 17 := by
  unfold handOversLeft
  split <;> omega

theorem queueLeft_le (as : List Action) : queueLeft as ≤ 17 * as.length := by
  induction as with
  | nil => simp [queueLeft]
  | cons a as ih =>
    have := (handOversLeft_bounds a).2
    simp only [queueLeft, List.map_cons, List.sum_cons, List.length_cons] at ih ⊢
    omega

theorem queueLeft_insert (pt : PT) (a : Action) (as : List Action) :
    queueLeft (insertAction pt a as) = handOversLeft a + queueLeft as := by
  have h := ((insertAction_perm pt a as).map handOversLeft).sum_eq
  simpa [queueLeft] using h

/-- A hand-over leaves one hand-over fewer: what it returns to the queue has been deferred once more (R78, R79). -/
theorem queueLeft_handOver (a : Action) (s : State) :
    queueLeft (handOver a s).queue.actions + 1 ≤ handOversLeft a + queueLeft s.queue.actions := by
  have once := (handOversLeft_bounds a).1
  have same {t : State} (h : t.queue = s.queue) :
      queueLeft t.queue.actions + 1 ≤ handOversLeft a + queueLeft s.queue.actions := by rw [h]; omega
  unfold handOver
  split
  · next st own hbody =>
    split
    · split
      · exact same (takeStrike_queue _ _ s)
      · rcases deferStrike_cases a st own s with h | ⟨hlt, h⟩ <;> rw [h]
        · exact same (addReport_queue _ s)
        · rw [queueLeft_insert]
          simp only [handOversLeft, hbody]
          omega
    · exact same (addReport_queue _ s)
  · exact same (releaseKey_queue _ s)
  · exact same (pedalAction_queue _ _ s)

/-- The head of the queue is due in Running. -/
def HeadDue (s : State) (a : Action) (rest : List Action) : Prop :=
  s.queue.actions = a :: rest ∧ s.clock.part = .running ∧ isDue s.clock.pt a.time = true

/-- The hand-over goes on from the head while it is due. -/
theorem handOverDue_step {s : State} {a : Action} {rest : List Action} (h : HeadDue s a rest) (n : Nat) :
    handOverDue (n + 1) s = handOverDue n (handOver a { s with queue := { s.queue with actions := rest } }) := by
  obtain ⟨hq, hp, hd⟩ := h
  simp only [handOverDue, hq]
  exact if_pos ⟨hp, hd⟩

theorem noneDue_or_headDue (s : State) : NoneDue s ∨ ∃ a rest, HeadDue s a rest := by
  unfold NoneDue HeadDue
  cases hq : s.queue.actions with
  | nil => exact .inl fun _ a ha => by cases ha
  | cons a rest =>
    by_cases h : s.clock.part = .running ∧ isDue s.clock.pt a.time = true
    · exact .inr ⟨a, rest, rfl, h⟩
    · refine .inl fun hp b hb => ?_
      cases hb
      exact Bool.eq_false_iff.mpr fun hd => h ⟨hp, hd⟩

theorem queueLeft_step {s : State} {a : Action} {rest : List Action} (h : HeadDue s a rest) :
    queueLeft (handOver a { s with queue := { s.queue with actions := rest } }).queue.actions <
      queueLeft s.queue.actions := by
  have := queueLeft_handOver a { s with queue := { s.queue with actions := rest } }
  rw [h.1]
  simp only [queueLeft, List.map_cons, List.sum_cons] at this ⊢
  omega

/-- A bound that covers the hand-overs left plays no part, and nothing is due behind them (R75). -/
theorem handOverDue_bound (n : Nat) (s : State) (hn : queueLeft s.queue.actions ≤ n) :
    NoneDue (handOverDue n s) ∧ ∀ m, queueLeft s.queue.actions ≤ m → handOverDue n s = handOverDue m s := by
  induction n generalizing s with
  | zero =>
    rcases noneDue_or_headDue s with h | ⟨a, rest, h⟩
    · exact ⟨h, fun m _ => (handOverDue_none m s h).symm⟩
    · have hlt := queueLeft_step h
      omega
  | succ n ih =>
    rcases noneDue_or_headDue s with h | ⟨a, rest, h⟩
    · rw [handOverDue_none _ s h]
      exact ⟨h, fun m _ => (handOverDue_none m s h).symm⟩
    · have hlt := queueLeft_step h
      rw [handOverDue_step h]
      obtain ⟨hnone, hsame⟩ := ih (handOver a { s with queue := { s.queue with actions := rest } }) (by omega)
      refine ⟨hnone, fun m hm => ?_⟩
      cases m with
      | zero => omega
      | succ m =>
        rw [handOverDue_step h]
        exact hsame m (by omega)

theorem dueNow_noneDue (s : State) : NoneDue (dueNow s) := (handOverDue_bound _ s (queueLeft_le _)).1

/-- The head that is due is handed over, and the rest follows (R75). -/
theorem dueNow_step {s : State} {a : Action} {rest : List Action} (h : HeadDue s a rest) :
    dueNow s = dueNow (handOver a { s with queue := { s.queue with actions := rest } }) := by
  have hbound := queueLeft_le s.queue.actions
  have hlt := queueLeft_step h
  unfold dueNow
  rw [(handOverDue_bound _ s hbound).2 _ hbound.step, handOverDue_step h]
  exact ((handOverDue_bound _ _ (queueLeft_le _)).2 _ (by omega)).symm

theorem noneDue_of_fields {s t : State} (h : NoneDue s) (hc : t.clock = s.clock) (hq : t.queue = s.queue) : NoneDue t := by
  unfold NoneDue
  rw [hc, hq]
  exact h

/-- Nothing is due behind the taking of rail commands that follows the hand-over. -/
theorem handedOver_noneDue (s : State) : NoneDue (railService (dueNow s)) :=
  noneDue_of_fields (dueNow_noneDue s) (outer_clock (railService_outer _)) (railService_queue _)

theorem handedOver_frame (s : State) :
    SameBase s (railService (dueNow s)) ∧ (railService (dueNow s)).clock = s.clock := by
  have h := (outer_eq_iff s (railService (dueNow s))).mp ((railService_outer _).trans (dueNow_outer s))
  exact ⟨h.1, h.2.1⟩

/-- In Held nothing is handed over (R77). -/
theorem handedOver_held {s : State} (h : s.clock.part = .held) : (railService (dueNow s)).queue = s.queue := by
  rw [railService_queue, dueNow_none s fun hr => absurd (h.symm.trans hr) (by simp)]

/-- The intake of a performance event leaves the clock alone. -/
theorem taken_clock {s taken : State} {tag : Byte} {p : List Byte} {c : Instr}
    (h : (∃ f, c = .noteOn tag p ∧ noteOnFields? p = some f ∧ taken = intakeNoteOn f s) ∨
      (∃ f, c = .noteOff tag p ∧ noteOffFields? p = some f ∧ taken = intakeNoteOff f.1 f.2 s) ∨
      (∃ f, c = .pedalTarget tag p ∧ pedalTargetFields? p = some f ∧ taken = intakePedal f s)) :
    taken.clock = s.clock := by
  rcases h with ⟨f, _, _, rfl⟩ | ⟨f, _, _, rfl⟩ | ⟨f, _, _, rfl⟩
  · exact outer_clock (intakeNoteOn_outer f s)
  · exact outer_clock (intakeNoteOff_outer f.1 f.2 s)
  · exact outer_clock (intakePedal_outer f s)

/-- A performance event met at a frame in Running or Held is taken in, and what is due handed over (R57, R75). -/
theorem exec_event_taken {s taken : State} {tag : Byte} {p : List Byte} {c : Instr} (hs : AtFrame s)
    (hp : inPerformance s = true)
    (h : (∃ f, c = .noteOn tag p ∧ noteOnFields? p = some f ∧ taken = intakeNoteOn f (goodFrame s)) ∨
      (∃ f, c = .noteOff tag p ∧ noteOffFields? p = some f ∧ taken = intakeNoteOff f.1 f.2 (goodFrame s)) ∨
      (∃ f, c = .pedalTarget tag p ∧ pedalTargetFields? p = some f ∧ taken = intakePedal f (goodFrame s))) :
    exec c s = .next (railService (dueNow taken)) := by
  rcases h with ⟨f, rfl, hf, rfl⟩ | ⟨f, rfl, hf, rfl⟩ | ⟨f, rfl, hf, rfl⟩
  · rw [exec_noteOn, hf]
    exact congrArg _ (deliver_event _ (intakeNoteOn f) hs hp)
  · rw [exec_noteOff, hf]
    exact congrArg _ (deliver_event _ (intakeNoteOff f.1 f.2) hs hp)
  · rw [exec_pedalTarget, hf]
    exact congrArg _ (deliver_event _ (intakePedal f) hs hp)

/-- Settles O23: the bound on the hand-overs plays no part, and the rail's service leaves clock and queue. -/
theorem dueActionsAreHandedOver : Obligations.DueActionsAreHandedOver := by
  refine ⟨fun s => ⟨fun a rest hq hp hd => dueNow_step ⟨hq, hp, hd⟩, dueNow_none s, dueNow_noneDue s⟩,
    fun s => ⟨fun hp ht => ?_, fun h => ?_⟩, fun s tag p c taken hs hperf => ?_⟩
  · intro e
    refine ⟨?_, handedOver_noneDue e, handedOver_frame e⟩
    exact congrArg _ (if_pos (decide_eq_true ⟨hp, ht⟩))
  · refine congrArg _ (if_neg ?_)
    rw [tickDue, decide_eq_true_eq]
    rintro ⟨hp, ht⟩
    exact h.elim (fun hne => hne hp) fun hlt => by omega
  · intro e h
    refine ⟨exec_event_taken hs hperf h, handedOver_noneDue taken, fun hheld => handedOver_held ?_⟩
    rw [taken_clock h]
    exact hheld

/-! ## Hold and Resume (R8, R18) -/

/-- Settles O33: Hold clears trim eligibility; Resume hands over what is due at the frozen PT. -/
theorem holdAndResumeAreTaken : Obligations.HoldAndResumeAreTaken := by
  refine fun s tag hs => ⟨fun hp => ?_, fun hp => ?_⟩
  · have part : (goodFrame s).clock.part = .running := hp
    rw [exec_hold_taken hs, doHold, part]
    rfl
  · intro e t
    have part : (goodFrame s).clock.part = .held := hp
    refine ⟨?_, handedOver_noneDue e, (handedOver_frame e).1, (handedOver_frame e).2, fun h => dueNow_after h⟩
    rw [exec_resume_taken hs, doResume, part]
    rfl

end Sys2Proof.ControlProofs
end

section
/-! PROOFS. The envelope of a frame and its Check (R172), what a receiver finds at the byte where a frame must begin, the receiver
of PLIN in Hunt, Verify and Locked (R173 to R177), and the command of each Kind (R178). -/

namespace Sys2Proof.ReceiverProofs

open Sys2Proof Sys2Proof.Machine Sys2Proof.ClockProofs

/-! ## The Check (R172) -/

/-- One step of the division: the next bit of the message against the highest bit of the remainder. -/
def divide (x : BitVec 16) (bit : Bool) : BitVec 16 :=
  if x.msb = bit then x <<< 1 else (x <<< 1) ^^^ 0x1021#16

/-- The bits of a byte, most significant first. -/
def msbFirst (b : Byte) : List Bool := (List.range 8).map b.getMsbD

/-- The division bit by bit over the bytes. -/
def bitCheck (bytes : List Byte) : BitVec 16 := (bytes.flatMap msbFirst).foldl divide 0xFFFF#16

/-- A bit of the message enters the division by the highest bit of a word added to the remainder. -/
theorem crcBit_xor (x w : BitVec 16) : crcBit (x ^^^ w) = divide x w.msb ^^^ (w <<< 1) := by
  unfold crcBit divide
  rw [BitVec.msb_xor, BitVec.shiftLeft_xor_distrib]
  generalize x <<< 1 = y, w <<< 1 = z
  cases x.msb <;> cases w.msb <;> simp [BitVec.xor_assoc, BitVec.xor_comm z]

theorem crcBits_xor (n : Nat) (x w : BitVec 16) :
    crcBits n (x ^^^ w) = ((List.range n).map w.getMsbD).foldl divide x ^^^ (w <<< n) := by
  induction n generalizing x w with
  | zero => simp [crcBits]
  | succ n ih =>
    have bits : (List.range n).map (w <<< 1).getMsbD = (List.range n).map fun i => w.getMsbD (i + 1) :=
      List.map_congr_left fun i _ => BitVec.getMsbD_shiftLeft w 1
    rw [crcBits, crcBit_xor, ih, bits, List.range_succ_eq_map, List.map_cons, List.foldl_cons, List.map_map,
      BitVec.msb, ← BitVec.shiftLeft_add, Nat.add_comm 1 n]
    rfl

/-- A byte's bits are those of its word, moved to the top of the remainder. -/
theorem crcByte_eq (x : BitVec 16) (b : Byte) : crcByte x b = (msbFirst b).foldl divide x := by
  have bits : (List.range 8).map (b.setWidth 16 <<< 8).getMsbD = msbFirst b := by
    refine List.map_congr_left fun i hi => ?_
    have hi : i < 8 := List.mem_range.mp hi
    rw [BitVec.getMsbD_shiftLeft, BitVec.getMsbD_setWidth]
    simp [show 8 ≤ i + 8 by omega]
  have gone : (b.setWidth 16 <<< 8) <<< 8 = 0#16 := by
    rw [← BitVec.shiftLeft_add]
    exact BitVec.shiftLeft_eq_zero (by omega)
  rw [crcByte, crcBits_xor, bits, gone, BitVec.xor_zero]

theorem crc16_eq (bytes : List Byte) : crc16 bytes = bitCheck bytes := by
  unfold crc16 bitCheck
  generalize 0xFFFF#16 = x
  induction bytes generalizing x with
  | nil => rfl
  | cons b bytes ih => rw [List.foldl_cons, List.flatMap_cons, List.foldl_append, ← crcByte_eq, ih]

/-- A word of two bytes as it goes on a line, most significant byte first. -/
theorem bytes16_extract (v : BitVec 16) : bytes16 v = [v.extractLsb' 8 8, v.extractLsb' 0 8] := by
  simp only [bytes16, List.cons.injEq, and_true]
  constructor <;> ext i hi <;> simp

theorem bytes16_eq_iff (v : BitVec 16) (high low : Byte) : [high, low] = bytes16 v ↔ v = high ++ low := by
  constructor
  · intro h
    rw [bytes16_extract] at h
    simp only [List.cons.injEq, and_true] at h
    obtain ⟨rfl, rfl⟩ := h
    ext i hi
    rw [BitVec.getElem_append]
    split
    · simp [BitVec.getLsbD_eq_getElem hi]
    · simp only [BitVec.getElem_extractLsb']
      congr 1
      omega
  · rintro rfl
    exact (SensorLinkProofs.bytes16_append high low).symm

/-! ## What stands at the byte where a frame must begin (R172 to R176) -/

theorem judge_noSync {first second : Byte} (h : ¬(first = syncFirst ∧ second = syncSecond)) (rest : List Byte) :
    judge (first :: second :: rest) = .noSync := if_neg h

theorem judge_short {rest : List Byte} (h : rest.length < 3) : judge (syncFirst :: syncSecond :: rest) = .needMore := by
  match rest, h with
  | [], _ | [_], _ | [_, _], _ => simp [judge]

/-- The judgement of bytes that begin with a Sync, from the Tag on. -/
theorem judge_sync (kind len tag : Byte) (body : List Byte) :
    judge (syncFirst :: syncSecond :: kind :: len :: tag :: body) =
      if maxLength < len.toNat then .overLength
      else if body.length < len.toNat + 2 then .needMore
      else if (body.drop len.toNat).take 2 = bytes16 (crc16 (kind :: len :: tag :: body.take len.toNat)) then
        .good ⟨kind, tag, body.take len.toNat⟩ ((body.drop len.toNat).drop 2)
      else .badCheck ((body.drop len.toNat).drop 2) :=
  if_pos (c := syncFirst = syncFirst ∧ syncSecond = syncSecond) (e := .noSync) ⟨rfl, rfl⟩

/-- The judgement of a whole frame: its Check decides. -/
theorem judge_whole {len : Byte} {payload : List Byte} (kind tag high low : Byte) (rest : List Byte)
    (hlen : len.toNat ≤ maxLength) (hp : payload.length = len.toNat) :
    judge (syncFirst :: syncSecond :: kind :: len :: tag :: (payload ++ high :: low :: rest)) =
      if crc16 (kind :: len :: tag :: payload) = high ++ low then .good ⟨kind, tag, payload⟩ rest
      else .badCheck rest := by
  have htake : (payload ++ high :: low :: rest).take len.toNat = payload := by rw [← hp, List.take_left]
  have hdrop : (payload ++ high :: low :: rest).drop len.toNat = high :: low :: rest := by rw [← hp, List.drop_left]
  have hfull : ¬(payload ++ high :: low :: rest).length < len.toNat + 2 := by
    simp only [List.length_append, List.length_cons]
    omega
  rw [judge_sync, if_neg (Nat.not_lt.mpr hlen), if_neg hfull, htake, hdrop]
  exact if_congr (bytes16_eq_iff _ high low) rfl rfl

/-- A frame as it stands on a link, byte by byte (R172). -/
theorem encodeFrame_eq (f : Frame) :
    encodeFrame f =
      [syncFirst, syncSecond] ++ checkedBytes f ++
        [(bitCheck (checkedBytes f)).extractLsb' 8 8, (bitCheck (checkedBytes f)).extractLsb' 0 8] := by
  rw [encodeFrame, bytes16_extract, crc16_eq]
  rfl

/-- A frame that stands whole is found good, whatever stands behind it (R172). -/
theorem judge_encodeFrame {f : Frame} (hf : f.payload.length ≤ 124) (rest : List Byte) :
    judge (encodeFrame f ++ rest) = .good f rest := by
  have hlen : (BitVec.ofNat 8 f.payload.length).toNat = f.payload.length := by
    rw [BitVec.toNat_ofNat]
    omega
  generalize hcrc : crc16 (checkedBytes f) = v
  have hbytes : encodeFrame f ++ rest =
      syncFirst :: syncSecond :: f.kind :: BitVec.ofNat 8 f.payload.length :: f.tag ::
        (f.payload ++ v.extractLsb' 8 8 :: v.extractLsb' 0 8 :: rest) := by
    rw [encodeFrame, hcrc, bytes16_extract]
    simp [checkedBytes]
  rw [hbytes, judge_whole _ _ _ _ rest (by rw [hlen]; exact hf) hlen.symm, if_pos]
  rw [← bytes16_eq_iff, bytes16_extract]
  exact congrArg (fun v => [BitVec.extractLsb' 8 8 v, BitVec.extractLsb' 0 8 v]) hcrc.symm

/-- A frame found with a wrong Check is whole: its bytes, and those behind it. -/
theorem judge_badCheck_inv {bytes rest : List Byte} (h : judge bytes = .badCheck rest) :
    ∃ (kind len tag high low : Byte) (payload : List Byte), len.toNat ≤ maxLength ∧ payload.length = len.toNat ∧
      bytes = syncFirst :: syncSecond :: kind :: len :: tag :: (payload ++ high :: low :: rest) ∧
      crc16 (kind :: len :: tag :: payload) ≠ high ++ low := by
  match bytes with
  | [] | [_] => cases h
  | b0 :: b1 :: more =>
    by_cases hsync : b0 = syncFirst ∧ b1 = syncSecond
    · obtain ⟨rfl, rfl⟩ := hsync
      match more with
      | [] | [_] | [_, _] =>
        rw [judge_short (by simp)] at h
        cases h
      | kind :: len :: tag :: body =>
        rw [judge_sync] at h
        split at h
        · cases h
        next hlen =>
        split at h
        · cases h
        next hfull =>
        split at h
        · cases h
        next hcheck =>
        have hdrop : 2 ≤ (body.drop len.toNat).length := by rw [List.length_drop]; omega
        obtain ⟨high, low, tail, htail⟩ : ∃ high low tail, body.drop len.toNat = high :: low :: tail := by
          match body.drop len.toNat, hdrop with
          | high :: low :: tail, _ => exact ⟨high, low, tail, rfl⟩
        rw [htail] at h hcheck
        obtain rfl : tail = rest := by simpa using h
        refine ⟨kind, len, tag, high, low, body.take len.toNat, Nat.not_lt.mp hlen, ?_, ?_, ?_⟩
        · rw [List.length_take]; omega
        · rw [← htail, List.take_append_drop]
        · exact fun hc => hcheck ((bytes16_eq_iff _ high low).mpr hc)
    · rw [judge_noSync hsync] at h
      cases h

/-- What stands behind a frame with a wrong Check leaves it that frame. -/
theorem judge_badCheck_append {bytes : List Byte} (h : judge bytes = .badCheck []) (rest : List Byte) :
    judge (bytes ++ rest) = .badCheck rest := by
  obtain ⟨kind, len, tag, high, low, payload, hlen, hp, rfl, hcheck⟩ := judge_badCheck_inv h
  have := judge_whole kind tag high low rest hlen hp
  rw [if_neg hcheck] at this
  simpa using this

/-- A byte that begins no Sync decides nothing only while it stands alone. -/
theorem judge_needMore_alone {b : Byte} {bytes : List Byte} (h : judge (b :: bytes) = .needMore) (hb : b ≠ syncFirst) :
    bytes = [] := by
  cases bytes with
  | nil => rfl
  | cons c rest =>
    rw [judge_noSync fun hs => hb hs.1] at h
    cases h

/-! ## The commands of good frames (R178) -/

theorem kind_of_toNat {kind : Byte} {n : Nat} (hn : n < 256) (h : kind.toNat = n) : kind = BitVec.ofNat 8 n :=
  BitVec.eq_of_toNat_eq (by rw [h, BitVec.toNat_ofNat, Nat.mod_eq_of_lt hn])

/-- A frame of a Kind outside the first table of R178 is UNKNOWN. -/
theorem performanceCommand_unknown {kind tag : Byte} {p : List Byte} (h : kind ∉ knownKinds) :
    performanceCommand ⟨kind, tag, p⟩ = .unknown kind tag p := by
  have known {n : Nat} (hk : kind.toNat = n) (hlt : n < 256) (hn : BitVec.ofNat 8 n ∈ knownKinds) : False :=
    h (kind_of_toNat hlt hk ▸ hn)
  unfold performanceCommand
  simp only
  split
  case h_18 => rfl
  all_goals
    next hk => exact (known hk (by decide) (by decide)).elim

/-- The command of a good frame arrives as that frame: away from a frame in Locked its bytes go to the receiver (log
entry 6). -/
theorem exec_performanceCommand (f : Frame) :
    ∃ act, ∀ s, exec (performanceCommand f) s = .next (deliver f act s) := by
  obtain ⟨kind, tag, p⟩ := f
  unfold performanceCommand
  simp only
  split
  case h_18 => exact ⟨_, fun s => rfl⟩
  all_goals
    next hk =>
      obtain rfl := kind_of_toNat (by decide) hk
      exact ⟨_, fun s => rfl⟩

/-! ## The receiver in Hunt and Verify (R173, R174) -/

/-- A candidate rejected, or no candidate: scanning goes on from the byte after its first. -/
theorem huntScan_skip {b : Byte} {bytes rest : List Byte}
    (h : judge (b :: bytes) = .noSync ∨ judge (b :: bytes) = .overLength ∨ judge (b :: bytes) = .badCheck rest) :
    huntScan (b :: bytes) = huntScan bytes := by
  rcases h with h | h | h <;> rw [huntScan, h]

theorem huntScan_good {bytes rest : List Byte} {f : Frame} (h : judge bytes = .good f rest) :
    huntScan bytes = .found rest := by
  cases bytes with
  | nil => cases h
  | cons b bytes => rw [huntScan, h]

/-- A candidate not yet whole is kept; a byte alone that begins none is passed over. -/
theorem huntScan_needMore {b : Byte} {bytes : List Byte} (h : judge (b :: bytes) = .needMore) :
    huntScan (b :: bytes) = .waiting (if b = syncFirst then b :: bytes else []) := by
  rw [huntScan, h]
  simp only
  split
  · rfl
  · next hb =>
    rw [judge_needMore_alone h hb]
    rfl

section Feeding

variable {s : State} (hbuffer : s.link.buffer = [])

include hbuffer

/-- The bytes taken by a receiver with nothing taken before, examined under any bound that exceeds them. -/
theorem feed_empty (bytes : List Byte) (n : Nat) (hn : bytes.length < n) :
    feed bytes s = receive n { s with link := { s.link with buffer := bytes } } := by
  rw [feed_eq bytes s n (by simpa [hbuffer] using hn), hbuffer, List.nil_append]

theorem feed_locked (h : s.link.rx = .locked) (bytes : List Byte) :
    feed bytes s = { s with link := { s.link with buffer := bytes } } := by
  rw [feed_empty hbuffer bytes (bytes.length + 1) (Nat.lt_succ_self _), receive]
  simp only [h]

/-- One examination in Hunt. -/
theorem feed_hunt (h : s.link.rx = .hunt) (bytes : List Byte) :
    feed bytes s =
      match huntScan bytes with
      | .waiting kept => { s with link := { s.link with buffer := kept } }
      | .found rest => feed rest { s with link := { s.link with rx := .verify } } := by
  rw [feed_empty hbuffer bytes (bytes.length + 1) (Nat.lt_succ_self _), receive]
  simp only [h]
  cases hs : huntScan bytes with
  | waiting kept => rfl
  | found rest =>
    have hlen := huntScan_found_length hs
    exact (feed_empty (s := { s with link := { s.link with rx := .verify } }) hbuffer rest bytes.length hlen).symm

/-- One examination in Verify. -/
theorem feed_verify (h : s.link.rx = .verify) (bytes : List Byte) :
    feed bytes s =
      match judge bytes with
      | .needMore => { s with link := { s.link with buffer := bytes } }
      | .good _ rest => enterLocked rest s
      | _ => feed (bytes.drop 1) { s with link := { s.link with rx := .hunt } } := by
  have rejected (hne : judge bytes ≠ .needMore) :
      receive bytes.length { s with link := { s.link with rx := .hunt, buffer := bytes.drop 1 } } =
        feed (bytes.drop 1) { s with link := { s.link with rx := .hunt } } := by
    have hpos : 0 < bytes.length := List.length_pos_of_ne_nil fun hnil => hne (by rw [hnil]; rfl)
    refine (feed_empty (s := { s with link := { s.link with rx := .hunt } }) hbuffer _ bytes.length ?_).symm
    rw [List.length_drop]
    omega
  rw [feed_empty hbuffer bytes (bytes.length + 1) (Nat.lt_succ_self _), receive]
  simp only [h]
  cases hj : judge bytes with
  | needMore => rfl
  | good f rest => rfl
  | noSync | overLength | badCheck => exact rejected (by rw [hj]; simp)

end Feeding

/-- Bytes taken stand behind those not yet judged (log entry 6). -/
theorem feed_behind (bytes : List Byte) (s : State) :
    feed bytes s = feed (s.link.buffer ++ bytes) { s with link := { s.link with buffer := [] } } := by
  rw [feed_empty (s := { s with link := { s.link with buffer := [] } }) rfl _ _ (Nat.lt_succ_self _),
    feed_eq bytes s ((s.link.buffer ++ bytes).length + 1) (by simp)]

/-! ## Bad frames in Locked (R175, R176, R177) -/

/-- The receiver as it leaves Locked: in Hunt with nothing taken, the link-loss timer started in performance (R11, R177). -/
def hunting (s : State) : State :=
  { s with
    link := { s.link with rx := .hunt, badCount := 0, buffer := [] }
    clock :=
      { s.clock with linkLoss := if inPerformance s = true then some (s.localTime + 250000) else s.clock.linkLoss } }

theorem returnToHunt_eq (bytes : List Byte) (s : State) : returnToHunt bytes s = feed (bytes.drop 1) (hunting s) := by
  unfold returnToHunt leaveLocked hunting
  cases inPerformance s <;> rfl

theorem atFrame_iff (l : Link) : atFrame l = true ↔ l.rx = .locked ∧ l.buffer = [] := by
  simp [atFrame]

theorem isFramingError_iff (bytes : List Byte) :
    isFramingError bytes = true ↔ judge bytes = .noSync ∨ judge bytes = .overLength := by simp [isFramingError]

theorem exec_crcError_met {s : State} {bytes : List Byte} (hs : AtFrame s) (h : judge bytes = .badCheck []) :
    exec (.crcError bytes) s = .next (badCheckFrame bytes s) :=
  congrArg _ (if_pos (Bool.and_eq_true_iff.mpr ⟨(atFrame_iff _).mpr hs, decide_eq_true h⟩))

theorem exec_framingError_met {s : State} {bytes : List Byte} (hs : AtFrame s)
    (h : judge bytes = .noSync ∨ judge bytes = .overLength) :
    exec (.framingError bytes) s = .next (returnToHunt bytes { s with sticky := { s.sticky with framingError := true } }) :=
  congrArg _ (if_pos (Bool.and_eq_true_iff.mpr ⟨(atFrame_iff _).mpr hs, (isFramingError_iff bytes).mpr h⟩))

theorem exec_crcError_elsewhere {s : State} {bytes : List Byte} (h : ¬(AtFrame s ∧ judge bytes = .badCheck [])) :
    exec (.crcError bytes) s = .next (feed bytes s) := by
  refine congrArg _ (if_neg fun hc => h ?_)
  obtain ⟨hat, hbad⟩ := Bool.and_eq_true_iff.mp hc
  exact ⟨(atFrame_iff _).mp hat, of_decide_eq_true hbad⟩

theorem exec_framingError_elsewhere {s : State} {bytes : List Byte}
    (h : ¬(AtFrame s ∧ (judge bytes = .noSync ∨ judge bytes = .overLength))) :
    exec (.framingError bytes) s = .next (feed bytes s) := by
  refine congrArg _ (if_neg fun hc => h ?_)
  obtain ⟨hat, hbad⟩ := Bool.and_eq_true_iff.mp hc
  exact ⟨(atFrame_iff _).mp hat, (isFramingError_iff bytes).mp hbad⟩

/-- Settles O44: the envelope, the judgement of bytes, and one examination in each state of the receiver. -/
theorem receiverFollowsFrames : Obligations.ReceiverFollowsFrames := by
  refine ⟨fun kind tag p => ?commands, fun f rest hf => ?envelope,
    fun first second kind len tag high low payload rest => ?judgement, fun s f bytes hf => ?arrivals,
    fun s bytes => feed_behind bytes s, fun s bytes rest b f hbuffer => ?states, fun s bytes hs => ?bad⟩
  case commands =>
    exact ⟨rfl, rfl, rfl, rfl, rfl, rfl, rfl, rfl, rfl, rfl, rfl, rfl, rfl, rfl, rfl, rfl, rfl,
      performanceCommand_unknown⟩
  case envelope => exact ⟨encodeFrame_eq f, judge_encodeFrame hf rest⟩
  case judgement =>
    refine ⟨rfl, rfl, fun h => judge_noSync (fun hs => h.elim (· hs.1) (· hs.2)) rest, judge_short, fun h => ?_,
      fun hlen => ⟨fun h => ?_, fun hp => ?_⟩⟩
    · exact (judge_sync kind len tag rest).trans (if_pos h)
    · exact (judge_sync kind len tag rest).trans ((if_neg (Nat.not_lt.mpr hlen)).trans (if_pos h))
    · refine (judge_whole kind tag high low rest hlen hp).trans ?_
      rw [crc16_eq]
      rfl
  case arrivals =>
    refine ⟨rfl, rfl, fun h => ?_, exec_crcError_elsewhere, exec_framingError_elsewhere⟩
    obtain ⟨act, hact⟩ := exec_performanceCommand f
    rw [hact, deliver_elsewhere f act h]
  case states =>
    refine ⟨fun h => feed_locked hbuffer h bytes, fun h => ⟨fun hj => ?_, fun hj => ?_, fun hj => ?_⟩,
      fun h => ⟨fun hj => ?_, fun hj => ?_, fun hj => ?_⟩⟩
    · rw [feed_hunt hbuffer h, huntScan_good hj]
    · rw [feed_hunt hbuffer h, huntScan_skip hj, ← feed_hunt hbuffer h]
    · rw [feed_hunt hbuffer h, huntScan_needMore hj]
    · rw [feed_verify hbuffer h, hj]
      rfl
    · rcases hj with hj | hj | hj <;> rw [feed_verify hbuffer h, hj]
    · rw [feed_verify hbuffer h, hj]
  case bad =>
    intro gone
    refine ⟨fun hj => ⟨fun hn => ?_, fun hn => ?_⟩, fun hj => ?_⟩
    · rw [exec_crcError_met hs hj]
      exact congrArg _ (if_pos (show s.link.badCount + 1 < 4 by omega))
    · rw [exec_crcError_met hs hj]
      refine congrArg _ ((if_neg (show ¬s.link.badCount + 1 < 4 by omega)).trans ?_)
      exact returnToHunt_eq bytes _
    · rw [exec_framingError_met hs hj]
      exact congrArg _ (returnToHunt_eq bytes _)

end Sys2Proof.ReceiverProofs
end

section
/-! PROOFS. The idle step (R3): the frames that stand whole among the bytes taken (R120, R141, R176), the part's own events that
are due, and the moment's end when there are none. -/

namespace Sys2Proof.IdleProofs

open Sys2Proof Sys2Proof.Machine Sys2Proof.TableProofs Sys2Proof.StrikeProofs Sys2Proof.RailListProofs Sys2Proof.ReceiverProofs

/-! ## The end of a moment -/

theorem railCanTake_iff (r : Rail) :
    railCanTake r = true ↔
      r.tx = none ∧ r.inFlight.length < 4 ∧
        (nextRequest r ≠ none ∨ r.passQueue ≠ [] ∧ (r.state = .active ∨ r.state = .off ∨ r.state = .parked)) := by
  have pass : (r.passQueue.head?.any fun p => mayGo r.state (.passThrough p)) = true ↔
      r.passQueue ≠ [] ∧ (r.state = .active ∨ r.state = .off ∨ r.state = .parked) := by
    cases r.passQueue with
    | nil => simp
    | cons p rest => simp [mayGo_passThrough]
  rw [railCanTake, Bool.and_eq_true, Bool.or_eq_true, slotFree_iff, pass, Option.isSome_iff_ne_none, and_assoc]

section Steps

variable {s : State} (hpending : s.pending = [])

include hpending

theorem step_idle : step s = idleStep s := by
  rw [step, hpending]

theorem step_endMoment (h : raisedNow s = []) : step s = endMoment s := by
  rw [step_idle hpending, idleStep, h]

theorem step_alone {r : Raised} (h : raisedNow s = [r]) : step s = takeUp r s := by
  rw [step_idle hpending, idleStep, h]

/-- Of several one is taken up, the choice counted (log entry 2). -/
theorem step_oneOf (h : 2 ≤ (raisedNow s).length) :
    ∃ r ∈ raisedNow s, step s = takeUp r { s with tieBreak := s.tieBreak + 1 } := by
  rw [step_idle hpending, idleStep]
  match hr : raisedNow s, h with
  | q :: r :: rest, _ =>
    refine ⟨_, ?_, rfl⟩
    have hlt : Config.tieBreak s.tieBreak % (rest.length + 2) < (q :: r :: rest).length := Nat.mod_lt _ (by omega)
    rw [List.getD_eq_getElem _ _ hlt]
    exact List.getElem_mem hlt

end Steps

theorem endMoment_takes {s : State} (h : railCanTake s.rail = true) : endMoment s = .next (railService s) := by
  have htx := ((railCanTake_iff s.rail).mp h).1
  rw [endMoment, if_pos h]
  exact RailLinkProofs.exec_railTransmitEnd_idle htx

theorem endMoment_passes {s : State} (h : ¬railCanTake s.rail = true) :
    endMoment s = .next { s with localTime := s.localTime + 1 } := if_neg h

/-! ## The frames that stand whole -/

theorem event_mem_raisedNow (s : State) (c : Instr) : .event c ∈ raisedNow s ↔ c ∈ dueEvents s := by
  have noEvent : ∀ l, Raised.event c ∉ raisedFrame s l := by
    intro l
    unfold raisedFrame
    split <;> simp
  simp [raisedNow, noEvent]

theorem frame_mem_raisedNow (s : State) (l : LineIn) (c : Instr) (rest : List Byte) :
    .frame l c rest ∈ raisedNow s ↔ frameOn l s = some (c, rest) := by
  have own : ∀ l', Raised.frame l c rest ∈ raisedFrame s l' ↔ l = l' ∧ frameOn l s = some (c, rest) := by
    intro l'
    unfold raisedFrame
    split
    · next h =>
      simp only [List.not_mem_nil, false_iff, not_and]
      rintro rfl hs
      cases h.symm.trans hs
    · next c' rest' h =>
      simp only [List.mem_singleton, Raised.frame.injEq]
      constructor
      · rintro ⟨rfl, rfl, rfl⟩
        exact ⟨rfl, h⟩
      · rintro ⟨rfl, hs⟩
        rw [h] at hs
        simpa [eq_comm] using hs
  simp only [raisedNow, List.mem_append, List.mem_flatMap, own, List.mem_map]
  cases l <;> simp

/-- The bytes of a bad frame, with what stands behind it left off. -/
theorem take_before (bytes rest : List Byte) :
    (bytes ++ rest).take ((bytes ++ rest).length - rest.length) = bytes := by
  rw [List.length_append, Nat.add_sub_cancel, List.take_left]

theorem lockedCommand_needMore {bytes : List Byte} (h : judge bytes = .needMore) : lockedCommand bytes = none := by
  rw [lockedCommand, h]

theorem lockedCommand_good {f : Frame} (hf : f.payload.length ≤ 124) (rest : List Byte) :
    lockedCommand (encodeFrame f ++ rest) = some (performanceCommand f, rest) := by
  rw [lockedCommand, judge_encodeFrame hf]

theorem lockedCommand_badCheck {bytes : List Byte} (h : judge bytes = .badCheck []) (rest : List Byte) :
    lockedCommand (bytes ++ rest) = some (.crcError bytes, rest) := by
  rw [lockedCommand, judge_badCheck_append h]
  simp only [take_before]

theorem lockedCommand_framing {bytes : List Byte} (h : judge bytes = .noSync ∨ judge bytes = .overLength) :
    lockedCommand bytes = some (.framingError bytes, []) := by
  rcases h with h | h <;> rw [lockedCommand, h]

section Lines

variable (good : Frame → Instr) (bad : List Byte → Instr)

theorem lineFrame_none {r : ByteIn} (h : r.scanning = true ∨ judge r.buffer = .needMore) :
    lineFrame good bad r = none := by
  unfold lineFrame
  split
  · rfl
  · next hscan => rw [h.resolve_left hscan]

theorem lineFrame_good {f : Frame} (hf : f.payload.length ≤ 124) (rest : List Byte) :
    lineFrame good bad ⟨encodeFrame f ++ rest, false⟩ = some (good f, rest) := by
  simp only [lineFrame, judge_encodeFrame hf]
  rfl

theorem lineFrame_badCheck {bytes : List Byte} (h : judge bytes = .badCheck []) (rest : List Byte) :
    lineFrame good bad ⟨bytes ++ rest, false⟩ = some (bad bytes, rest) := by
  simp only [lineFrame, judge_badCheck_append h, take_before]
  rfl

theorem lineFrame_framing {bytes : List Byte} (h : judge bytes = .noSync ∨ judge bytes = .overLength) :
    lineFrame good bad ⟨bytes, false⟩ = some (bad bytes, []) := by
  rcases h with h | h <;> simp only [lineFrame, h] <;> rfl

end Lines

theorem frameOn_plin {s : State} (h : s.link.rx = .locked) : frameOn .plin s = lockedCommand s.link.buffer := if_pos h

theorem frameOn_plin_none {s : State} (h : s.link.rx ≠ .locked ∨ judge s.link.buffer = .needMore) :
    frameOn .plin s = none := by
  by_cases hl : s.link.rx = .locked
  · rw [frameOn_plin hl, lockedCommand_needMore (h.resolve_left (not_not_intro hl))]
  · exact if_neg hl

theorem frameOn_snin {s : State} {r : ByteIn} (h : s.snin = r) :
    frameOn .snin s = lineFrame sensorCommand (fun bs => .sensorBadFrame bs) r := h ▸ rfl

theorem frameOn_rlin {s : State} {r : ByteIn} (h : s.rlin = r) :
    frameOn .rlin s = lineFrame railCommand (fun bs => .railBadFrame bs) r := h ▸ rfl

/-! ## The events that are due -/

theorem mem_raised (b : Bool) (c c' : Instr) : c ∈ raised b c' ↔ c = c' ∧ b = true := by
  cases b <;> simp [raised]

/-- A timer that runs and is due. -/
def Expired (now : Nat) (timer : Option Nat) : Prop := ∃ d, timer = some d ∧ d ≤ now

theorem runTimer_iff (phase : ProbePhase) (s : State) :
    (runTimerDue phase s).isSome = true ↔ ∃ r, s.run = some r ∧ r.phase = phase ∧ Expired s.localTime r.timer := by
  cases hr : s.run with
  | none => simp [runTimerDue, hr]
  | some r =>
    by_cases h : r.phase = phase ∧ Expired s.localTime r.timer
    · simp [runTimerDue_some hr h, h]
    · simp [runTimerDue_none hr (not_and_or.mp h), h]

theorem dueOfRun_iff (s : State) (c : Instr) :
    c ∈ dueOfRun s ↔
      (c = .restWaitExpiry ∧ ∃ r, s.run = some r ∧ r.phase = .awaitingRest ∧ Expired s.localTime r.timer) ∨
      (c = .settleExpiry ∧ ∃ r, s.run = some r ∧ r.phase = .settling ∧ Expired s.localTime r.timer) := by
  simp only [dueOfRun, List.mem_append, mem_raised, runTimer_iff]

theorem windowExpired_iff (s : State) :
    windowExpired s = true ↔
      ∃ o rest w, s.rail.inFlight = o :: rest ∧ s.rail.window = some w ∧
        w + (if o.cmd = .unpark then 50000 else 1000) ≤ s.localTime := by
  have hlen : ∀ cmd, windowLength cmd = if cmd = .unpark then 50000 else 1000 := by
    intro cmd
    unfold windowLength
    split <;> simp_all
  unfold windowExpired
  split
  · next w o rest hw hf => simp [hw, hf, hlen]
  · next h =>
    refine iff_of_false Bool.false_ne_true ?_
    rintro ⟨o, rest, w, hf, hw, -⟩
    exact h w o rest hw hf

theorem txDone_iff (s : State) :
    s.rail.tx.any (railFrameDone s.localTime) = true ↔
      ∃ x, s.rail.tx = some x ∧ x.start + (7 + x.frame.payload.length) * 10 ≤ 12 * s.localTime := by
  cases s.rail.tx with
  | none => simp
  | some x => simp [RailLinkProofs.railFrameDone_iff]

theorem dueOfRail_iff (s : State) (c : Instr) :
    c ∈ dueOfRail s ↔
      (c = .railTransmitEnd ∧
        ∃ x, s.rail.tx = some x ∧ x.start + (7 + x.frame.payload.length) * 10 ≤ 12 * s.localTime) ∨
      (c = .acknowledgementWindow ∧ ∃ o rest w, s.rail.inFlight = o :: rest ∧ s.rail.window = some w ∧
        w + (if o.cmd = .unpark then 50000 else 1000) ≤ s.localTime) ∨
      (c = .parkTimer ∧ Expired s.localTime s.rail.parkTimer) := by
  simp only [dueOfRail, List.mem_append, mem_raised, txDone_iff, windowExpired_iff, timerDue_iff, Expired,
    or_assoc]

/-- Something waits for a place on PLOUT (R181). -/
def Ready (s : State) : Prop :=
  s.link.responses ≠ [] ∨ s.captureFifo ≠ [] ∨ s.tableRead.isSome = true ∨ s.reports ≠ [] ∨ s.rail.replies ≠ []

theorem someSource_iff (s : State) : someSource s = true ↔ Ready s := by
  simp [someSource, Ready, or_assoc]

theorem upFrameDone_iff (s : State) (x : UpTx) :
    upFrameDone s x = true ↔
      x.start + (7 + (upFrame x.frame).payload.length) * (120 / linkRate s.rateSel) ≤ 12 * s.localTime :=
  decide_eq_true_iff

theorem dueOfLine_iff (s : State) (c : Instr) :
    c ∈ dueOfLine s ↔
      (c = .frameBoundary ∧
        ((s.link.tx = none ∧ Ready s) ∨
          ∃ x, s.link.tx = some x ∧
            x.start + (7 + (upFrame x.frame).payload.length) * (120 / linkRate s.rateSel) ≤ 12 * s.localTime)) ∨
      (c = .statusSpacing ∧ s.link.tx = none ∧ ¬Ready s ∧ ∀ d ∈ s.link.lastStatus, d + 1000 ≤ s.localTime) := by
  unfold dueOfLine
  split
  · next x hx => simp [mem_raised, upFrameDone_iff, hx]
  · next hx =>
    simp only [List.mem_append, mem_raised, someSource_iff, Bool.and_eq_true, Bool.not_eq_true', ← Bool.not_eq_true,
      statusDue_iff, hx]
    simp

theorem dueOfPedal_iff (s : State) (p : Pedal) (c : Instr) :
    c ∈ dueOfPedal s p ↔
      c = .rateGapEnd p ∧ ((s.replay[p]).state = .spacing ∨ (s.replay[p]).state = .waiting) ∧
        ∀ us ∈ (s.replay[p]).lastSent, us + (s.tables.pedal[p]).rateGap * 1000 ≤ s.localTime := by
  rw [dueOfPedal, mem_raised, Bool.and_eq_true, decide_eq_true_iff, LawProofs.gapOver_iff]

theorem dueOfKey_iff (s : State) (k : Key) (c : Instr) :
    c ∈ dueOfKey s k ↔
      (c = .pushTimerExpiry k ∧ (s.drive[k]).state = .pushing ∧ (s.drive[k]).stage = .sent ∧
        Expired s.localTime (s.drive[k]).pushTimer) ∨
      (c = .gateTimerExpiry k ∧ Expired s.localTime (s.drive[k]).gateTimer) ∨
      (c = .restTimerExpiry k ∧ (s.drive[k]).state = .releasing ∧ Expired s.localTime (s.drive[k]).restTimer) ∨
      (c = .sensorlessReleaseTimer k ∧ (s.drive[k]).state = .releasing ∧
        Expired s.localTime (s.drive[k]).sensorlessTimer) ∨
      (c = .captureGateTimeout k ∧ (s.capture[k]).state = .gated ∧ Expired s.localTime (s.capture[k]).gateTimer) := by
  simp only [dueOfKey, List.mem_append, mem_raised, Bool.and_eq_true, decide_eq_true_iff, timerDue_iff,
    Expired, or_assoc, and_assoc]

/-- The events that are due, in the order of the blocks. -/
theorem mem_dueEvents (s : State) (c : Instr) :
    c ∈ dueEvents s ↔
      (c = .ptTick ∧ s.clock.part = .running ∧ s.clock.unitStart + 10 ≤ s.localTime) ∨
      (c = .linkLossStop ∧ (s.clock.part = .running ∨ s.clock.part = .held) ∧ Expired s.localTime s.clock.linkLoss) ∨
      (c = .lossWindowExpiry ∧ s.sensor.up = true ∧ Expired s.localTime s.sensor.window) ∨
      c ∈ dueOfRun s ∨ c ∈ dueOfRail s ∨ c ∈ dueOfLine s ∨ (∃ p, c ∈ dueOfPedal s p) ∨ ∃ k, c ∈ dueOfKey s k := by
  simp only [dueEvents, List.mem_append, List.mem_flatMap, mem_raised, tickDue, inPerformance, Bool.and_eq_true,
    decide_eq_true_iff, timerDue_iff, Expired, allPedals, allKeys, List.mem_finRange, true_and, or_assoc]

/-- A frame runs its command with the receiver at its place; the bytes behind it are then taken. -/
theorem takeUp_frame {s t : State} {c : Instr} (l : LineIn) (rest : List Byte) (h : exec c (emptied l s) = .next t) :
    takeUp (.frame l c rest) s = .next (takeBehind l rest t) := by
  simp only [takeUp, h]

/-- Settles O2: what the step takes up with no command waiting, the frames and the events it can take up, and the
taking. -/
theorem idleStepPassesTime : Obligations.IdleStepPassesTime := by
  refine ⟨fun s hp => ?idle, fun s f bytes rest hf => ?frames, ?events, ?taking⟩
  case idle =>
    intro canTake
    have hcan : railCanTake s.rail = true ↔ canTake := railCanTake_iff s.rail
    refine ⟨fun h hn => ?_, fun h hc => ?_, fun r => step_alone hp, step_oneOf hp⟩
    · rw [step_endMoment hp h, endMoment_passes (mt hcan.mp hn)]
    · rw [step_endMoment hp h, endMoment_takes (hcan.mpr hc)]
  case frames =>
    simp only [frame_mem_raisedNow]
    refine ⟨event_mem_raisedNow s, fun h c r => ?_, fun h c r => ?_, fun h c r => ?_, fun hl hb => ?_,
      fun hl hb hj => ?_, fun hl hb hj => ?_, fun hr => ?_, fun hr hj => ?_, fun hr hj => ?_, fun hr => ?_,
      fun hr hj => ?_, fun hr hj => ?_⟩
    · simp [frameOn_plin_none h]
    · simp [frameOn_snin rfl, lineFrame_none _ _ h]
    · simp [frameOn_rlin rfl, lineFrame_none _ _ h]
    · rw [frameOn_plin hl, hb, lockedCommand_good hf]
    · rw [frameOn_plin hl, hb, lockedCommand_badCheck hj]
    · rw [frameOn_plin hl, hb, lockedCommand_framing hj]
    · rw [frameOn_snin hr, lineFrame_good _ _ hf]
    · rw [frameOn_snin hr, lineFrame_badCheck _ _ hj]
    · rw [frameOn_snin hr, lineFrame_framing _ _ hj]
    · rw [frameOn_rlin hr, lineFrame_good _ _ hf]
    · rw [frameOn_rlin hr, lineFrame_badCheck _ _ hj]
    · rw [frameOn_rlin hr, lineFrame_framing _ _ hj]
  case events =>
    intro s c now expired rate ready
    have hrate : rate = linkRate s.rateSel := rfl
    rw [mem_dueEvents, dueOfRun_iff, dueOfRail_iff, dueOfLine_iff, hrate]
    simp only [dueOfPedal_iff, dueOfKey_iff, or_assoc]
    rfl
  case taking =>
    intro s t c rest
    exact ⟨rfl, takeUp_frame .plin rest, takeUp_frame .snin rest, takeUp_frame .rlin rest⟩

end Sys2Proof.IdleProofs
end

section
/-! PROOFS. What a Stop, a Restart and the link loss do to the pedals, the rail's waiting list and the drive contexts, each as
one update of the whole state (R10, R13, R14, R96, R101, R103, R110, R142, R150, R157). -/

namespace Sys2Proof.StopProofs

open Sys2Proof Sys2Proof.Machine Sys2Proof.TableProofs Sys2Proof.RailListProofs Sys2Proof.LawProofs

/-! ## The pedals brought to rest (R110) -/

/-- A pedal's context once brought to rest. -/
def restedPedal (p : Pedal) (s : State) : PedalReplay :=
  if (s.replay[p]).state = .requested then { s.replay[p] with commanded := 0 }
  else if pedalAvailable s.rail p = true then ⟨.requested, 0, none, (s.replay[p]).lastSent⟩
  else ⟨if gapOver p s = true then .ready else .spacing, 0, none, (s.replay[p]).lastSent⟩

/-- Whether bringing a pedal to rest asks the rail for a PedalSet. -/
def asksRest (s : State) (p : Pedal) : Bool :=
  decide ((s.replay[p]).state ≠ .requested) && pedalAvailable s.rail p

/-- The PedalSets that bring pedals to rest. -/
def restRequests (ps : List Pedal) (s : State) : List Request :=
  (ps.filter (asksRest s)).map fun p => ⟨.pedalSet p, s.localTime⟩

/-- The rail with requests that wake it at the tail of its list: the first brings an Unpark behind it (R142, R150). -/
def withWaking (rs : List Request) (us : Nat) (r : Rail) : Rail :=
  { r with
    state := if r.state = .parked ∧ rs ≠ [] then .waking else r.state
    waiting :=
      r.waiting ++
        match r.state, rs with
        | .parked, q :: qs => q :: ⟨.unpark, us⟩ :: qs
        | _, _ => rs }

theorem withWaking_nil (us : Nat) (r : Rail) : withWaking [] us r = r := by
  simp [withWaking]

theorem withWaking_awake {r : Rail} (h : r.state ≠ .parked) (rs : List Request) (us : Nat) :
    withWaking rs us r = { r with waiting := r.waiting ++ rs } := by
  simp only [withWaking, h, false_and, if_false]
  split
  · next hp => exact absurd hp h
  · rfl

theorem withWaking_parked {r : Rail} (h : r.state = .parked) (q : Request) (qs : List Request) (us : Nat) :
    withWaking (q :: qs) us r = { r with state := .waking, waiting := r.waiting ++ q :: ⟨.unpark, us⟩ :: qs } := by
  simp [withWaking, h]

/-- Requests made one behind the other. -/
theorem withWaking_cons (q : Request) (qs : List Request) (us : Nat) (r : Rail) :
    withWaking qs us (withWaking [q] us r) = withWaking (q :: qs) us r := by
  by_cases h : r.state = .parked
  · rw [withWaking_parked h, withWaking_parked h, withWaking_awake (by simp)]
    simp
  · rw [withWaking_awake h, withWaking_awake (r := { r with waiting := r.waiting ++ [q] }) h, withWaking_awake h]
    simp

theorem requestRail_wakes {c : RailCmd} (h : wakesRail c = true) (s : State) :
    requestRail c s = { s with rail := withWaking [⟨c, s.localTime⟩] s.localTime s.rail } := by
  rw [requestRail_eq, if_pos h]
  by_cases hp : s.rail.state = .parked
  · rw [wake_parked (s := requested c s) hp, withWaking_parked hp]
    simp [requested]
  · rw [wake_notParked (s := requested c s) hp, withWaking_awake hp]
    rfl

theorem asksRest_available {p : Pedal} {s : State} (hr : (s.replay[p]).state ≠ .requested)
    (ha : pedalAvailable s.rail p = true) : asksRest s p = true := by
  rw [asksRest, ha, decide_eq_true hr]
  rfl

theorem asksRest_not {p : Pedal} {s : State} (h : (s.replay[p]).state = .requested ∨ ¬pedalAvailable s.rail p = true) :
    ¬asksRest s p = true := by
  rw [asksRest, Bool.and_eq_true, decide_eq_true_iff]
  exact fun ⟨hr, ha⟩ => h.elim hr fun hn => hn ha

theorem restRequests_cons (p : Pedal) (ps : List Pedal) (s : State) :
    restRequests (p :: ps) s =
      if asksRest s p = true then ⟨.pedalSet p, s.localTime⟩ :: restRequests ps s else restRequests ps s := by
  rw [restRequests, List.filter_cons]
  split <;> rfl

theorem restRequests_nil (s : State) : restRequests [] s = [] := rfl

theorem pedalToRest_eq (p : Pedal) (s : State) :
    pedalToRest p s =
      { s with
        replay := s.replay.set p.val (restedPedal p s) p.isLt
        rail := withWaking (restRequests [p] s) s.localTime s.rail } := by
  by_cases hr : (s.replay[p]).state = .requested
  · have hnone : restRequests [p] s = [] := by rw [restRequests_cons, if_neg (asksRest_not (.inl hr)), restRequests_nil]
    rw [hnone, withWaking_nil, restedPedal, if_pos hr]
    simp only [pedalToRest, hr]
    rfl
  · have hrest : pedalToRest p s =
        if pedalAvailable s.rail p then
          requestRail (.pedalSet p)
            (setReplay p { s.replay[p] with state := .requested, commanded := 0, waiting := none } s)
        else setReplay p { s.replay[p] with state := restingReplay p s, commanded := 0, waiting := none } s := by
      unfold pedalToRest
      split
      · next h => exact absurd h hr
      · rfl
    rw [hrest, restedPedal, if_neg hr]
    by_cases ha : pedalAvailable s.rail p = true
    · have hone : restRequests [p] s = [⟨.pedalSet p, s.localTime⟩] := by
        rw [restRequests_cons, if_pos (asksRest_available hr ha), restRequests_nil]
      rw [if_pos ha, if_pos ha, hone, requestRail_wakes rfl]
      rfl
    · have hnone : restRequests [p] s = [] := by
        rw [restRequests_cons, if_neg (asksRest_not (.inr ha)), restRequests_nil]
      rw [if_neg ha, if_neg ha, hnone, withWaking_nil]
      rfl

theorem pedalToRest_replay_self (p : Pedal) (s : State) : (pedalToRest p s).replay[p] = restedPedal p s := by
  rw [pedalToRest_eq]
  exact (setReplay_get p (restedPedal p s) s p).trans (if_pos rfl)

theorem pedalToRest_replay_other {p q : Pedal} (h : q ≠ p) (s : State) :
    (pedalToRest p s).replay[q] = s.replay[q] := by
  rw [pedalToRest_eq]
  exact (setReplay_get p (restedPedal p s) s q).trans (if_neg h)

/-- A wake makes no channel unavailable. -/
theorem pedalAvailable_withWaking (rs : List Request) (us : Nat) (r : Rail) (p : Pedal) :
    pedalAvailable (withWaking rs us r) p = pedalAvailable r p := by
  have hoff : (withWaking rs us r).state = .off ↔ r.state = .off := by
    by_cases h : r.state = .parked ∧ rs ≠ []
    · simp [withWaking, h]
    · simp only [withWaking, if_neg h]
  simp only [pedalAvailable, ne_eq, hoff]
  rfl

theorem restRequests_after {p : Pedal} {ps : List Pedal} (h : p ∉ ps) (s : State) :
    restRequests ps (pedalToRest p s) = restRequests ps s := by
  have same : ∀ q ∈ ps, asksRest (pedalToRest p s) q = asksRest s q := by
    intro q hq
    have hne : q ≠ p := fun he => h (he ▸ hq)
    rw [asksRest, pedalToRest_replay_other hne, pedalToRest_eq, pedalAvailable_withWaking, asksRest]
  unfold restRequests
  rw [List.filter_congr same, pedalToRest_eq]

theorem restedPedal_after {p q : Pedal} (h : q ≠ p) (s : State) :
    restedPedal q (pedalToRest p s) = restedPedal q s := by
  have hgap : gapOver q (pedalToRest p s) = gapOver q s := by
    rw [gapOver, pedalToRest_replay_other h, pedalToRest_eq]
    rfl
  rw [restedPedal, hgap, pedalToRest_replay_other h, pedalToRest_eq, pedalAvailable_withWaking, restedPedal]

/-- Several pedals brought to rest, in order. -/
theorem toRest_each (ps : List Pedal) (hnodup : ps.Nodup) (s : State) :
    (∃ v, ps.foldl (fun s p => pedalToRest p s) s =
      { s with replay := v, rail := withWaking (restRequests ps s) s.localTime s.rail }) ∧
    ∀ q, (ps.foldl (fun s p => pedalToRest p s) s).replay[q] = if q ∈ ps then restedPedal q s else s.replay[q] := by
  induction ps generalizing s with
  | nil => exact ⟨⟨s.replay, by rw [restRequests, List.filter_nil, List.map_nil, withWaking_nil]; rfl⟩, fun q => by simp⟩
  | cons p ps ih =>
    obtain ⟨hp, hps⟩ := List.nodup_cons.mp hnodup
    obtain ⟨⟨v, hv⟩, hreplay⟩ := ih hps (pedalToRest p s)
    have hrail : withWaking (restRequests ps s) s.localTime (withWaking (restRequests [p] s) s.localTime s.rail) =
        withWaking (restRequests (p :: ps) s) s.localTime s.rail := by
      rw [restRequests_cons, restRequests_cons, restRequests_nil]
      by_cases ha : asksRest s p = true
      · rw [if_pos ha, if_pos ha, withWaking_cons]
      · rw [if_neg ha, if_neg ha, withWaking_nil]
    refine ⟨⟨v, ?_⟩, fun q => ?_⟩
    · rw [List.foldl_cons, hv, restRequests_after hp, pedalToRest_eq, ← hrail]
    · rw [List.foldl_cons, hreplay]
      by_cases hq : q = p
      · subst hq
        rw [if_neg hp, pedalToRest_replay_self, if_pos List.mem_cons_self]
      · simp only [restedPedal_after hq, pedalToRest_replay_other hq, List.mem_cons, hq, false_or]

/-- The pedals brought to rest: the contexts, the PedalSets at the tail of the list, a Parked rail woken. -/
theorem pedalsToRest_eq (s : State) :
    pedalsToRest s =
      { s with
        replay := Vector.ofFn fun p => restedPedal p s
        rail := withWaking (restRequests (List.finRange 3) s) s.localTime s.rail } := by
  obtain ⟨⟨v, hv⟩, hreplay⟩ := toRest_each allPedals (List.nodup_finRange 3) s
  have hall : v = Vector.ofFn fun p => restedPedal p s := by
    ext1 p hp
    have h := (hreplay ⟨p, hp⟩).trans (if_pos (List.mem_finRange _))
    rw [hv] at h
    rw [Vector.getElem_ofFn]
    exact h
  rw [pedalsToRest, hv, hall]
  rfl

/-! ## Release All requested (R142, R157) -/

/-- A waiting list with a Release All requested: merged with one that waits, or at the tail (R142). -/
def withReleaseAll (recovery restart : Bool) (us : Nat) (rs : List Request) : List Request :=
  if (rs.any fun r => isReleaseAll r.cmd) = true then rs.map (mergeReleaseAll recovery restart)
  else rs ++ [⟨.releaseAll recovery restart, us⟩]

theorem requestReleaseAll_eq (recovery restart : Bool) (s : State) :
    requestReleaseAll recovery restart s =
      { s with rail := { s.rail with waiting := withReleaseAll recovery restart s.localTime s.rail.waiting } } := by
  unfold requestReleaseAll withReleaseAll
  split <;> rfl

/-- The rail of a recovery that begins: the in-flight list cleared (R157). -/
def recoveryCleared (r : Rail) : Rail := if r.state = .faulted then clearInFlight r else r

theorem releaseEverything_eq (restart : Bool) (s : State) :
    releaseEverything restart s =
      { s with
        rail :=
          { recoveryCleared s.rail with
            waiting := withReleaseAll (decide (s.rail.state = .faulted)) restart s.localTime s.rail.waiting } } := by
  unfold releaseEverything recoveryCleared
  by_cases h : s.rail.state = .faulted
  · rw [if_pos h, if_pos h, requestReleaseAll_eq, decide_eq_true h]
    rfl
  · rw [if_neg h, if_neg h, requestReleaseAll_eq, decide_eq_false h]

/-! ## The drive contexts at a Stop (R96, R101, R103) -/

/-- A marked measurement whose push a Stop cuts short (R96). -/
def cutShort (d : DriveContext) : Bool := decide (d.state = .pushing) && (d.measuring && d.notMeasured)

/-- A context whose push is cut short: a marked measurement closed (R96). -/
def cutContext (d : DriveContext) : DriveContext :=
  if cutShort d = true then { d with measuring := false, gateTimer := none } else d

/-- The NotMeasured report of a strike cut short (R96). -/
def cutReport (d : DriveContext) : Option Report :=
  match d.state, d.measuring && d.notMeasured, d.job with
  | .pushing, true, some (.strike st) =>
    some (driveReport st (d.issue.getD 0) st.level 0 0 { strikeFlags st with notMeasured := true })
  | _, _, _ => none

theorem cutReport_none {d : DriveContext} (h : cutShort d ≠ true) : cutReport d = none := by
  unfold cutReport
  split
  · next hs hm _ => exact absurd (show cutShort d = true by simp only [cutShort, hs, hm, decide_true, Bool.and_self]) h
  · rfl

theorem addReports_append (rs qs : List Report) (s : State) :
    addReports (rs ++ qs) s = addReports qs (addReports rs s) := List.foldl_append

/-- The Stop's notice to one marked measurement. -/
theorem closeMarked_cut (k : Key) (s : State) :
    (if (s.drive[k]).state = .pushing then closeMarked k s else s) =
      addReports (cutReport s.drive[k]).toList (setDrive k (cutContext s.drive[k]) s) := by
  by_cases hcut : cutShort s.drive[k] = true
  · obtain ⟨hstate, hmark⟩ : (s.drive[k]).state = .pushing ∧ ((s.drive[k]).measuring && (s.drive[k]).notMeasured) = true := by
      simpa only [cutShort, Bool.and_eq_true, decide_eq_true_iff] using hcut
    rw [if_pos hstate, closeMarked]
    simp only [hmark, if_true]
    rw [closeMeasurement, cutContext, if_pos hcut]
    simp only [cutReport, hstate, hmark]
    match hj : (s.drive[k]).job with
    | none => rfl
    | some (.strike st) => rfl
    | some (.probe channel level) =>
      simp only [probeOutcome]
      split
      · rfl
      · split <;> rfl
  · have hsame : setDrive k (cutContext s.drive[k]) s = s := by
      rw [cutContext, if_neg hcut]
      exact setDrive_unchanged k s
    rw [cutReport_none hcut, hsame]
    split
    · next hstate =>
      have hmark : ¬((s.drive[k]).measuring && (s.drive[k]).notMeasured) = true := by
        simpa only [cutShort, hstate, decide_true, Bool.true_and] using hcut
      rw [closeMarked]
      simp only [hmark]
      rfl
    · rfl

theorem addReports_withDrive (rs : List Report) (v : Vector DriveContext 88) (s : State) :
    { addReports rs s with drive := v } = addReports rs { s with drive := v } := by
  rw [addReports_logged, addReports_logged]

theorem cutShort_each (ks : List Key) (hnodup : ks.Nodup) (s : State) :
    ks.foldl (fun s k => if (s.drive[k]).state = .pushing then closeMarked k s else s) s =
      addReports (ks.filterMap fun k => cutReport s.drive[k])
        { s with drive := Vector.ofFn fun k => if k ∈ ks then cutContext s.drive[k] else s.drive[k] } := by
  induction ks generalizing s with
  | nil =>
    have hdrive : (Vector.ofFn fun k : Key => if k ∈ [] then cutContext s.drive[k] else s.drive[k]) = s.drive := by
      ext k hk
      simp
    rw [hdrive]
    rfl
  | cons k ks ih =>
    obtain ⟨hk, hks⟩ := List.nodup_cons.mp hnodup
    generalize ht : addReports (cutReport s.drive[k]).toList (setDrive k (cutContext s.drive[k]) s) = t
    have hdrive (j : Key) : t.drive[j] = if j = k then cutContext s.drive[k] else s.drive[j] := by
      rw [← ht, addReports_drive, setDrive_get]
    have hothers : ks.filterMap (fun j => cutReport t.drive[j]) = ks.filterMap fun j => cutReport s.drive[j] :=
      List.filterMap_congr fun j hj => by rw [hdrive, if_neg fun he : j = k => hk (he ▸ hj)]
    have hcontexts : (Vector.ofFn fun j : Key => if j ∈ ks then cutContext t.drive[j] else t.drive[j]) =
        Vector.ofFn fun j : Key => if j ∈ k :: ks then cutContext s.drive[j] else s.drive[j] := by
      congr 1
      funext j
      by_cases hj : j = k
      · subst hj
        simp [hk, hdrive]
      · simp [hdrive, hj]
    have hreports : (k :: ks).filterMap (fun j => cutReport s.drive[j]) =
        (cutReport s.drive[k]).toList ++ ks.filterMap fun j => cutReport s.drive[j] := by
      rw [List.filterMap_cons]
      cases cutReport s.drive[k] <;> rfl
    rw [List.foldl_cons, closeMarked_cut, ht, ih hks, hothers, hcontexts, hreports, addReports_append, ← ht,
      addReports_withDrive]
    rfl

/-- The reports of the marked pushes a Stop cuts short, in ascending order of key. -/
def cutReports (s : State) : List Report := (List.finRange 88).filterMap fun k => cutReport s.drive[k]

theorem closeCutShort_eq (s : State) :
    closeCutShort s = addReports (cutReports s) { s with drive := s.drive.map cutContext } := by
  have hdrive : (Vector.ofFn fun k : Key => if k ∈ allKeys then cutContext s.drive[k] else s.drive[k]) =
      s.drive.map cutContext := by
    ext k hk
    simp [allKeys]
  rw [closeCutShort, cutShort_each allKeys (List.nodup_finRange 88), hdrive]
  rfl

theorem waitingStrike_cutContext (d : DriveContext) : waitingStrike (cutContext d) = waitingStrike d := by
  unfold cutContext
  split <;> rfl

/-- The reports of a Stop: those of marked pushes cut short, then those of Waiting Pushes given up (log entry 18). -/
theorem stopReports_eq (s : State) :
    addReports (givenUpReports (closeCutShort s)) (closeCutShort s) =
      addReports (cutReports s ++ givenUpReports s) { s with drive := s.drive.map cutContext } := by
  have hgiven : givenUpReports (closeCutShort s) = givenUpReports s := by
    refine List.filterMap_congr fun k _ => ?_
    rw [closeCutShort_eq, addReports_drive]
    simp [waitingStrike_cutContext]
  rw [hgiven, closeCutShort_eq, addReports_append]

theorem givenUpReports_eq (s : State) :
    givenUpReports s = (List.finRange 88).filterMap fun k =>
      match (s.drive[k]).state, (s.drive[k]).stage, (s.drive[k]).restarting, (s.drive[k]).job with
      | .pushing, .waiting, false, some (.strike st) =>
        some (driveReport st 0 0 0 0 { strikeFlags st with missed := true })
      | _, _, _, _ => none := by
  refine List.filterMap_congr fun k _ => ?_
  unfold waitingStrike
  split <;> simp_all [missedReport]

end Sys2Proof.StopProofs
end

section
/-! PROOFS. The stop transition (R10) as one update of the whole state. -/

namespace Sys2Proof.StopProofs

open Sys2Proof Sys2Proof.Machine Sys2Proof.TableProofs Sys2Proof.RailListProofs Sys2Proof.LawProofs
  Sys2Proof.ControlProofs

/-! ## The transition as one update -/

/-- The waiting list less the drive requests of the contexts that are not Idle (R101, R103; log entry 14). -/
def staying (s : State) : List Request :=
  s.rail.waiting.filter fun r =>
    match r.cmd with
    | .push k _ _ => decide ((s.drive[k]).state = .idle)
    | .hold k _ _ => decide ((s.drive[k]).state = .idle)
    | .release k _ => decide ((s.drive[k]).state = .idle)
    | _ => true

theorem cutContext_state (d : DriveContext) : (cutContext d).state = d.state := by
  unfold cutContext
  split <;> rfl

theorem withdrawn_staying {drive : Vector DriveContext 88} {s : State}
    (h : ∀ k : Key, (drive[k]).state = (s.drive[k]).state) :
    (s.rail.waiting.filter fun r => !ofContext notIdle drive r.cmd) = staying s := by
  refine List.filter_congr fun r _ => ?_
  unfold ofContext notIdle
  cases r.cmd <;> simp only [driveKey?, h, ne_eq, decide_not, Bool.not_not, Bool.not_false]

/-- A context after a Stop from Running or Held. -/
def stoppedContext (d : DriveContext) : DriveContext := stopContext (cutContext d)

theorem driveStop_eq (s : State) :
    driveStop s =
      { s with
        drive := s.drive.map stoppedContext
        reports := (addReports (cutReports s ++ givenUpReports s) s).reports
        sticky := (addReports (cutReports s ++ givenUpReports s) s).sticky
        rail := { s.rail with waiting := staying s } } := by
  have hstays : (s.rail.waiting.filter fun r => !ofContext notIdle (s.drive.map cutContext) r.cmd) = staying s :=
    withdrawn_staying fun k => by simp [cutContext_state]
  have hdrive : (s.drive.map cutContext).map stopContext = s.drive.map stoppedContext := Vector.map_map ..
  rw [driveStop]
  simp only
  rw [stopReports_eq, addReports_logged, addReports_logged]
  simp only [withdraw, hstays, hdrive]

/-- The rail at a Release All requested with the given list left waiting; as the recovery on a Faulted rail where the
operation recovers (R142, R157). -/
def releasedRail (recovers restart : Bool) (us : Nat) (rs : List Request) (r : Rail) : Rail :=
  { (if recovers = true ∧ r.state = .faulted then clearInFlight r else r) with
    waiting := withReleaseAll (decide (recovers = true ∧ r.state = .faulted)) restart us rs }

theorem releaseEverything_rail (restart : Bool) (s : State) :
    releaseEverything restart s =
      { s with rail := releasedRail true restart s.localTime s.rail.waiting s.rail } := by
  rw [releaseEverything_eq]
  simp [releasedRail, recoveryCleared]

theorem requestReleaseAll_rail (s : State) :
    requestReleaseAll false false s = { s with rail := releasedRail false false s.localTime s.rail.waiting s.rail } := by
  rw [requestReleaseAll_eq]
  simp [releasedRail]

theorem pedalAvailable_released (recovers restart : Bool) (us : Nat) (rs : List Request) (r : Rail) (p : Pedal) :
    pedalAvailable (releasedRail recovers restart us rs r) p = pedalAvailable r p := by
  unfold releasedRail
  split <;> rfl

/-- The whole state after the stop transition, the rail's taking of commands still to come (R10). -/
def stoppedState (cause : StopCause) (recovers : Bool) (s : State) : State :=
  { s with
    clock := { s.clock with part := .stopped, cause := cause, linkLoss := none }
    queue := flushQueue s.queue
    drive := s.drive.map stoppedContext
    replay := Vector.ofFn fun p => restedPedal p s
    capture := s.capture.map fun c => { c with announced := false }
    captureFifo := s.captureFifo ++ closingEvents .stop s
    reports := (addReports (cutReports s ++ givenUpReports s) s).reports
    sticky := (addReports (cutReports s ++ givenUpReports s) s).sticky
    rail :=
      withWaking (restRequests (List.finRange 3) s) s.localTime
        (releasedRail recovers false s.localTime (staying s) s.rail) }

/-- What brings the pedals to rest looks at the pedals, their tables, the time and the channels alone. -/
theorem pedalsToRest_from {s t : State} (hreplay : t.replay = s.replay) (htime : t.localTime = s.localTime)
    (htables : t.tables.pedal = s.tables.pedal) (havail : ∀ p, pedalAvailable t.rail p = pedalAvailable s.rail p) :
    pedalsToRest t =
      { t with
        replay := Vector.ofFn fun p => restedPedal p s
        rail := withWaking (restRequests (List.finRange 3) s) s.localTime t.rail } := by
  have hasks : asksRest t = asksRest s := funext fun p => by rw [asksRest, asksRest, hreplay, havail]
  have hrested : (fun p => restedPedal p t) = fun p => restedPedal p s := funext fun p => by
    rw [restedPedal, restedPedal, gapOver, gapOver, hreplay, htime, htables, havail]
  rw [pedalsToRest_eq, hrested, restRequests, hasks, htime, restRequests]

theorem stopTransition_eq {release : State → State} {recovers : Bool}
    (hrelease : ∀ t, release t = { t with rail := releasedRail recovers false t.localTime t.rail.waiting t.rail })
    (cause : StopCause) (s : State) : stopTransition cause release s = stoppedState cause recovers s := by
  have hrail : releasedRail recovers false s.localTime (staying s) { s.rail with waiting := staying s } =
      releasedRail recovers false s.localTime (staying s) s.rail := by
    unfold releasedRail
    split <;> rfl
  have havail (p : Pedal) : pedalAvailable (releasedRail recovers false s.localTime (staying s) s.rail) p =
      pedalAvailable s.rail p := pedalAvailable_released ..
  have hleft : driveStop (flush (leavePerformance .stopped cause s)) =
      { s with
        clock := { s.clock with part := .stopped, cause := cause, linkLoss := none }
        queue := flushQueue s.queue
        drive := s.drive.map stoppedContext
        reports := (addReports (cutReports s ++ givenUpReports s) s).reports
        sticky := (addReports (cutReports s ++ givenUpReports s) s).sticky
        rail := { s.rail with waiting := staying s } } := by
    rw [driveStop_eq, addReports_logged, addReports_logged]
    rfl
  rw [stopTransition]
  simp only [hleft, hrelease, hrail]
  rw [pedalsToRest_from (s := s) (hreplay := ?_) (htime := ?_) (htables := ?_) (havail := havail)]
  all_goals rfl

/-! ## The same, field by field as the manual has it -/

theorem stoppedContext_eq (d : DriveContext) :
    stoppedContext d =
      match d.state with
      | .idle => d
      | .pushing =>
        { d with
          state := .releasing, rearmed := false, pushTimer := none, trimEligible := false
          measuring := d.measuring && !d.notMeasured
          gateTimer := if (d.measuring && d.notMeasured) = true then none else d.gateTimer }
      | .holding => { d with state := .releasing, rearmed := false, trimEligible := false }
      | .releasing => { d with trimEligible := false } := by
  unfold stoppedContext cutContext cutShort
  cases hs : d.state with
  | pushing => cases hm : d.measuring <;> cases hn : d.notMeasured <;> simp [stopContext, hs, clearTrim, hm, hn]
  | idle | holding | releasing => simp [stopContext, hs, clearTrim]

theorem gapOver_eq (p : Pedal) (s : State) :
    gapOver p s =
      (s.replay[p]).lastSent.all fun us => decide (us + (s.tables.pedal[p]).rateGap * 1000 ≤ s.localTime) := by
  unfold gapOver
  cases (s.replay[p]).lastSent <;> rfl

/-- A Release All requested, written out over the list. -/
theorem withReleaseAll_eq (recovery : Bool) (us : Nat) (rs : List Request) :
    withReleaseAll recovery false us rs =
      if (rs.any fun r => isReleaseAll r.cmd) = true then
        rs.map fun r =>
          match r.cmd with
          | .releaseAll recovers restart => { r with cmd := .releaseAll (recovers || recovery) restart }
          | _ => r
      else rs ++ [⟨.releaseAll recovery false, us⟩] := by
  refine if_congr Iff.rfl (List.map_congr_left fun r _ => ?_) rfl
  unfold mergeReleaseAll
  split <;> simp_all

/-- The rail as a Stop or a Restart leaves it: Release All behind what stays, the PedalSets behind it. -/
theorem restedRail_eq (recovers restart : Bool) (us : Nat) (ws rs : List Request) (r : Rail) :
    withWaking rs us (releasedRail recovers restart us ws r) =
      { (if recovers = true ∧ r.state = .faulted then clearInFlight r else r) with
        state := if r.state = .parked ∧ rs ≠ [] then .waking else r.state
        waiting :=
          withReleaseAll (decide (recovers = true ∧ r.state = .faulted)) restart us ws ++
            match r.state, rs with
            | .parked, q :: qs => q :: ⟨.unpark, us⟩ :: qs
            | _, _ => rs } := by
  unfold withWaking releasedRail
  split <;> rfl

/-- Reports do not look at the link. -/
theorem addReports_withLink (rs : List Report) (l : Link) (s : State) :
    (addReports rs { s with link := l }).reports = (addReports rs s).reports ∧
      (addReports rs { s with link := l }).sticky = (addReports rs s).sticky := by
  rw [addReports_logged, addReports_logged]
  exact ⟨rfl, rfl⟩

theorem flushQueue_intake (q : ActionQueue) (k : Key) :
    ((flushQueue q).intake[k]) = ⟨false, (q.intake[k]).last⟩ := by
  simp [flushQueue]

/-- Settles O34: LINK_LOSS_STOP that is not due; the transition by a Stop; the transition by the link loss. -/
theorem stopFromPerformance : Obligations.StopFromPerformance := by
  refine ⟨fun s h => ?early, fun s tag hperf => ?_⟩
  case early =>
    have hnot : ¬(inPerformance s = true ∧ timerDue s.localTime s.clock.linkLoss = true) := by
      rintro ⟨hp, hd⟩
      obtain ⟨d, hd, hle⟩ := (timerDue_iff _ _).mp hd
      rcases h with h | h | ⟨d', h, hlt⟩
      · exact Bool.false_ne_true (h.symm.trans hp)
      · cases h.symm.trans hd
      · cases h.symm.trans hd
        omega
    exact congrArg Host.Outcome.next (if_neg hnot)
  intro now gapOut marked stays sets stopped
  have hsets : restRequests (List.finRange 3) s = sets := rfl
  have hstopped (l : Link) (cause : StopCause) (recovers : Bool) :
      stopped (stoppedState cause recovers { s with link := l }) cause recovers := by
    refine ⟨rfl, rfl, rfl, flushQueue_intake s.queue, fun k => ?_, fun p => ?_, fun k => ?_, ?_⟩
    · exact (show _ = stoppedContext s.drive[k] from Vector.getElem_map ..).trans (stoppedContext_eq _)
    · refine (show _ = restedPedal p s from Vector.getElem_ofFn ..).trans ?_
      rw [restedPedal, gapOver_eq]
    · exact Vector.getElem_map ..
    · have hlog := addReports_withLink (cutReports s ++ givenUpReports s) l s
      have hcut : cutReports { s with link := l } = cutReports s := rfl
      have hgiven : givenUpReports { s with link := l } = givenUpReports s := rfl
      rw [stoppedState, hcut, hgiven, hlog.1, hlog.2, givenUpReports_eq, restedRail_eq, withReleaseAll_eq]
      rfl
  refine ⟨fun hs => ⟨_, hstopped { s.link with badCount := 0 } .request true, rfl, ?_⟩,
    fun d hd hle => ⟨_, hstopped s.link .linkLoss false, rfl, ?_⟩⟩
  · have hpart : s.clock.part = .running ∨ s.clock.part = .held := of_decide_eq_true hperf
    have hstop : doStop tag (goodFrame s) =
        answerStop tag .done (railService (stopTransition .request (releaseEverything false) (goodFrame s))) := by
      have hsame : (goodFrame s).clock.part = s.clock.part := rfl
      rw [doStop, hsame]
      rcases hpart with h | h <;> rw [h]
    rw [exec_stop_taken hs, hstop, stopTransition_eq (recovers := true) (releaseEverything_rail false), answerStop,
      railService_queue]
    rfl
  · have hdue : inPerformance s = true ∧ timerDue s.localTime s.clock.linkLoss = true :=
      ⟨hperf, (timerDue_iff _ _).mpr ⟨d, hd, hle⟩⟩
    exact congrArg Host.Outcome.next ((if_pos hdue).trans
      (congrArg railService (stopTransition_eq (recovers := false) requestReleaseAll_rail .linkLoss s)))

end Sys2Proof.StopProofs
end

section
/-! PROOFS. Restart (R14) as one update of the whole state. -/

namespace Sys2Proof.StopProofs

open Sys2Proof Sys2Proof.Machine Sys2Proof.TableProofs Sys2Proof.RailListProofs Sys2Proof.LawProofs
  Sys2Proof.ControlProofs

theorem restartContext_eq (d : DriveContext) :
    restartContext d =
      if d.state = .idle then d
      else
        { d with
          trimEligible := false, pushTimer := none, gateTimer := none, measuring := false, restarting := true } := by
  unfold restartContext
  split
  · next h => rw [if_pos h]
  · next h => exact (if_neg h).symm

/-- A Restart's Release All requested, written out over the list: one that waits is then a Restart's (R142). -/
theorem withReleaseAll_restart (recovery : Bool) (us : Nat) (rs : List Request) :
    withReleaseAll recovery true us rs =
      if (rs.any fun r => isReleaseAll r.cmd) = true then
        rs.map fun r =>
          match r.cmd with
          | .releaseAll recovers _ => { r with cmd := .releaseAll (recovers || recovery) true }
          | _ => r
      else rs ++ [⟨.releaseAll recovery true, us⟩] := by
  refine if_congr Iff.rfl (List.map_congr_left fun r _ => ?_) rfl
  unfold mergeReleaseAll
  split <;> simp_all

/-- The rail as a Restart's notices leave it, its requests still to come (R139, R155). -/
def forgetful (r : Rail) : Rail := { r with passQueue := [], replies := [] }

/-- The whole state after a Restart, the rail's taking of commands still to come (R14). -/
def restartedState (s : State) : State :=
  { restartBlocks s with
    reports := []
    drive := s.drive.map restartContext
    replay := Vector.ofFn fun p => restedPedal p s
    rail :=
      withWaking (restRequests (List.finRange 3) s) s.localTime
        (releasedRail true true s.localTime (staying s) (forgetful s.rail)) }

theorem restart_eq (s : State) :
    pedalsToRest (releaseEverything true (driveRestart (restartBlocks s))) = restartedState s := by
  have hstays : (s.rail.waiting.filter fun r => !ofContext notIdle s.drive r.cmd) = staying s :=
    withdrawn_staying fun _ => rfl
  have hleft : driveRestart (restartBlocks s) =
      { restartBlocks s with
        reports := []
        drive := s.drive.map restartContext
        rail := { forgetful s.rail with waiting := staying s } } := by
    rw [← hstays]
    rfl
  have hrail : releasedRail true true s.localTime (staying s) { forgetful s.rail with waiting := staying s } =
      releasedRail true true s.localTime (staying s) (forgetful s.rail) := by
    unfold releasedRail
    split <;> rfl
  have havail (p : Pedal) : pedalAvailable (releasedRail true true s.localTime (staying s) (forgetful s.rail)) p =
      pedalAvailable s.rail p := pedalAvailable_released ..
  rw [hleft, releaseEverything_rail]
  change pedalsToRest
    { restartBlocks s with
      reports := []
      drive := s.drive.map restartContext
      rail := releasedRail true true s.localTime (staying s) { forgetful s.rail with waiting := staying s } } = _
  rw [hrail, pedalsToRest_from (s := s) (hreplay := ?_) (htime := ?_) (htables := ?_) (havail := havail)]
  all_goals rfl

/-- Settles O36: the contexts, the pedals, and the whole state. -/
theorem restartIsTaken : Obligations.RestartIsTaken := by
  intro s tag hs now gapOut recovery stays sets cleared released
  have hrail : (restartedState (goodFrame s)).rail =
      { cleared with
        state := if s.rail.state = .parked ∧ sets ≠ [] then .waking else s.rail.state
        waiting :=
          released ++
            match s.rail.state, sets with
            | .parked, p :: ps => p :: ⟨.unpark, now⟩ :: ps
            | _, _ => sets
        passQueue := []
        replies := [] } := by
    have hfaulted : decide (true = true ∧ s.rail.state = .faulted) = decide (s.rail.state = .faulted) := by simp
    refine (restedRail_eq true true s.localTime (staying s) sets (forgetful s.rail)).trans ?_
    rw [show (forgetful s.rail).state = s.rail.state from rfl, hfaulted, withReleaseAll_restart]
    by_cases hf : s.rail.state = .faulted
    · rw [show cleared = clearInFlight s.rail from if_pos hf, if_pos ⟨rfl, hf⟩]
      rfl
    · rw [show cleared = s.rail from if_neg hf, if_neg fun h => hf h.2]
      rfl
  refine ⟨restartedState (goodFrame s), ?_, fun k => ?_, fun p => ⟨?_, ?_⟩, fun k => ?_, ?_⟩
  · rw [exec_restart_taken hs, doRestart, restart_eq]
    rfl
  · exact Vector.getElem_replicate ..
  · exact Vector.getElem_map ..
  · refine (show _ = restedPedal p s from Vector.getElem_ofFn ..).trans ?_
    rw [restedPedal, gapOver_eq]
  · exact (show _ = restartContext s.drive[k] from Vector.getElem_map ..).trans (restartContext_eq _)
  · exact congrArg (fun r : Rail => ({ restartedState (goodFrame s) with rail := r } : State)) hrail

end Sys2Proof.StopProofs
end

section
/-! PROOFS. A Stop taken in Stopped and in Faulted (R9, R13), and what the rail's taking of commands leaves of it. -/

namespace Sys2Proof.StopProofs

open Sys2Proof Sys2Proof.Machine Sys2Proof.TableProofs Sys2Proof.RailListProofs Sys2Proof.LawProofs
  Sys2Proof.ControlProofs Sys2Proof.StrikeProofs Sys2Proof.CaptureLawProofs

/-! ## What the rail's taking of commands leaves of pedals and contexts (R143, R144) -/

/-- The commanded positions stay; with no run in flight none begins, and a context keeps its state or becomes Idle. -/
structure Settles (s t : State) : Prop where
  commanded : ∀ p : Pedal, (t.replay[p]).commanded = (s.replay[p]).commanded
  run : s.run = none → t.run = none
  drive : s.run = none → ∀ k : Key, (t.drive[k]).state = (s.drive[k]).state ∨ (t.drive[k]).state = .idle

namespace Settles

theorem refl (s : State) : Settles s s := ⟨fun _ => rfl, id, fun _ _ => .inl rfl⟩

theorem trans {s t u : State} (h : Settles s t) (g : Settles t u) : Settles s u where
  commanded p := (g.commanded p).trans (h.commanded p)
  run hs := g.run (h.run hs)
  drive hs k := by
    rcases g.drive (h.run hs) k with hk | hk
    · rw [hk]
      exact h.drive hs k
    · exact .inr hk

/-- What touches neither the pedals nor the contexts nor the run. -/
theorem of_same {s t : State} (hreplay : t.replay = s.replay) (hrun : t.run = s.run) (hdrive : t.drive = s.drive) :
    Settles s t := ⟨fun _ => by rw [hreplay], fun h => hrun.trans h, fun _ k => .inl (by rw [hdrive])⟩

theorem ite {s t u : State} {c : Prop} [Decidable c] (ht : c → Settles s t) (hu : ¬c → Settles s u) :
    Settles s (if c then t else u) := by
  split
  · next h => exact ht h
  · next h => exact hu h

/-- A write to one context that keeps its state or makes it Idle. -/
theorem setDrive {k : Key} {d : DriveContext} {s : State} (h : d.state = (s.drive[k]).state ∨ d.state = .idle) :
    Settles s (setDrive k d s) where
  commanded _ := rfl
  run := id
  drive _ j := by
    rw [setDrive_get]
    split
    · next hj =>
      subst hj
      exact h
    · exact .inl rfl

/-- A write to every context that keeps its state. -/
theorem mapDrive {f : DriveContext → DriveContext} (h : ∀ d, (f d).state = d.state) (s : State) :
    Settles s { s with drive := s.drive.map f } where
  commanded _ := rfl
  run := id
  drive _ _ := .inl ((congrArg DriveContext.state (Vector.getElem_map ..)).trans (h _))

end Settles

/-- A context become Idle writes the run alone, or has the run's probe request taken (R104, R161, R163). -/
theorem idleReport_cases (k : Key) (s : State) :
    (∃ run, idleReport k s = { s with run := run }) ∨ ∃ c, idleReport k s = takeProbe c s := by
  unfold idleReport
  split
  · exact .inl ⟨s.run, rfl⟩
  · split
    · split
      · exact .inl ⟨_, rfl⟩
      · split
        · exact .inl ⟨s.run, rfl⟩
        · exact .inr ⟨_, rfl⟩
      · exact .inl ⟨s.run, rfl⟩
    · exact .inl ⟨s.run, rfl⟩

theorem idleReport_replay (k : Key) (s : State) : (idleReport k s).replay = s.replay := by
  rcases idleReport_cases k s with ⟨run, h⟩ | ⟨c, h⟩
  · rw [h]
  · rw [h, takeProbe_eq]
    exact requestRail_replay ..

theorem idleReport_noRun {k : Key} {s : State} (h : s.run = none) : idleReport k s = s := by
  simp only [idleReport, h]

theorem idleReport_settles (k : Key) (s : State) : Settles s (idleReport k s) where
  commanded _ := by rw [idleReport_replay]
  run h := by rw [idleReport_noRun h, h]
  drive h _ := by rw [idleReport_noRun h]; exact .inl rfl

theorem addReport_settles (r : Report) (s : State) : Settles s (addReport r s) := by
  rw [addReport_logged]
  exact .of_same rfl rfl rfl

theorem allIdle_settles (s : State) : Settles s (allIdle s) := by
  have idle : Settles s (allMadeIdle s) :=
    ⟨fun _ => rfl, id, fun _ k => .inr (congrArg DriveContext.state (Vector.getElem_replicate ..))⟩
  rw [allIdle_eq]
  split
  · exact idle
  · exact .ite (fun _ => idle.trans (idleReport_settles _ _)) fun _ => idle

theorem recordSending_settles (c : RailCmd) (s : State) : Settles s (recordSending c s) := by
  cases c with
  | push k channel level =>
    exact (Settles.setDrive (k := k) (d := pushSent ..) (.inl rfl)).trans (.of_same rfl rfl rfl)
  | release k _ => exact .setDrive (.inl (markReleaseSent_state _ _ _))
  | releaseAll _ restart =>
    exact .ite (fun _ => allIdle_settles s) fun _ => .mapDrive (markReleaseSent_state _ _) s
  | pedalSet p =>
    refine ⟨fun q => ?_, id, fun _ _ => .inl rfl⟩
    refine (congrArg PedalReplay.commanded (setReplay_get p _ s q)).trans ?_
    split
    · next h => rw [h]
    · rfl
  | hold | park => exact .of_same rfl rfl rfl
  | unpark | passThrough => exact .refl s

theorem sendCommand_settles (start : Nat) (c : RailCmd) (s : State) : Settles s (sendCommand start c s) :=
  (Settles.of_same rfl rfl rfl : Settles s (transmit start c s)).trans (recordSending_settles c _)

theorem becomeIdle_settles (k : Key) (s : State) : Settles s (becomeIdle k s) := by
  have cleared : Settles s (setDrive k DriveContext.clear s) := .setDrive (.inr rfl)
  have noticed : Settles s (restNotice k (setDrive k DriveContext.clear s)) := cleared.trans (.of_same rfl rfl rfl)
  exact noticed.trans (idleReport_settles k _)

theorem missAtIssue_settles (k : Key) (st : Strike) (s : State) : Settles s (missAtIssue k st s) :=
  (addReport_settles _ s).trans (becomeIdle_settles k _)

theorem takeCommand_settles (start : Nat) (c : RailCmd) (s : State) : Settles s (takeCommand start c s).state := by
  unfold takeCommand
  split
  · next k _ _ =>
    split
    · exact sendCommand_settles start _ s
    · next st _ =>
      split
      · exact missAtIssue_settles k st s
      · have late : Settles s (markContextLate k st s) := .setDrive (.inl rfl)
        exact late.trans (sendCommand_settles start _ _)
  · split
    · exact sendCommand_settles start _ s
    · exact .of_same rfl rfl rfl
  · exact sendCommand_settles start _ s

theorem railTake_settles (start n : Nat) (s : State) : Settles s (railTake start n s) := by
  induction n generalizing s with
  | zero => exact .refl s
  | succ n ih =>
    refine .ite (fun _ => ?_) fun _ => .refl s
    split
    · unfold takePassThrough
      split
      · exact .refl s
      · next p rest _ =>
        have taken : Settles s { s with rail := { s.rail with passQueue := rest } } := .of_same rfl rfl rfl
        exact .ite (fun _ => taken.trans (sendCommand_settles start _ _)) fun _ => .refl s
    · next q _ =>
      have looked : Settles s
          (takeCommand start q.cmd { s with rail := { s.rail with waiting := s.rail.waiting.erase q } }).state :=
        (Settles.of_same rfl rfl rfl : Settles s (takenOut q s)).trans (takeCommand_settles start q.cmd _)
      split
      · next t ht => rw [ht] at looked; exact looked
      · next t ht => rw [ht] at looked; exact looked.trans (ih t)

theorem railService_settles (s : State) : Settles s (railService s) := railTake_settles _ _ s

/-! ## The Release All of a recovery (R157) -/

/-- The Release All of a recovery waits or is under way. -/
def Recovering (r : Rail) : Prop :=
  (∃ q ∈ r.waiting, ∃ restart, q.cmd = .releaseAll true restart) ∨
    ∃ f ∈ r.inFlight, ∃ restart, f.cmd = .releaseAll true restart

theorem wake_inFlight (s : State) : (wake s).rail.inFlight = s.rail.inFlight := by
  unfold wake
  split <;> rfl

theorem requestRail_inFlight (c : RailCmd) (s : State) : (requestRail c s).rail.inFlight = s.rail.inFlight := by
  rw [requestRail_eq]
  split
  · exact wake_inFlight (requested c s)
  · rfl

theorem idleReport_inFlight (k : Key) (s : State) : (idleReport k s).rail.inFlight = s.rail.inFlight := by
  rcases idleReport_cases k s with ⟨run, h⟩ | ⟨c, h⟩
  · rw [h]
  · rw [h, takeProbe_eq]
    exact requestRail_inFlight ..

theorem releaseAllSent_inFlight (restart : Bool) (s : State) :
    (releaseAllSent restart s).rail.inFlight = s.rail.inFlight := by
  unfold releaseAllSent
  split
  · rw [allIdle_eq]
    split
    · rfl
    · split
      · rw [idleReport_inFlight]
        rfl
      · rfl
  · rfl

/-- A Faulted rail takes its recovery's Release All, or leaves it waiting. -/
theorem railService_recovering {s : State} (hf : s.rail.state = .faulted)
    (h : ∃ q ∈ s.rail.waiting, ∃ restart, q.cmd = .releaseAll true restart) : Recovering (railService s).rail := by
  by_cases hslot : slotFree s.rail = true
  · cases hn : nextRequest s.rail with
    | none =>
      obtain ⟨q, hq, restart, hc⟩ := h
      exact absurd (by rw [hc, hf]; rfl) ((nextRequest_none_iff _).mp hn q hq)
    | some q =>
      obtain ⟨-, hgo, -⟩ := nextRequest_some hn
      rw [hf, mayGo_faulted] at hgo
      obtain ⟨restart, hc⟩ := hgo
      have htake : takeCommand (twelfths s.localTime) q.cmd (takenOut q s) =
          .sent (sendCommand (twelfths s.localTime) q.cmd (takenOut q s)) := by rw [hc]; rfl
      rw [railService, railServiceAt_sent hslot hn htake, hc]
      refine .inr ⟨⟨s.rail.seq, .releaseAll true restart, false⟩, ?_, restart, rfl⟩
      rw [show (sendCommand (twelfths s.localTime) (.releaseAll true restart) (takenOut q s)).rail.inFlight = _ from
        releaseAllSent_inFlight ..]
      exact List.mem_append_right _ List.mem_cons_self
  · rw [railService, railServiceAt_busy hslot]
    exact .inl h

theorem withReleaseAll_recovers (restart : Bool) (us : Nat) (rs : List Request) :
    ∃ q ∈ withReleaseAll true restart us rs, ∃ restart', q.cmd = .releaseAll true restart' := by
  unfold withReleaseAll
  split
  · next h =>
    obtain ⟨r, hr, hc⟩ := List.any_eq_true.mp h
    refine ⟨mergeReleaseAll true restart r, List.mem_map_of_mem hr, ?_⟩
    unfold mergeReleaseAll
    cases hrc : r.cmd <;> simp_all [isReleaseAll]
  · exact ⟨_, List.mem_append_right _ List.mem_cons_self, restart, rfl⟩

/-- A Faulted rail of which everything is released recovers (R157). -/
theorem releasedRail_recovers {r : Rail} (h : r.state = .faulted) (restart : Bool) (us : Nat) (rs : List Request) :
    ∃ q ∈ (releasedRail true restart us rs r).waiting, ∃ restart', q.cmd = .releaseAll true restart' := by
  have hdec : decide (true = true ∧ r.state = .faulted) = true := decide_eq_true ⟨rfl, h⟩
  unfold releasedRail
  rw [hdec]
  exact withReleaseAll_recovers restart us rs

/-! ## A Stop taken in Stopped (R9, R167) -/

theorem abortKey_railState (c : CalContext) (s : State) (h : s.run = some c) :
    (abortKey c s).rail.state = s.rail.state := by
  unfold abortKey
  split
  · next ha =>
    split
    · have becomes (t : State) (ht : t.run = some c) : (becomeIdle c.current t).rail = t.rail := by
        rw [becomeIdle_eq, idleReport_unnoticed (s := madeIdle c.current t) ht (.inr ha)]
        rfl
      unfold giveUpPush
      simp only
      split
      · rw [becomes _ (by simpa using h), addReport_logged]
        rfl
      · exact (congrArg Rail.state (becomes (withdraw (isPushOf c.current) s) h)).trans rfl
      · exact (congrArg Rail.state (becomes (withdraw (isPushOf c.current) s) h)).trans rfl
    · unfold beginRelease
      simp only
      rw [(closeMarked_same c.current c.current _).1, requestRail_noWake (.inr (by simp [wakesRail]))]
      rfl
    · rfl
  · rfl

theorem abortRun_railState (s : State) : (abortRun s).rail.state = s.rail.state := by
  cases h : s.run with
  | none => rw [abortRun]; simp only [h]
  | some c =>
    rw [abortRun_eq h, addReport_logged]
    exact abortKey_railState c s h

theorem abortRun_run (s : State) : (abortRun s).run = none := by
  cases h : s.run with
  | none => rw [abortRun]; simp only [h]
  | some c => rw [abortRun_eq h, addReport_run]

theorem abortRun_noRun {s : State} (h : s.run = none) : abortRun s = s := by
  rw [abortRun]
  simp only [h]

theorem addReport_getLast (r : Report) (s : State) : (addReport r s).reports.getLast? = some r := by
  unfold addReport
  split <;> simp

theorem abortRun_getLast {s : State} {c : CalContext} (h : s.run = some c) :
    (abortRun s).reports.getLast? = some (abortedResult c) := by
  rw [abortRun_eq h]
  exact addReport_getLast ..

/-- The whole state after a Stop taken in Stopped, the rail's taking of commands still to come. -/
theorem stopInStopped_eq (s : State) :
    stopInStopped s =
      { abortRun s with
        clock := { s.clock with part := .stopped, cause := .request, linkLoss := none }
        rail :=
          if s.rail.state = .faulted then
            releasedRail true false s.localTime (abortRun s).rail.waiting (abortRun s).rail
          else (abortRun s).rail } := by
  have hclock : (abortRun s).clock = s.clock := outer_clock (abortRun_calm s).outerEq
  have htime : (abortRun s).localTime = s.localTime := congrArg Outer.localTime (abortRun_calm s).outerEq
  rw [stopInStopped, recoverIfFaulted, abortRun_railState, leavePerformance]
  by_cases hf : s.rail.state = .faulted
  · rw [if_pos hf, if_pos hf, releaseEverything_rail, ← hclock, ← htime]
  · rw [if_neg hf, if_neg hf, ← hclock]

/-! ## A Stop taken in Faulted (R13, R103) -/

/-- A context after a Stop taken in Faulted. -/
def faultStoppedContext (d : DriveContext) : DriveContext := faultStopContext (cutContext d)

/-- The whole state after a Stop taken in Faulted, the rail's taking of commands still to come. -/
def faultStoppedState (s : State) : State :=
  { s with
    clock := { s.clock with part := .stopped, cause := .request, linkLoss := none }
    drive := s.drive.map faultStoppedContext
    replay := Vector.ofFn fun p => restedPedal p s
    reports := (addReports (cutReports s ++ givenUpReports s) s).reports
    sticky := (addReports (cutReports s ++ givenUpReports s) s).sticky
    rail :=
      withWaking (restRequests (List.finRange 3) s) s.localTime
        (releasedRail true false s.localTime s.rail.waiting s.rail) }

theorem stopInFaulted_eq (s : State) : stopInFaulted s = faultStoppedState s := by
  have havail (p : Pedal) : pedalAvailable (releasedRail true false s.localTime s.rail.waiting s.rail) p =
      pedalAvailable s.rail p := pedalAvailable_released ..
  have hdrive : (s.drive.map cutContext).map faultStopContext = s.drive.map faultStoppedContext := Vector.map_map ..
  have hleft : driveFaultStop (leavePerformance .stopped .request s) =
      { s with
        clock := { s.clock with part := .stopped, cause := .request, linkLoss := none }
        drive := s.drive.map faultStoppedContext
        reports := (addReports (cutReports s ++ givenUpReports s) s).reports
        sticky := (addReports (cutReports s ++ givenUpReports s) s).sticky } := by
    rw [driveFaultStop]
    simp only
    rw [stopReports_eq, addReports_logged, addReports_logged, ← hdrive]
    rfl
  rw [stopInFaulted, hleft, releaseEverything_rail]
  rw [pedalsToRest_from (s := s) (hreplay := ?_) (htime := ?_) (htables := ?_) (havail := havail)]
  all_goals rfl

theorem faultStoppedContext_eq (d : DriveContext) :
    faultStoppedContext d =
      match d.state with
      | .idle => d
      | .pushing =>
        { d with
          state := .releasing, rearmed := false, pushTimer := none, trimEligible := false
          measuring := d.measuring && !d.notMeasured
          gateTimer := if (d.measuring && d.notMeasured) = true then none else d.gateTimer }
      | .holding => { d with state := .releasing, rearmed := false, pushTimer := none, trimEligible := false }
      | .releasing => { d with state := .releasing, rearmed := false, pushTimer := none, trimEligible := false } := by
  unfold faultStoppedContext cutContext cutShort
  cases hs : d.state with
  | pushing => cases hm : d.measuring <;> cases hn : d.notMeasured <;> simp [faultStopContext, hs, clearTrim, hm, hn]
  | idle | holding | releasing => simp [faultStopContext, hs, clearTrim]

theorem faultStoppedContext_state (d : DriveContext) :
    (faultStoppedContext d).state = if d.state = .idle then .idle else .releasing := by
  rw [faultStoppedContext_eq]
  cases h : d.state <;> simp [h]

theorem restedPedal_commanded (p : Pedal) (s : State) : (restedPedal p s).commanded = 0 := by
  unfold restedPedal
  repeat' split
  all_goals rfl

end Sys2Proof.StopProofs
end

section
/-! PROOFS. A Stop taken in Stopped and in Faulted, answered with the last flush count as stored (R9, R13). -/

namespace Sys2Proof.StopProofs

open Sys2Proof Sys2Proof.Machine Sys2Proof.TableProofs Sys2Proof.RailListProofs Sys2Proof.LawProofs
  Sys2Proof.ControlProofs Sys2Proof.StrikeProofs

/-- What an answer behind the rail's taking of commands leaves of the state. -/
theorem answered_afterService (r : Response) (e : State) :
    (respond r (railService e)).clock = e.clock ∧ (respond r (railService e)).queue = e.queue ∧
      (respond r (railService e)).tables = e.tables ∧ (respond r (railService e)).sensor = e.sensor ∧
      (respond r (railService e)).tableRead = e.tableRead ∧
      (respond r (railService e)).link = { e.link with responses := e.link.responses ++ [r] } := by
  obtain ⟨-, ⟨-, -, -, -, -, htables, hread, -, hsensor, -, -, -, hlink⟩, hclock, hqueue, -⟩ := railService_after e
  exact ⟨hclock, hqueue, htables, hsensor, hread, by rw [respond, hlink]⟩

theorem releasedRail_state (recovers restart : Bool) (us : Nat) (rs : List Request) (r : Rail) :
    (releasedRail recovers restart us rs r).state = r.state := by
  unfold releasedRail
  split <;> rfl

/-- Everything released on a Faulted rail, written out. -/
theorem releasedRail_faulted {r : Rail} {recovery : Bool} (h : r.state = .faulted) (hb : recovery = true) (us : Nat)
    (rs : List Request) :
    releasedRail true false us rs r =
      { r with
        inFlight := [], window := none, tx := r.tx.map fun x => { x with live := false }
        waiting :=
          if (rs.any fun r => isReleaseAll r.cmd) = true then
            rs.map fun r =>
              match r.cmd with
              | .releaseAll recovers restart => { r with cmd := .releaseAll (recovers || recovery) restart }
              | _ => r
          else rs ++ [⟨.releaseAll recovery false, us⟩] } := by
  have hboth : true = true ∧ r.state = .faulted := ⟨rfl, h⟩
  rw [releasedRail, withReleaseAll_eq, if_pos hboth, decide_eq_true hboth, hb]
  rfl

section Stopped

variable (s : State)

theorem stopInStopped_rest :
    (stopInStopped s).clock = { s.clock with part := .stopped, cause := .request, linkLoss := none } ∧
      (stopInStopped s).queue = s.queue ∧ (stopInStopped s).tables = s.tables ∧
      (stopInStopped s).sensor = s.sensor ∧ (stopInStopped s).tableRead = s.tableRead ∧
      (stopInStopped s).link = s.link := by
  have hcalm := abortRun_calm s
  have houter := hcalm.outerEq
  rw [stopInStopped_eq]
  exact ⟨rfl, hcalm.queueEq, congrArg Outer.tables houter, congrArg Outer.sensor houter,
    congrArg Outer.tableRead houter, congrArg Outer.link houter⟩

theorem stopInStopped_recovers (h : s.rail.state = .faulted) : Recovering (railService (stopInStopped s)).rail := by
  have hstate : (abortRun s).rail.state = .faulted := (abortRun_railState s).trans h
  have hrail : (stopInStopped s).rail =
      releasedRail true false s.localTime (abortRun s).rail.waiting (abortRun s).rail := by
    rw [stopInStopped_eq]
    exact if_pos h
  refine railService_recovering ?_ ?_
  · rw [hrail, releasedRail_state, hstate]
  · rw [hrail]
    exact releasedRail_recovers hstate ..

end Stopped

theorem faultStoppedState_recovers {s : State} (h : s.rail.state = .faulted) :
    Recovering (railService (faultStoppedState s)).rail := by
  have hstate : (releasedRail true false s.localTime s.rail.waiting s.rail).state = .faulted :=
    (releasedRail_state ..).trans h
  have hrail : (faultStoppedState s).rail = { releasedRail true false s.localTime s.rail.waiting s.rail with
      waiting := (releasedRail true false s.localTime s.rail.waiting s.rail).waiting ++
        restRequests (List.finRange 3) s } := withWaking_awake (by rw [hstate]; simp) ..
  refine railService_recovering ?_ ?_
  · rw [hrail]
    exact hstate
  · obtain ⟨q, hq, hc⟩ := releasedRail_recovers h false s.localTime s.rail.waiting
    rw [hrail]
    exact ⟨q, List.mem_append_left _ hq, hc⟩

theorem doStop_stopped {s : State} (tag : Byte) (h : s.clock.part = .stopped) :
    doStop tag s = answerStop tag .done (railService (stopInStopped s)) := by
  rw [doStop, h]

theorem doStop_faulted {s : State} (tag : Byte) (h : s.clock.part = .faulted) :
    doStop tag s = answerStop tag .done (railService (faultStoppedState s)) := by
  rw [doStop, h, ← stopInFaulted_eq]

/-- Settles O35: what the Stop answers and leaves; then the run and the rail in Stopped, the contexts, the pedals and the
rail in Faulted. -/
theorem stopOutsidePerformance : Obligations.StopOutsidePerformance := by
  intro s tag hs hpart now gapOut clock recovers released cleared
  have hanswer {e : State} (hq : e.queue = s.queue) :
      answerStop tag .done (railService e) = respond ⟨0x14, tag, .done, .flush s.queue.lastFlush⟩ (railService e) := by
    rw [answerStop, railService_queue, hq]
  rcases hpart with hstopped | hfaulted
  · obtain ⟨hclock, hqueue, htables, hsensor, hread, hlink⟩ := stopInStopped_rest (goodFrame s)
    obtain ⟨h1, h2, h3, h4, h5, h6⟩ := answered_afterService ⟨0x14, tag, .done, .flush s.queue.lastFlush⟩
      (stopInStopped (goodFrame s))
    refine ⟨stopInStopped (goodFrame s), _, ?_, rfl, railService_after _, h1.trans hclock, h2.trans hqueue,
      h3.trans htables, h4.trans hsensor, h5.trans hread, ?_, stopInStopped_recovers (goodFrame s), fun _ => ?_,
      fun h => ?_⟩
    · rw [exec_stop_taken hs, doStop_stopped (s := goodFrame s) tag hstopped, hanswer hqueue]
    · rw [h6, hlink]
      rfl
    · intro a
      have he := stopInStopped_eq (goodFrame s)
      have hrun : (stopInStopped (goodFrame s)).run = none := by
        rw [he]
        exact abortRun_run _
      refine ⟨(railService_settles _).run hrun, ?_, fun hr => ?_, fun c hr => ?_⟩
      · have hrail : (if recovers then releasedRail true false now a.rail.waiting a.rail else a.rail) =
            if recovers then { cleared a.rail with waiting := released a.rail.waiting } else a.rail := by
          by_cases hf : recovers
          · have hstate : a.rail.state = .faulted := (abortRun_railState _).trans hf
            rw [if_pos hf, if_pos hf, releasedRail_faulted hstate (decide_eq_true hf),
              show cleared a.rail = clearInFlight a.rail from if_pos hf]
            rfl
          · rw [if_neg hf, if_neg hf]
        exact he.trans (congrArg (fun r : Rail => ({ a with clock := clock, rail := r } : State)) hrail)
      · rw [he, abortRun_noRun (s := goodFrame s) hr]
        exact ⟨rfl, rfl⟩
      · rw [he]
        exact abortRun_getLast (s := goodFrame s) hr
    · cases hstopped.symm.trans h
  · obtain ⟨h1, h2, h3, h4, h5, h6⟩ := answered_afterService ⟨0x14, tag, .done, .flush s.queue.lastFlush⟩
      (faultStoppedState (goodFrame s))
    have settled := railService_settles (faultStoppedState (goodFrame s))
    have hdrive (k : Key) : (faultStoppedState (goodFrame s)).drive[k] = faultStoppedContext s.drive[k] :=
      Vector.getElem_map ..
    have hreplay (p : Pedal) : (faultStoppedState (goodFrame s)).replay[p] = restedPedal p s := Vector.getElem_ofFn ..
    refine ⟨faultStoppedState (goodFrame s), _, ?_, rfl, railService_after _, h1, h2, h3, h4, h5, h6,
      faultStoppedState_recovers (s := goodFrame s), fun h => ?_, fun _ => ?_⟩
    · rw [exec_stop_taken hs, doStop_faulted (s := goodFrame s) tag hfaulted, 
        hanswer (e := faultStoppedState (goodFrame s)) rfl]
    · cases hfaulted.symm.trans h
    · intro marked cut missed reporting asked sets
      refine ⟨fun p => ?_, fun k => (hdrive k).trans (faultStoppedContext_eq _), fun hr k => ?_, fun p => ?_, ?_⟩
      · rw [respond_replay, settled.commanded, hreplay, restedPedal_commanded]
      · have hk := settled.drive hr k
        rw [hdrive, faultStoppedContext_state] at hk
        rw [respond_drive]
        split at hk
        · exact ⟨.inl (hk.elim id id), fun _ => hk.elim id id⟩
        · next h => exact ⟨hk.symm, fun hidle => absurd hidle h⟩
      · rw [hreplay, restedPedal, gapOver_eq]
      · have hrail : (faultStoppedState (goodFrame s)).rail =
            { cleared s.rail with
              state := if s.rail.state = .parked ∧ sets ≠ [] then .waking else s.rail.state
              waiting :=
                released s.rail.waiting ++
                  match s.rail.state, sets with
                  | .parked, p :: ps => p :: ⟨.unpark, now⟩ :: ps
                  | _, _ => sets } := by
          have hdec : decide (true = true ∧ s.rail.state = .faulted) = decide recovers := by simp [recovers]
          refine (restedRail_eq true false s.localTime s.rail.waiting sets s.rail).trans ?_
          rw [hdec, withReleaseAll_eq]
          by_cases hf : recovers
          · rw [show cleared s.rail = clearInFlight s.rail from if_pos hf, if_pos ⟨rfl, hf⟩] <;> rfl
          · rw [show cleared s.rail = s.rail from if_neg hf, if_neg fun h => hf h.2] <;> rfl
        have hreporting : (faultStoppedState (goodFrame s)).reports = reporting.reports ∧
            (faultStoppedState (goodFrame s)).sticky = reporting.sticky := by
          have hlog := addReports_withLink (cutReports s ++ givenUpReports s) (goodFrame s).link s
          have hgiven : givenUpReports s = missed := givenUpReports_eq s
          rw [hgiven] at hlog
          exact ⟨(congrArg (fun rs => (addReports (cutReports s ++ rs) (goodFrame s)).reports) hgiven).trans hlog.1,
            (congrArg (fun rs => (addReports (cutReports s ++ rs) (goodFrame s)).sticky) hgiven).trans hlog.2⟩
        rw [← hreporting.1, ← hreporting.2]
        exact congrArg (fun r : Rail => ({ faultStoppedState (goodFrame s) with rail := r } : State)) hrail

end Sys2Proof.StopProofs
end

section
/-! PROOFS. A rail fault (R147, R148): its notices as one update of the whole state, and the abort of a run behind them (R12,
R103, R111, R149, R167). -/

namespace Sys2Proof.FaultProofs

open Sys2Proof Sys2Proof.Machine Sys2Proof.TableProofs Sys2Proof.RailListProofs Sys2Proof.LawProofs
  Sys2Proof.StrikeProofs Sys2Proof.StopProofs Sys2Proof.ControlProofs

/-! ## The pedals (R111) -/

/-- A pedal's context after the fault notice. -/
def faultedPedal (p : Pedal) (s : State) : PedalReplay :=
  match (s.replay[p]).state with
  | .requested => { s.replay[p] with state := if gapOver p s = true then .ready else .spacing }
  | .waiting => { s.replay[p] with state := .spacing, waiting := none }
  | .ready => s.replay[p]
  | .spacing => s.replay[p]

theorem pedalFault_eq (p : Pedal) (s : State) : pedalFault p s = setReplay p (faultedPedal p s) s := by
  have same : setReplay p s.replay[p] s = s := by
    rw [setReplay, Fin.getElem_fin, Vector.set_getElem_self]
  unfold pedalFault faultedPedal
  cases (s.replay[p]).state with
  | requested | waiting => rfl
  | ready | spacing => exact same.symm

/-- The fault notice to several pedals. -/
theorem pedalFault_each (ps : List Pedal) (hnodup : ps.Nodup) (s : State) :
    ps.foldl (fun s p => pedalFault p s) s =
      { s with replay := Vector.ofFn fun p => if p ∈ ps then faultedPedal p s else s.replay[p] } := by
  induction ps generalizing s with
  | nil =>
    have hreplay : (Vector.ofFn fun p : Pedal => if p ∈ [] then faultedPedal p s else s.replay[p]) = s.replay := by
      ext1 p hp
      simp
    rw [hreplay]
    rfl
  | cons p ps ih =>
    obtain ⟨hp, hps⟩ := List.nodup_cons.mp hnodup
    have hother (q : Pedal) (hq : q ≠ p) : (pedalFault p s).replay[q] = s.replay[q] := by
      rw [pedalFault_eq, setReplay_get, if_neg hq]
    have hreplay : (Vector.ofFn fun q : Pedal =>
          if q ∈ ps then faultedPedal q (pedalFault p s) else (pedalFault p s).replay[q]) =
        Vector.ofFn fun q : Pedal => if q ∈ p :: ps then faultedPedal q s else s.replay[q] := by
      congr 1
      funext q
      by_cases hq : q = p
      · subst hq
        rw [if_neg hp, if_pos List.mem_cons_self, pedalFault_eq, setReplay_get, if_pos rfl]
      · have hgap : gapOver q (pedalFault p s) = gapOver q s := by
          rw [gapOver, hother q hq, pedalFault_eq]
          rfl
        have hone : faultedPedal q (pedalFault p s) = faultedPedal q s := by
          rw [faultedPedal, hgap, hother q hq, faultedPedal]
        simp only [hone, hother q hq, List.mem_cons, hq, false_or]
    rw [List.foldl_cons, ih hps, hreplay, pedalFault_eq]
    rfl

theorem pedalsFault_eq (s : State) :
    pedalsFault s = { s with replay := Vector.ofFn fun p => faultedPedal p s } := by
  refine (pedalFault_each allPedals (List.nodup_finRange 3) s).trans ?_
  simp only [allPedals, List.mem_finRange, if_true]

/-! ## The notices as one update (R12, R82, R97, R103, R137, R148) -/

/-- The rail at a fault. -/
def faultedRail (s : State) : Rail :=
  { clearInFlight s.rail with
    state := .faulted
    waiting := []
    parkTimer :=
      if parkWaits s.rail = true then some (s.localTime + parkLength s.tables.config.park) else s.rail.parkTimer }

theorem faultRail_eq (s : State) :
    faultRail s = { s with rail := faultedRail s, sticky := { s.sticky with railFault := true } } := by
  unfold faultRail faultedRail
  by_cases h : parkWaits s.rail = true
  · simp only [h, if_true]
    rfl
  · simp only [h]
    rfl

/-- A context after a fault: one that waits for a Restart's Release All is Idle; of a part in performance trim eligibility is
clear. -/
def faultedContext (performing : Bool) (d : DriveContext) : DriveContext :=
  if d.restarting = true then DriveContext.clear
  else if performing = true then { d with trimEligible := false }
  else d

/-- The whole state after a rail fault, a run still to be aborted. -/
def faultedState (s : State) : State :=
  { s with
    clock :=
      if inPerformance s = true then { s.clock with part := .faulted, cause := .railFault, linkLoss := none } else s.clock
    queue := if inPerformance s = true then flushQueue s.queue else s.queue
    drive := s.drive.map (faultedContext (inPerformance s))
    replay := Vector.ofFn fun p => faultedPedal p s
    capture := if inPerformance s = true then s.capture.map fun c => { c with announced := false } else s.capture
    captureFifo := s.captureFifo ++ if inPerformance s = true then closingEvents .fault s else []
    rail := faultedRail s
    sticky := { s.sticky with railFault := true } }

theorem faultNotices_eq (s : State) : faultNotices s = faultedState s := by
  have hclock : clockFault (restartIdle (faultRail s)) =
      { faultedState s with replay := s.replay } := by
    have hperf : inPerformance (restartIdle (faultRail s)) = inPerformance s := by rw [faultRail_eq]; rfl
    rw [clockFault, hperf, faultRail_eq]
    unfold faultedState
    by_cases h : inPerformance s = true
    · have hdrive : ((s.drive.map fun d => if d.restarting then DriveContext.clear else d).map clearTrim) =
          s.drive.map (faultedContext true) := by
        rw [Vector.map_map]
        congr 1
        funext d
        unfold faultedContext
        by_cases hr : d.restarting = true
        · simp [hr, clearTrim, DriveContext.clear]
        · simp [hr, clearTrim]
      simp only [h, if_true, ← hdrive]
      rfl
    · have hdrive : (s.drive.map fun d => if d.restarting then DriveContext.clear else d) =
          s.drive.map (faultedContext false) := by
        congr 1
      rw [Bool.not_eq_true] at h
      simp only [h, ← hdrive, Bool.false_eq_true, if_false, List.append_nil]
      rfl
  rw [faultNotices, hclock, pedalsFault_eq]
  rfl

/-! ## The abort of a run behind the notices (R167) -/

/-- The run drives its key at a fault: its probe was taken, and the context has not been given to a Restart. -/
def Probing (s : State) (r : CalContext) : Prop :=
  r.phase = .probing ∧ r.taken = true ∧ (s.drive[r.current]).state = .pushing ∧
    (s.drive[r.current]).restarting = false

/-- The whole state after a rail fault, with the contexts and the waiting list that the abort of a run leaves. -/
def endedState (s : State) (drive : Vector DriveContext 88) (capture : Vector CaptureContext 88) (ws : List Request) :
    State :=
  { addReports (runResult s.run) (faultedState s) with
    drive := drive, capture := capture, rail := { faultedRail s with waiting := ws }, run := none }

/-- The context of a probe whose sent push an abort ends. -/
def releasedProbe (d : DriveContext) : DriveContext :=
  { d with
    state := .releasing, rearmed := false, pushTimer := none
    measuring := d.measuring && !d.notMeasured
    gateTimer := if d.measuring = true ∧ d.notMeasured = true then none else d.gateTimer }

theorem releasedProbe_eq (d : DriveContext) :
    releasedProbe d =
      if d.measuring = true ∧ d.notMeasured = true then
        { d with state := .releasing, rearmed := false, pushTimer := none, measuring := false, gateTimer := none }
      else { d with state := .releasing, rearmed := false, pushTimer := none } := by
  unfold releasedProbe
  cases hm : d.measuring <;> cases hn : d.notMeasured <;> simp

theorem railFault_eq (s : State) : railFault s = abortRun (faultedState s) := by
  rw [← faultNotices_eq]
  rfl

theorem railFault_noRun {s : State} (h : s.run = none) :
    railFault s = endedState s (faultedState s).drive (faultedState s).capture [] := by
  rw [railFault_eq, abortRun_noRun (s := faultedState s) h, endedState, h]
  exact congrArg (fun run => ({ faultedState s with run := run } : State)) h

section Running

variable {s : State} {r : CalContext} (hr : s.run = some r)

include hr

theorem railFault_run :
    railFault s = addReport (abortedResult r) { abortKey r (faultedState s) with run := none } := by
  rw [railFault_eq, abortRun_eq (s := faultedState s) hr]

theorem railFault_aborted {drive : Vector DriveContext 88} {capture : Vector CaptureContext 88} {ws : List Request}
    (h : abortKey r (faultedState s) =
      { faultedState s with drive := drive, capture := capture, rail := { faultedRail s with waiting := ws } }) :
    railFault s = endedState s drive capture ws := by
  rw [railFault_run hr, h, endedState, hr, addReport_logged, addReports_logged]
  rfl

variable (hstopped : RunOnlyStopped s)

include hstopped

theorem notPerforming_of_run : inPerformance s = false := by
  have hpart : s.clock.part = .stopped := hstopped (by rw [hr]; rfl)
  simp [inPerformance, hpart]

theorem faultedState_drive (k : Key) :
    (faultedState s).drive[k] = if (s.drive[k]).restarting = true then DriveContext.clear else s.drive[k] := by
  refine (Vector.getElem_map ..).trans ?_
  rw [faultedContext, notPerforming_of_run hr hstopped]
  rfl

theorem faultedState_capture : (faultedState s).capture = s.capture := by
  rw [faultedState, notPerforming_of_run hr hstopped]
  rfl

theorem faultedState_probing (h : Probing s r) : (faultedState s).drive[r.current] = s.drive[r.current] := by
  obtain ⟨-, -, -, hrestart⟩ := h
  rw [faultedState_drive hr hstopped, hrestart]
  rfl

theorem railFault_atRest (h : ¬Probing s r) :
    railFault s = endedState s (faultedState s).drive (faultedState s).capture [] := by
  refine railFault_aborted hr (abortKey_none ?_)
  by_contra hall
  obtain ⟨hp, ht, hd⟩ : r.phase = .probing ∧ ¬r.taken = false ∧ ¬((faultedState s).drive[r.current]).state ≠ .pushing := by
    simpa only [not_or, ne_eq, not_not] using hall
  rw [faultedState_drive hr hstopped] at hd
  by_cases hrestart : (s.drive[r.current]).restarting = true
  · rw [if_pos hrestart] at hd
    exact hd (by simp [DriveContext.clear])
  · rw [if_neg hrestart] at hd
    exact h ⟨hp, Bool.eq_true_of_not_eq_false ht, not_not.mp hd, Bool.eq_false_of_not_eq_true hrestart⟩

variable {channel level : Nat} (hprobing : Probing s r)
  (hjob : (s.drive[r.current]).job = some (.probe channel level))

include hprobing hjob

theorem railFault_waiting (hstage : (s.drive[r.current]).stage = .waiting) :
    railFault s =
      endedState s ((faultedState s).drive.set r.current.val DriveContext.clear r.current.isLt)
        ((faultedState s).capture.set r.current.val CaptureContext.clear r.current.isLt) [] := by
  have hsame := faultedState_probing hr hstopped hprobing
  obtain ⟨hp, ht, hd, -⟩ := hprobing
  refine railFault_aborted hr ?_
  have hkey : abortKey r (faultedState s) = giveUpPush r.current (faultedState s) := by
    simp only [abortKey, hp, ht, and_self, if_true, hsame, hd, hstage]
  rw [hkey, giveUpPush_probe (s := faultedState s) hr hp ht (hsame.symm ▸ hjob)]
  rfl

theorem railFault_sent (hstage : (s.drive[r.current]).stage = .sent) :
    railFault s =
      endedState s
        ((faultedState s).drive.set r.current.val (releasedProbe s.drive[r.current]) r.current.isLt)
        (faultedState s).capture [⟨.release r.current channel, s.localTime⟩] := by
  have hsame := faultedState_probing hr hstopped hprobing
  obtain ⟨hp, ht, hd, -⟩ := hprobing
  refine railFault_aborted hr ?_
  have hkey : abortKey r (faultedState s) = beginRelease r.current (faultedState s) := by
    simp only [abortKey, hp, ht, and_self, if_true, hsame, hd, hstage]
  rw [hkey, beginRelease_probe (s := faultedState s) (hsame.symm ▸ hjob), hsame, ← releasedProbe_eq,
    requestRail_noWake (.inr (by simp [wakesRail]))]
  rfl

end Running

/-- What the abort of a run leaves of the contexts and of the waiting list: other keys as the notices left them, its key by
what the run drove of it (R167). -/
def AbortLeaves (s : State) (r : CalContext) (drive : Vector DriveContext 88) (capture : Vector CaptureContext 88)
    (ws : List Request) : Prop :=
  (∀ j : Key, j ≠ r.current →
    drive[j] = faultedContext (inPerformance s) s.drive[j] ∧ capture[j] = s.capture[j]) ∧
  (¬Probing s r → ws = [] ∧ drive[r.current] = faultedContext (inPerformance s) s.drive[r.current] ∧
    capture[r.current] = s.capture[r.current]) ∧
  (Probing s r → (s.drive[r.current]).stage = .waiting →
    ws = [] ∧ drive[r.current] = DriveContext.clear ∧ capture[r.current] = CaptureContext.clear) ∧
  ∀ channel level, Probing s r → (s.drive[r.current]).stage = .sent →
    (s.drive[r.current]).job = some (.probe channel level) →
      ws = [⟨.release r.current channel, s.localTime⟩] ∧ capture[r.current] = s.capture[r.current] ∧
        drive[r.current] = releasedProbe s.drive[r.current]

theorem set_self {α : Type} (v : Vector α 88) (k : Key) (x : α) : (v.set k.val x k.isLt)[k] = x :=
  Vector.getElem_set_self ..

theorem set_other {α : Type} (v : Vector α 88) {j k : Key} (h : j ≠ k) (x : α) : (v.set k.val x k.isLt)[j] = v[j] :=
  Vector.getElem_set_ne _ _ (Fin.val_ne_of_ne h.symm)

theorem faultedState_context (s : State) (k : Key) :
    (faultedState s).drive[k] = faultedContext (inPerformance s) s.drive[k] := Vector.getElem_map ..

/-- A rail fault during a run: what waits, and what its key and the others are left as. -/
theorem railFault_running {s : State} {r : CalContext} (hr : s.run = some r) (hstopped : RunOnlyStopped s)
    (hdriven : ProbeDriven s) :
    ∃ drive capture ws, railFault s = endedState s drive capture ws ∧
      (∀ q ∈ ws, ∃ k channel, q.cmd = .release k channel) ∧ AbortLeaves s r drive capture ws := by
  have hcapture := faultedState_capture hr hstopped
  by_cases hp : Probing s r
  · obtain ⟨channel, level, hjob⟩ := drivesProbe_job (hdriven r hr hp.1 hp.2.1 hp.2.2.1)
    cases hstage : (s.drive[r.current]).stage with
    | waiting =>
      refine ⟨_, _, _, railFault_waiting hr hstopped hp hjob hstage, by simp, fun j hj => ⟨?_, ?_⟩, fun h => absurd hp h,
        fun _ _ => ⟨rfl, set_self .., set_self ..⟩, fun _ _ _ hs => ?_⟩
      · rw [set_other _ hj, faultedState_context]
      · rw [set_other _ hj, hcapture]
      · cases hstage.symm.trans hs
    | sent =>
      refine ⟨_, _, _, railFault_sent hr hstopped hp hjob hstage, by simp, fun j hj => ⟨?_, ?_⟩, fun h => absurd hp h,
        fun _ hs => ?_, fun channel' level' _ _ hj' => ⟨?_, ?_, set_self ..⟩⟩
      · rw [set_other _ hj, faultedState_context]
      · rw [hcapture]
      · cases hstage.symm.trans hs
      · cases hjob.symm.trans hj'
        rfl
      · rw [hcapture]
  · refine ⟨_, _, _, railFault_atRest hr hstopped hp, by simp, fun j _ => ⟨faultedState_context s j, ?_⟩,
      fun _ => ⟨rfl, faultedState_context s _, ?_⟩, fun h => absurd h hp, fun _ _ h => absurd h hp⟩
    · rw [hcapture]
    · rw [hcapture]

/-- A rail fault as one update of the whole state, with what it leaves of the contexts and of the waiting list. -/
theorem railFault_ended {s : State} (hstopped : RunOnlyStopped s) (hdriven : ProbeDriven s) :
    ∃ drive capture ws, railFault s = endedState s drive capture ws ∧
      (∀ q ∈ ws, ∃ k channel, q.cmd = .release k channel) ∧
      (inPerformance s = true → ∀ k : Key, capture[k] = { s.capture[k] with announced := false }) ∧
      (s.run = none → ws = [] ∧ (∀ k : Key, drive[k] = faultedContext (inPerformance s) s.drive[k]) ∧
        (inPerformance s = false → capture = s.capture)) ∧
      ∀ r, s.run = some r → AbortLeaves s r drive capture ws := by
  cases hr : s.run with
  | none =>
    refine ⟨_, _, _, railFault_noRun hr, by simp, fun h k => ?_, fun _ => ⟨rfl, faultedState_context s, fun h => ?_⟩,
      nofun⟩
    · simp only [faultedState, h, if_true]
      exact Vector.getElem_map ..
    · simp only [faultedState, h]
      rfl
  | some r =>
    obtain ⟨drive, capture, ws, hfault, hws, hleaves⟩ := railFault_running hr hstopped hdriven
    refine ⟨drive, capture, ws, hfault, hws, fun h => ?_, nofun, fun r' h => ?_⟩
    · rw [notPerforming_of_run hr hstopped] at h
      cases h
    · cases h
      exact hleaves

/-! ## What faults the rail (R141, R146, R147) -/

/-- A Faulted rail on which no Release All waits takes no command (R143). -/
theorem railService_faulted {s : State} (hf : s.rail.state = .faulted)
    (h : ∀ q ∈ s.rail.waiting, ∃ k channel, q.cmd = .release k channel) : railService s = s := by
  by_cases hslot : slotFree s.rail = true
  · have hnone : nextRequest s.rail = none := (nextRequest_none_iff _).mpr fun q hq => by
      obtain ⟨k, channel, hc⟩ := h q hq
      rw [hf, hc]
      simp [mayGo]
    rw [railService, railServiceAt_noRequest hslot hnone, takePassThrough_none (.inr (.inr hf))]
  · exact railServiceAt_busy hslot

/-- The Ack that does not match, as R147 has it. -/
def AckFaults (s : State) (tag : Byte) (p : List Byte) : Prop :=
  match s.rail.inFlight with
  | [] => s.rail.state ≠ .faulted
  | o :: _ => p ≠ [] ∨ o.transmitted = false ∨ tag ≠ o.seq.setWidth 8

theorem takeAck_faults {s : State} {tag : Byte} {p : List Byte} (h : AckFaults s tag p) :
    takeAck tag p s = railFault s := by
  cases hl : s.rail.inFlight with
  | nil =>
    have hf : s.rail.state ≠ .faulted := by simpa only [AckFaults, hl] using h
    rw [takeAck, hl]
    exact if_neg hf
  | cons o rest =>
    have hdiffers : p ≠ [] ∨ o.transmitted = false ∨ tag ≠ o.seq.setWidth 8 := by simpa only [AckFaults, hl] using h
    have hmatch : ¬ackMatches tag p o = true := by
      simp only [ackMatches, Bool.and_eq_true, decide_eq_true_iff]
      rintro ⟨⟨hp, ht⟩, hs⟩
      rcases hdiffers with h | h | h
      · exact h hp
      · exact Bool.false_ne_true (h.symm.trans ht)
      · exact h hs
    rw [takeAck, hl]
    exact if_neg hmatch

theorem exec_ack_atPlace {s : State} (h : s.rlin = ByteIn.start) (tag : Byte) (p : List Byte) :
    exec (.ack tag p) s = .next (railService (takeAck tag p s)) :=
  congrArg Host.Outcome.next (rlinFrame_atPlace _ _ h)

theorem exec_unexpected_atPlace {s : State} (h : s.rlin = ByteIn.start) (kind tag : Byte) (p : List Byte) :
    exec (.railUnexpectedFrame kind tag p) s = .next (if s.rail.state = .faulted then s else railFault s) :=
  congrArg Host.Outcome.next (rlinFrame_atPlace _ _ h)

theorem exec_acknowledgementWindow (s : State) :
    exec .acknowledgementWindow s = .next (if windowExpired s then railFault s else s) := rfl

theorem railFault_served {s : State} (hstopped : RunOnlyStopped s) (hdriven : ProbeDriven s) :
    railService (railFault s) = railFault s := by
  obtain ⟨drive, capture, ws, hfault, hws, -⟩ := railFault_ended hstopped hdriven
  rw [hfault]
  exact railService_faulted rfl hws

theorem addReports_railFault (rs : List Report) (s : State) :
    (addReports rs s).sticky.railFault = s.sticky.railFault := by
  induction rs generalizing s with
  | nil => rfl
  | cons r rs ih =>
    refine (ih (addReport r s)).trans ?_
    unfold addReport
    split <;> rfl

theorem endedState_log (s : State) (drive : Vector DriveContext 88) (capture : Vector CaptureContext 88)
    (ws : List Request) :
    (endedState s drive capture ws).reports =
        (addReports (runResult s.run) { s with sticky := { s.sticky with railFault := true } }).reports ∧
      (endedState s drive capture ws).sticky =
        (addReports (runResult s.run) { s with sticky := { s.sticky with railFault := true } }).sticky := by
  rw [endedState, addReports_logged, addReports_logged]
  exact ⟨rfl, rfl⟩

/-- What a fault leaves of the fields that the abort of a run does not touch. -/
theorem endedState_rest (s : State) (drive : Vector DriveContext 88) (capture : Vector CaptureContext 88)
    (ws : List Request) :
    endedState s drive capture ws =
      { faultedState s with
        reports := (endedState s drive capture ws).reports
        sticky := (endedState s drive capture ws).sticky
        drive := drive, capture := capture, rail := { faultedRail s with waiting := ws }, run := none } := by
  unfold endedState
  rw [addReports_logged]

/-- The commands that fault the rail, each at its place or its time. -/
def Faults (s : State) (c : Instr) : Prop :=
  (∃ tag p, c = .ack tag p ∧ s.rlin = ByteIn.start ∧ AckFaults s tag p) ∨
    (∃ kind tag p, c = .railUnexpectedFrame kind tag p ∧ s.rlin = ByteIn.start ∧ s.rail.state ≠ .faulted) ∨
    c = .acknowledgementWindow ∧ ∃ o rest w, s.rail.inFlight = o :: rest ∧ s.rail.window = some w ∧
      w + (if o.cmd = .unpark then 50000 else 1000) ≤ s.localTime

theorem exec_faults {s : State} {c : Instr} (hstopped : RunOnlyStopped s) (hdriven : ProbeDriven s) (h : Faults s c) :
    exec c s = .next (railFault s) := by
  rcases h with ⟨tag, p, rfl, hplace, hack⟩ | ⟨kind, tag, p, rfl, hplace, hf⟩ | ⟨rfl, hwindow⟩
  · rw [exec_ack_atPlace hplace, takeAck_faults hack, railFault_served hstopped hdriven]
  · rw [exec_unexpected_atPlace hplace, if_neg hf]
  · rw [exec_acknowledgementWindow, if_pos ((IdleProofs.windowExpired_iff s).mpr hwindow)]

/-- Settles O59: what faults the rail and all that the fault leaves; then the frames and the windows that do nothing. -/
theorem railFaultsAreTaken : Obligations.RailFaultsAreTaken := by
  refine ⟨fun s c hstopped hdriven hc => ?faults, fun s => ⟨fun bytes => ⟨_, rfl⟩, fun hf hplace => ⟨?unexpected, ?ack⟩,
    fun h => ?none, fun o rest w ho hw hlt => ?early⟩⟩
  case faults =>
    intro now gapOut flagged reporting left
    obtain ⟨drive, capture, ws, hfault, hws, hcapture, hidle, hrun⟩ := railFault_ended hstopped hdriven
    have hexec : exec c s = .next (endedState s drive capture ws) :=
      (exec_faults hstopped hdriven hc).trans (congrArg _ hfault)
    have hreporting : addReports (runResult s.run) flagged = reporting := by
      cases hr : s.run with
      | none => simp only [reporting, hr]; rfl
      | some r => simp only [reporting, hr]; rfl
    obtain ⟨hreports, hsticky⟩ := endedState_log s drive capture ws
    have hflag : (endedState s drive capture ws).sticky.railFault = true :=
      (congrArg Sticky.railFault hsticky).trans (addReports_railFault (runResult s.run) flagged)
    have hrest := endedState_rest s drive capture ws
    generalize endedState s drive capture ws = t at hexec hreports hsticky hflag hrest
    have hreplay (p : Pedal) : t.replay[p] = faultedPedal p s := by
      rw [hrest]
      exact Vector.getElem_ofFn ..
    have hdrive : t.drive = drive := congrArg State.drive hrest
    have hcaptures : t.capture = capture := congrArg State.capture hrest
    have hrail : t.rail = { faultedRail s with waiting := ws } := congrArg State.rail hrest
    refine ⟨t, hexec, ?_⟩
    rw [hrail, hdrive, hcaptures]
    refine ⟨rfl, hflag, rfl, rfl, hws, rfl, rfl, rfl, rfl, rfl, rfl, rfl, congrArg State.clock hrest,
      congrArg State.queue hrest, congrArg State.captureFifo hrest, hcapture,
      hreports.trans (congrArg State.reports hreporting), hsticky.trans (congrArg State.sticky hreporting), hidle, hrun,
      fun p => ?_, congrArg State.run hrest, (congrArg State.tables hrest).trans rfl,
      (congrArg State.sensor hrest).trans rfl, (congrArg State.link hrest).trans rfl,
      (congrArg State.pedals hrest).trans rfl, (congrArg State.keyGap hrest).trans rfl,
      (congrArg State.tableRead hrest).trans rfl, (congrArg State.localTime hrest).trans rfl⟩
    rw [hreplay, faultedPedal, gapOver_eq] <;> rfl
  case unexpected =>
    intro kind tag p
    rw [exec_unexpected_atPlace hplace, if_pos hf]
  case ack =>
    intro hl tag p
    have hsame : takeAck tag p s = s := by
      rw [takeAck, hl]
      exact if_pos hf
    exact after_of_service (exec_ack_atPlace hplace tag p) hsame
  case none =>
    rw [exec_acknowledgementWindow, if_neg]
    rw [IdleProofs.windowExpired_iff]
    rintro ⟨o, rest, w, ho, hw, -⟩
    rcases h with h | h
    · cases h.symm.trans ho
    · cases h.symm.trans hw
  case early =>
    rw [exec_acknowledgementWindow, if_neg]
    rw [IdleProofs.windowExpired_iff]
    rintro ⟨o', rest', w', ho', hw', hle⟩
    cases ho.symm.trans ho'
    cases hw.symm.trans hw'
    omega

end Sys2Proof.FaultProofs
end
